-- ==== Sys2Proof/Word.lean ====
section
/-! DEFINITION. The words of the part: record bytes (12_frame_and_record_formats.md), the 16-bit
management value (R182), and the numbers of doors and branches (00_scope.md, Numbering). -/

namespace Sys2Proof

/-- One byte of a trunk or branch record. -/
abbrev Byte := BitVec 8

/-- The 16-bit value of a management request or response (R182). -/
abbrev Value := BitVec 16

/-- A door number, 0..63. -/
abbrev DoorNo := Fin 64

/-- A branch number, 0..3. -/
abbrev BranchNo := Fin 4

/-- A drop number on its branch, 0..15. -/
abbrev DropNo := Fin 16

end Sys2Proof
end

