-- ==== Sys2Proof/Syntax.lean ====
section
/-! DEFINITION. The commands of the part: one constructor of `Instr` per row of spec/opcode_table.json,
with the operands that reach the part with it. -/

namespace Sys2Proof

/-- The eight bytes of a trunk record, in sending order (12.2). -/
structure TrunkRecord where
  b0 : Byte
  b1 : Byte
  b2 : Byte
  b3 : Byte
  b4 : Byte
  b5 : Byte
  b6 : Byte
  b7 : Byte
  deriving DecidableEq, Repr

/-- The five bytes of a branch record, in sending order (12.3). -/
structure BranchRecord where
  b0 : Byte
  b1 : Byte
  b2 : Byte
  b3 : Byte
  b4 : Byte
  deriving DecidableEq, Repr

/-- Why a frame is truncated (R1, the table). -/
inductive Truncation where
  | earlyEnd
  | codeViolation
  | newStart
  | signalLoss
  deriving DecidableEq, Repr

/-- What is received in a reply window (R54): a whole record, or something that is no record (cut short by the
end of the window, or a code violation). -/
inductive Reception where
  | garbled
  | record (r : BranchRecord)
  deriving DecidableEq, Repr

/-- Target address and tag of a management request (R10). -/
structure ReqHead where
  target : BitVec 5
  tag : BitVec 4
  deriving DecidableEq, Repr

/-- Site group, argument and acknowledgment mask of a command slot (1.5). -/
structure CommandSlot where
  siteGroup : Byte
  argument : BitVec 12
  mask : BitVec 24
  deriving DecidableEq, Repr

/-- The commands: one constructor per row of spec/opcode_table.json. -/
inductive Instr where
  /-- POWER_ON with the levels of ADDR4..ADDR0. -/
  | powerOn (strap : BitVec 5)
  | resetNAssert
  /-- RESET_N_RELEASE with the levels of ADDR4..ADDR0. -/
  | resetNRelease (strap : BitVec 5)
  | tableLoadComplete
  | frameStart
  | frameTruncated (cause : Truncation)
  | frameEnd
  | headerRecord (r : TrunkRecord)
  | headerTimeout
  | slotRecord (r : TrunkRecord)
  | statusSlot (r : TrunkRecord)
  | read (h : ReqHead) (table index field : Byte) (value : Value)
  | write (h : ReqHead) (table index field : Byte) (value : Value)
  | writeSlotmap (h : ReqHead) (index field : Byte) (value : Value)
  | writeGroupmap (h : ReqHead) (index field : Byte) (value : Value)
  | writeDoor (h : ReqHead) (index field : Byte) (value : Value)
  | writeProfile (h : ReqHead) (index field : Byte) (value : Value)
  | writeProgram (h : ReqHead) (index field : Byte) (value : Value)
  | writeDayplan (h : ReqHead) (index field : Byte) (value : Value)
  | writeSegment (h : ReqHead) (index field : Byte) (value : Value)
  | writePassageCounter (h : ReqHead) (index field : Byte) (value : Value)
  | doorServiceOut (h : ReqHead) (index : Byte)
  | doorServiceReturn (h : ReqHead) (index : Byte)
  | clearDoorEvents (h : ReqHead) (index : Byte)
  | resetFault (h : ReqHead) (index : Byte)
  | clearException (h : ReqHead) (index : Byte) (value : Value)
  | store (h : ReqHead) (table : Byte)
  | storeEntryComplete
  | restore (h : ReqHead) (table : Byte)
  | restart (h : ReqHead)
  | restartBegin
  | secureGroup (c : CommandSlot)
  | releaseGroup (c : CommandSlot)
  | resumeSchedule (c : CommandSlot)
  | exemptReleased (c : CommandSlot)
  | exemptSecured (c : CommandSlot)
  | endExemption (c : CommandSlot)
  | startProgram (c : CommandSlot)
  | abortRun (c : CommandSlot)
  | fireRestore (c : CommandSlot)
  | clockTick
  /-- FIRE_IN_CHANGE with the new level of the pin. -/
  | fireInChange (high : Bool)
  | firePersistenceExpiry
  | branchSlotStart (b : BranchNo)
  /-- REPLY_WINDOW_END with what was received in the window, in order of arrival. -/
  | replyWindowEnd (b : BranchNo) (received : List Reception)
  | lineFault (b : BranchNo)
  | lineNormal (b : BranchNo)
  | flashPhaseFlip
  | dwellTick (d : DoorNo)
  | proppedBegins (d : DoorNo)
  | timeSinceCloseTick (d : DoorNo)
  | windowExpiry
  | tailExpiry (d : DoorNo)
  | deferralSecond (d : DoorNo)
  | deferralExpiry (d : DoorNo)
  | warningExpiry (d : DoorNo)
  | runTimerExpiry (d : DoorNo)
  | verifyExpiry (d : DoorNo)
  | exitShuntExpiry (d : DoorNo)
  | exitWindowExpiry (d : DoorNo)
  | coolingExpiry (d : DoorNo)
  /-- The step number is 1..10. -/
  | stepOffsetSecond (step : Nat)
  /-- The step number is 1..10. -/
  | stepStart (step : Nat)
  | unknownRequestKind (h : ReqHead) (kind : BitVec 4) (table index field : Byte) (value : Value)
  deriving DecidableEq, Repr

end Sys2Proof
end

