-- ==== Sys2Proof/Config.lean ====
section
/-! DEFINITION. What the spec leaves open (free values: constants with no body, applied to the counter
`free` of the state, so that each draw is a fresh one) and the fixed numbers the rules give. -/

namespace Sys2Proof.Config

/-- Free value (log 13, R177): how the entry whose write was cut short loads.
0 its old content, 1 its new content, 2 as defective. -/
opaque tornWrite : Nat → Fin 3

/-- Free value (log 16, R42, R52, R111): the LOCK_DRIVE level the terminal mapper has for a HOLDING door
that has no held levels. -/
opaque unheldDrive : Nat → Bool

/-- Free value (log 17, R24, R27, R162): at a minute boundary, whether the exemption table is told of the
minute before the day-plan entries of that minute are considered for firing. -/
opaque expiryFirst : Nat → Bool

/-- Free value (log 40, R168, R172, R179): the response value of a request that is answered DONE where no rule gives the
value. -/
opaque openResponse : Nat → BitVec 16

/-- Seconds of a day (R3, R16). -/
def daySeconds : Nat := 86400

/-- The header timeout in milliseconds (R4). -/
def headerTimeoutMs : Nat := 2000

/-- Persistence of FIRE_IN in milliseconds (R164). -/
def firePersistenceMs : Nat := 200

/-- Largest forward step in window, in seconds (R19). -/
def windowStep : Nat := 300

/-- Cooling time in seconds (R106). -/
def coolingSeconds : Nat := 30

/-- Time of one entry write in milliseconds (R177). -/
def entryWriteMs : Nat := 5

/-- Half period of the flash phase in milliseconds (R45). -/
def flashMs : Nat := 500

/-- The stamp of an unknown minute (R138, R140, R173). -/
def noMinute : Nat := 1440

/-- The coded value for none, unused and unknown (R182). -/
def noneCode : Nat := 65535

/-- Most entries of the exception list (R173). -/
def maxExceptions : Nat := 32

/-- Most entries of the exemption table (R159). -/
def maxExemptions : Nat := 16

/-- Most programs of the run queue (R137). -/
def maxRunQueue : Nat := 4

end Sys2Proof.Config
end

