-- ==== Sys2Proof/Machine/State.lean ====
section
/-! DEFINITION. The state of the part as plain data: every register, table, queue, timer and flag the spec names,
block by block, and the machine right after power-on. Derived quantities (committed load, sensed posture,
effective exemption, an exception's active field) are computed where they are read (log 33). -/

namespace Sys2Proof.Machine

/-- No command of this part stops it: the type has no constructor. -/
inductive Fault where
  deriving DecidableEq, Repr

/-- Refusals. No meaning of the model raises one. -/
inductive Refusal where
  /-- An arm of `exec` without a meaning yet (none is left). Safe: the machine stops. -/
  | notModelled (mnemonic : String)
  deriving DecidableEq, Repr

/-! ## Values named in the rules -/

/-- A door's posture (00_scope.md, Names). -/
inductive Posture where
  | secured | released
  deriving DecidableEq, Repr

/-- Late policy (R110). -/
inductive LatePolicy where
  | force | leave
  deriving DecidableEq, Repr

/-- The four parameters of a target set (R110). -/
structure Params where
  threshold : Nat
  deferralLimit : Nat
  policy : LatePolicy
  warning : Nat
  deriving DecidableEq, Repr

/-- Lock kind (R35, R36). -/
inductive LockKind where
  | magnetic | strike | motor
  deriving DecidableEq, Repr

/-- Terminal functions in the order of R39. -/
inductive TermFn where
  | position | bolt | exitRequest | tamper | lockDrive | sounder | indicator | generalIn | none
  deriving DecidableEq, Repr

/-- Role of a slot map entry (R9). -/
inductive Role where
  | command | status
  deriving DecidableEq, Repr

/-- Kind of a program (R135). -/
inductive ProgramKind where
  | lockup | release
  deriving DecidableEq, Repr

/-- Start mode of a step (R135). -/
inductive StartMode where
  | withPrevious | afterPrevious
  deriving DecidableEq, Repr

/-- Site command (R25). -/
inductive SiteCommand where
  | normal | sweepHold | emergencyRelease
  deriving DecidableEq, Repr

/-- Trunk state (R4). -/
inductive TrunkState where
  | noTime | tracking | holdover
  deriving DecidableEq, Repr

/-- The fifteen door states in the order of R111's table. -/
inductive DoorState where
  | absent | holding | released | secured | quietWait | warning | awaitGrant | driving | verifying | exitShunt
  | cooling | faulted | lost | egress | outOfService
  deriving DecidableEq, Repr

/-- Fallback of an attempt (R110). -/
inductive Fallback where
  | none | secured | released | faulted
  deriving DecidableEq, Repr

/-- Deferral (R110, R121). `waived` is an EXPIRED one whose door has proceeded from WARNING, so that it is never acted on. -/
inductive Deferral where
  | none
  | counting (remaining : Nat)
  | expired
  | waived
  deriving DecidableEq, Repr

/-- How a SECURED door last opened (R127). -/
inductive OpeningMark where
  | none | inWindow | forced
  deriving DecidableEq, Repr

/-- Sub-reason of TAMPER (R112). -/
inductive SubReason where
  | terminal | localFault
  deriving DecidableEq, Repr

/-- Exception kinds in the order of R173. -/
inductive Kind where
  | notSecured | notReleased | propped | forcedOpen | overcurrent | openCircuit | lost | tamper | leftReleased
  | budget | storeDefect | runDropped | clockStep
  deriving DecidableEq, Repr

/-- Outcomes in the order of R154. -/
inductive DoorOutcome where
  | done | already | exempt | absent | lost | leftReleased | proppedLate | failed | budget | overridden
  deriving DecidableEq, Repr

/-- Kind of a pulse (R62). -/
inductive PulseKind where
  | throw | withdraw
  deriving DecidableEq, Repr

/-- Pulse state (R55). -/
inductive PulseState where
  | none
  | outstanding (k : PulseKind)
  | held (k : PulseKind)
  | cancelled (k : PulseKind)
  deriving DecidableEq, Repr

/-- Charge basis (R84). -/
inductive Basis where
  | none | hold | run | tail
  deriving DecidableEq, Repr

/-- A drop that has ceased to be fitted: awaiting its last visit, or in it (R33, R51). -/
inductive Leaving where
  | no | awaiting | lastVisit
  deriving DecidableEq, Repr

/-- A timer: units remaining, milliseconds gone of the present unit, and whether it counts. -/
structure Timer where
  remaining : Nat
  sub : Nat
  running : Bool
  deriving DecidableEq, Repr

def Timer.stopped : Timer := ⟨0, 0, false⟩
def Timer.start (n : Nat) : Timer := ⟨n, 0, true⟩

/-! ## Tables -/

/-- The SEGMENT entry (R171). `fireActiveHigh` is the fire input polarity. -/
structure SegmentEntry where
  capacity : Nat
  windowLength : Nat
  fireActiveHigh : Bool
  params : Params
  deriving DecidableEq, Repr

/-- A used slot map entry (R9). -/
structure SlotMapEntry where
  slot : Nat
  role : Role
  deriving DecidableEq, Repr

/-- A used group map entry (R48). -/
structure GroupMapEntry where
  site : Nat
  localGroup : Fin 16
  deriving DecidableEq, Repr

/-- A DOOR entry (R32). -/
structure DoorEntry where
  fitted : Bool
  profile : Fin 8
  groups : BitVec 16
  rank : Nat
  defaultPosture : Posture
  deriving DecidableEq, Repr

/-- A PROFILE entry (R35). `inverted` holds the polarities. -/
structure ProfileEntry where
  lockKind : LockKind
  functions : Vector TermFn 6
  inverted : Vector Bool 6
  runUnits : Nat
  holdUnits : Nat
  runTime : Nat
  verifyTime : Nat
  retryLimit : Nat
  settleTime : Nat
  bounceLimit : Nat
  proppedLimit : Nat
  overLimit : Nat
  underLimit : Nat
  persistence : Nat
  hysteresis : Nat
  faultLatch : Bool
  exitShuntTime : Nat
  deriving DecidableEq, Repr

/-- A PROGRAM entry (R135). Kind and step count have a meaning in step 1 entries only. -/
structure ProgramEntry where
  kind : ProgramKind
  stepCount : Nat
  localGroup : Fin 16
  startMode : StartMode
  offset : Nat
  params : Params
  deriving DecidableEq, Repr

/-- A used day-plan entry (R26). -/
structure DayPlanEntry where
  minute : Nat
  program : Fin 8
  deriving DecidableEq, Repr

/-- A working entry and its defective mark (R175). -/
structure Working (α : Type) where
  value : α
  defective : Bool
  deriving DecidableEq, Repr

/-- The condition of a stored entry as its words read (R175, log 34). -/
inductive Stored (α : Type) where
  | erased
  | readable (a : α)
  | correctable (a : α)
  | uncorrectable
  deriving DecidableEq, Repr

/-- The stored tables by name, in the order of R168. -/
inductive TableName where
  | segment | slotmap | groupmap | door | profile | program | dayplan
  deriving DecidableEq, Repr

/-- The working tables (R168, R175). `corrected` holds the corrected marks in the order of `TableName`. -/
structure Tables where
  segment : Working SegmentEntry
  slotmap : Vector (Working (Option SlotMapEntry)) 8
  groupmap : Vector (Working (Option GroupMapEntry)) 32
  door : Vector (Working DoorEntry) 64
  profile : Vector (Working ProfileEntry) 8
  program : Vector (Working ProgramEntry) 80
  dayplan : Vector (Working (Option DayPlanEntry)) 48
  corrected : Vector Bool 7
  deriving DecidableEq, Repr

/-- The non-volatile tables (R175). -/
structure StoredTables where
  segment : Stored SegmentEntry
  slotmap : Vector (Stored (Option SlotMapEntry)) 8
  groupmap : Vector (Stored (Option GroupMapEntry)) 32
  door : Vector (Stored DoorEntry) 64
  profile : Vector (Stored ProfileEntry) 8
  program : Vector (Stored ProgramEntry) 80
  dayplan : Vector (Stored (Option DayPlanEntry)) 48
  deriving DecidableEq, Repr

def Params.default : Params := ⟨32, 600, .force, 15⟩
def SegmentEntry.default : SegmentEntry := ⟨1000, 30, false, .default⟩
def DoorEntry.default : DoorEntry := ⟨false, 0, 0, 128, .released⟩
def ProfileEntry.default : ProfileEntry :=
  { lockKind := .magnetic, functions := .replicate 6 .none, inverted := .replicate 6 false
    runUnits := 0, holdUnits := 0, runTime := 10, verifyTime := 5, retryLimit := 1, settleTime := 10
    bounceLimit := 10, proppedLimit := 300, overLimit := 255, underLimit := 0, persistence := 3
    hysteresis := 2, faultLatch := true, exitShuntTime := 10 }
def ProgramEntry.default : ProgramEntry := ⟨.lockup, 0, 0, .withPrevious, 0, .default⟩

/-- The working tables of erased stored tables: the defaults of R9, R26, R32, R35, R48, R135, R171. -/
def Tables.default : Tables :=
  { segment := ⟨.default, false⟩
    slotmap := .replicate 8 ⟨none, false⟩
    groupmap := .replicate 32 ⟨none, false⟩
    door := .replicate 64 ⟨.default, false⟩
    profile := .replicate 8 ⟨.default, false⟩
    program := .replicate 80 ⟨.default, false⟩
    dayplan := .replicate 48 ⟨none, false⟩
    corrected := .replicate 7 false }

def StoredTables.erased : StoredTables :=
  { segment := .erased
    slotmap := .replicate 8 .erased
    groupmap := .replicate 32 .erased
    door := .replicate 64 .erased
    profile := .replicate 8 .erased
    program := .replicate 80 .erased
    dayplan := .replicate 48 .erased }

/-- Store state (R175, R177): IDLE (`writing = none`), or WRITING with the table, the next index and the
milliseconds spent on its entry. -/
structure StoreState where
  writing : Option (TableName × Nat)
  elapsed : Nat
  deriving DecidableEq, Repr

/-! ## The door -/

/-- The live status flags (R110). -/
structure Live where
  notSecured : Bool
  notReleased : Bool
  propped : Bool
  overcurrent : Bool
  openCircuit : Bool
  lost : Bool
  tamper : Bool
  deriving DecidableEq, Repr

/-- The sticky events (R110) and the sub-reason TAMPER carries (R112). -/
structure Sticky where
  notSecured : Bool
  notReleased : Bool
  propped : Bool
  overcurrent : Bool
  openCircuit : Bool
  lost : Bool
  tamper : Bool
  forcedOpen : Bool
  leftReleased : Bool
  budget : Bool
  tamperReason : Option SubReason
  deriving DecidableEq, Repr

def Live.clear : Live := ⟨false, false, false, false, false, false, false⟩
def Sticky.clear : Sticky := ⟨false, false, false, false, false, false, false, false, false, false, none⟩

/-- A pending target (R118). -/
structure PendingTarget where
  posture : Posture
  params : Params
  owed : Option Nat
  deriving DecidableEq, Repr

/-- The door record of the door engine (R110), and what R47, R95, R119, R131, R132, R134 keep beside it. -/
structure Engine where
  state : DoorState
  inService : Bool
  target : Option Posture
  params : Params
  fallback : Fallback
  owed : Option Nat
  pendingTarget : Option PendingTarget
  drive : Bool
  retry : Nat
  force : Bool
  deferral : Deferral
  /-- Milliseconds gone of the deferral timer's present second (R121). -/
  deferralSub : Nat
  pulseInAttempt : Bool
  lastSettled : DoorState
  timer : Timer
  exitWindow : Bool
  openingMark : OpeningMark
  live : Live
  sticky : Sticky
  /-- The target held before the present attempt (R119, fallback FAULTED). -/
  beforeAttempt : Option Posture
  /-- The state a LOST door was lost from (R131). -/
  lostFrom : DoorState
  /-- A target set was recorded while LOST (R114, R132). -/
  recordedWhileLost : Bool
  /-- The fire latch abandoned the actuation of a LOST door (R134). -/
  abandoned : Bool
  /-- The pulse of the present actuation is acknowledged (R47). -/
  pulseAcked : Bool
  /-- The run time the last pulse was posted with (R52). -/
  pulseRunTime : Nat
  deriving DecidableEq, Repr

/-- The drop record (R55), the held levels (R42) and the last visit (R33). -/
structure Drop where
  missCount : Nat
  goodCount : Nat
  lost : Bool
  reference : Bool
  firstReply : Bool
  pulseSeq : BitVec 2
  pulse : PulseState
  lastSeq : BitVec 2
  lastLocalFault : Bool
  /-- Held levels: the active state of each output terminal, T1 at bit 0 (R42). -/
  held : Option (BitVec 6)
  leaving : Leaving
  deriving DecidableEq, Repr

/-- What the last good reply gave (R46); `none` is unknown. For POSITION, `some true` is OPEN. -/
structure Inputs where
  position : Option Bool
  bolt : Option Bool
  exitRequest : Option Bool
  tamper : Option Bool
  reportedDrive : Option Bool
  current : Option Nat
  inputLevels : Option (BitVec 6)
  outputLevels : Option (BitVec 6)
  deriving DecidableEq, Repr

/-- A quiet watch (R82). -/
structure Watch where
  threshold : Nat
  force : Bool
  deriving DecidableEq, Repr

/-- The traffic monitor's items (R67). -/
structure Monitor where
  enable : Bool
  isOpen : Bool
  dwell : Nat
  dwellSub : Nat
  latchedBounce : Nat
  latchedPropped : Nat
  lastOpen : Nat
  passages : BitVec 24
  windowCount : Nat
  activity : Nat
  sinceClose : Option Nat
  sinceSub : Nat
  propped : Bool
  watch : Option Watch
  deriving DecidableEq, Repr

/-- The supply arbiter's items per door (R84). -/
structure Charge where
  units : Nat
  basis : Basis
  tail : Nat
  tailSub : Nat
  deriving DecidableEq, Repr

/-- The drive supervisor's counts (R99). -/
structure Supervision where
  overCount : Nat
  underCount : Nat
  deriving DecidableEq, Repr

/-- Everything the blocks keep of one door. -/
structure Door where
  eng : Engine
  drop : Drop
  inputs : Inputs
  mon : Monitor
  charge : Charge
  sup : Supervision
  deriving DecidableEq, Repr

/-- R110's values after a reset, and of a door that becomes fitted (its service mark apart). -/
def Engine.initial (p : Params) : Engine :=
  { state := .absent, inService := true, target := none, params := p, fallback := .none, owed := none
    pendingTarget := none, drive := false, retry := 0, force := false, deferral := .none, deferralSub := 0
    pulseInAttempt := false, lastSettled := .absent, timer := .stopped, exitWindow := false, openingMark := .none
    live := .clear, sticky := .clear, beforeAttempt := none, lostFrom := .absent, recordedWhileLost := false
    abandoned := false, pulseAcked := false, pulseRunTime := 0 }

def Drop.initial : Drop :=
  { missCount := 0, goodCount := 0, lost := false, reference := false, firstReply := false, pulseSeq := 0
    pulse := .none, lastSeq := 0, lastLocalFault := false, held := none, leaving := .no }

def Inputs.unknown : Inputs := ⟨none, none, none, none, none, none, none, none⟩

def Monitor.initial : Monitor :=
  { enable := false, isOpen := false, dwell := 0, dwellSub := 0, latchedBounce := 0, latchedPropped := 300
    lastOpen := 0, passages := 0, windowCount := 0, activity := 0, sinceClose := none, sinceSub := 0
    propped := false, watch := none }

def Charge.initial : Charge := ⟨0, .none, 0, 0⟩

def Door.initial (p : Params) : Door :=
  ⟨.initial p, .initial, .unknown, .initial, .initial, ⟨0, 0⟩⟩

/-! ## The segment: the blocks between the tables and the doors -/

/-- A branch poller and its line (R50, R52, R55, R60). -/
structure Branch where
  lineFault : Bool
  visiting : Option DropNo
  next : Option DropNo
  /-- The slot in progress is a miss whatever arrives (R60, R61). -/
  spoiled : Bool
  /-- The command record of the slot in progress or last sent. -/
  sent : Option BranchRecord
  sentApply : Bool
  /-- The LOCK_DRIVE level that record sent, before polarity (R58). -/
  sentLock : Bool
  deriving DecidableEq, Repr

/-- An entry of the actuation queue (R84, R87). -/
structure QueueEntry where
  door : DoorNo
  rank : Nat
  deriving DecidableEq, Repr

/-- An entry of the exception list (R173); its active field is computed (R174). -/
structure ExceptionEntry where
  door : Option DoorNo
  kind : Kind
  subReason : Option SubReason
  firstMinute : Nat
  lastMinute : Nat
  occurrences : Nat
  deriving DecidableEq, Repr

/-- An exemption entry (R159). `keep` is the posture its kind keeps. -/
structure Exemption where
  group : Fin 16
  keep : Posture
  expiry : Nat
  dayCount : Nat
  deriving DecidableEq, Repr

/-- What set the fire latch (R163). -/
inductive LatchCause where
  | fireIn | header
  deriving DecidableEq, Repr

/-- The fire release unit (R163). -/
structure Fire where
  latch : Bool
  cause : Option LatchCause
  reading : Bool
  persistence : Nat
  lastEmergency : Bool
  deriving DecidableEq, Repr

/-- What a step holds for a member (R140). -/
inductive Mark where
  | nothing
  | following (step : Nat)
  | outcome (o : DoorOutcome)
  deriving DecidableEq, Repr

structure Member where
  door : DoorNo
  mark : Mark
  deriving DecidableEq, Repr

/-- State of a step (R140). -/
inductive StepState where
  | delaying | active | done
  deriving DecidableEq, Repr

/-- A step record (R140). `due` marks a step that starts now (R141). -/
structure StepRecord where
  state : StepState
  baseReached : Bool
  remaining : Nat
  sub : Nat
  due : Bool
  startMinute : Option Nat
  doneMinute : Option Nat
  members : List Member
  deriving DecidableEq, Repr

/-- A run record (R140); `steps` holds steps 1, 2, ... in order. -/
structure Run where
  program : Fin 8
  startMinute : Nat
  steps : List StepRecord
  deriving DecidableEq, Repr

/-- How a run ended (R154). -/
inductive Ending where
  | completed | aborted | fire
  deriving DecidableEq, Repr

/-- The last-run summary (R154); `counts` in the order of the outcomes. -/
structure Summary where
  program : Fin 8
  ending : Ending
  startMinute : Nat
  endMinute : Nat
  stepsStarted : Nat
  counts : List Nat
  deriving DecidableEq, Repr

/-- Why a start request is dropped (R138). -/
inductive DropReason where
  | notLoaded | fire | defective | disabled | active | queued | full
  deriving DecidableEq, Repr

structure DroppedRequest where
  program : Fin 8
  reason : DropReason
  minute : Nat
  deriving DecidableEq, Repr

/-- The sweep sequencer (R137). `unlistedDrops` counts the NOT_LOADED drops whose exception waits for the end of
the load. -/
structure Sequencer where
  run : Option Run
  queue : List (Fin 8)
  summary : Option Summary
  dropped : Option DroppedRequest
  unlistedDrops : Nat
  deriving DecidableEq, Repr

/-- The window clock (R76). -/
structure WindowClock where
  length : Nat
  elapsedMs : Nat
  deriving DecidableEq, Repr

/-- The flash phase (R45). -/
structure Flash where
  on : Bool
  sub : Nat
  deriving DecidableEq, Repr

/-- Everything between the tables and the doors that runs by itself. -/
structure Segment where
  doors : Vector Door 64
  branches : Vector Branch 4
  queue : List QueueEntry
  learning : Bool
  initialDone : Bool
  exceptions : List ExceptionEntry
  exemptions : List Exemption
  fire : Fire
  seqr : Sequencer
  window : WindowClock
  flash : Flash
  /-- The model's own: how many free values have been drawn (log 4). -/
  free : Nat
  deriving DecidableEq, Repr

def Branch.initial : Branch := ⟨false, none, none, false, none, false, false⟩
def Fire.initial : Fire := ⟨false, none, false, 0, false⟩
def Sequencer.initial : Sequencer := ⟨none, [], none, none, 0⟩

/-- The segment after a reset, before the end of the table load, with the catch-up parameters and the window length of
the working SEGMENT entry. -/
def Segment.initial (e : SegmentEntry) (free : Nat) : Segment :=
  { doors := .replicate 64 (.initial e.params), branches := .replicate 4 .initial, queue := [], learning := true
    initialDone := false, exceptions := [], exemptions := [], fire := .initial, seqr := .initial
    window := ⟨e.windowLength, 0⟩, flash := ⟨false, 0⟩, free := free }

/-! ## Trunk port, clock and the whole -/

/-- Where the trunk port stands in a frame (R1). `slots n` awaits slot n; 64 is after slot 63. -/
inductive FramePhase where
  | outside
  | awaitHeader
  | slots (n : Nat)
  deriving DecidableEq, Repr

/-- What TRUNK_OUT sends (R2). -/
inductive TrunkSymbol where
  | startMarker
  | record (r : TrunkRecord)
  | endMarker
  deriving DecidableEq, Repr

/-- The trunk port (R1 to R7, R15). `out` is what the last trunk event put on TRUNK_OUT (log 12). -/
structure TrunkPort where
  inserted : Bool
  address : Option Nat
  phase : FramePhase
  headerValid : Bool
  held : Option TrunkRecord
  out : List TrunkSymbol
  state : TrunkState
  count : Nat
  sinceHeader : Nat
  restartPending : Bool
  deriving DecidableEq, Repr

/-- The segment clock (R16); `second = none` is unknown. `justSet` is the model's own: a header has changed the second of day, and
neither a millisecond nor a tick that was due has come since (R22, log 71). -/
structure Clock where
  second : Option Nat
  phase : Nat
  justSet : Bool
  today : Nat
  tomorrow : Nat
  yesterday : Nat
  fired : Vector Bool 48
  lastSite : SiteCommand
  deriving DecidableEq, Repr

/-- How far the part is from running (R6, R15, R175). -/
inductive Power where
  | resetHeld | loading | reloading | running
  deriving DecidableEq, Repr

structure State where
  pending : List Instr
  power : Power
  fireInHigh : Bool
  trunk : TrunkPort
  clock : Clock
  work : Tables
  stored : StoredTables
  store : StoreState
  seg : Segment
  deriving DecidableEq, Repr

def TrunkPort.initial (address : Option Nat) : TrunkPort :=
  { inserted := false, address := address, phase := .outside, headerValid := false, held := none, out := []
    state := .noTime, count := 0, sinceHeader := 0, restartPending := false }

def Clock.initial : Clock := ⟨none, 0, false, 7, 7, 7, .replicate 48 false, .normal⟩

/-- The machine right after power-on of a new part: INSERT deasserted, every block in its power-on state, the load of
erased tables begun (R15, R175; logs 1, 2, 3, 4). -/
def State.reset : State :=
  { pending := [], power := .loading, fireInHigh := true, trunk := .initial none, clock := .initial
    work := .default, stored := .erased, store := ⟨none, 0⟩, seg := .initial .default 0 }

end Sys2Proof.Machine
end

