-- ==== Sys2Proof/Machine/Ops.lean ====
section
/-! DEFINITION. Named operations over the state that every block uses: what a block may read (`Env`), the doors and
their tables, timers, and the check of records. -/

namespace Sys2Proof.Machine

/-! ## Vectors -/

/-- `f` on every entry, in index order. -/
def vmap {α β : Type} {n : Nat} (f : α → β) (v : Vector α n) : Vector β n :=
  ⟨⟨v.toList.map f⟩, by simp⟩

/-- The vector whose entry i is `f i`. -/
def vgen {β : Type} (n : Nat) (f : Fin n → β) : Vector β n :=
  ⟨⟨(List.finRange n).map f⟩, by simp⟩

/-! ## The check (R180) -/

/-- One data bit of the check: shift toward the most significant end, and combine with 01001101 when the bit shifted
out differs from the data bit (R180). -/
def crcBit (reg : Byte) (bit : Bool) : Byte :=
  if reg.msb != bit then (reg <<< 1) ^^^ 0x4D#8 else reg <<< 1

/-- One byte of the check, from bit 7 down to bit 0 (R180). -/
def crcByte (reg : Byte) (b : Byte) : Byte :=
  [7, 6, 5, 4, 3, 2, 1, 0].foldl (fun r i => crcBit r (b.getLsbD i)) reg

/-- The check byte of the bytes before it, register preset to all ones (R180). -/
def crc (bytes : List Byte) : Byte := bytes.foldl crcByte 0xFF#8

/-- The check of a trunk record's seven first bytes. -/
def trunkCheck (r : TrunkRecord) : Byte := crc [r.b0, r.b1, r.b2, r.b3, r.b4, r.b5, r.b6]

/-- A trunk record passes its check (1.1). -/
def trunkPasses (r : TrunkRecord) : Bool := r.b7 == trunkCheck r

/-- The record with a freshly computed check byte (R2). -/
def trunkSeal (r : TrunkRecord) : TrunkRecord := { r with b7 := trunkCheck r }

/-- The check of a branch record's four first bytes. -/
def branchCheck (r : BranchRecord) : Byte := crc [r.b0, r.b1, r.b2, r.b3]

/-- A branch record passes its check. -/
def branchPasses (r : BranchRecord) : Bool := r.b4 == branchCheck r

/-- The branch record with a freshly computed check byte (R180). -/
def branchSeal (r : BranchRecord) : BranchRecord := { r with b4 := branchCheck r }

/-! ## Numbering (00_scope.md) -/

/-- The branch of a door: n div 16. -/
def branchOf (d : DoorNo) : BranchNo := ⟨d.val / 16, by omega⟩

/-- The drop of a door: n mod 16. -/
def dropOf (d : DoorNo) : DropNo := ⟨d.val % 16, by omega⟩

/-- The door at a drop of a branch. -/
def doorAt (b : BranchNo) (k : DropNo) : DoorNo := ⟨16 * b.val + k.val, by omega⟩

/-- All doors in ascending number. -/
def allDoors : List DoorNo := List.finRange 64

/-- The drops of a branch in ascending number. -/
def allDrops : List DropNo := List.finRange 16

/-! ## What a block reads of the others -/

/-- What the blocks of the segment read of the table store, the trunk port and the clock. -/
structure Env where
  /-- The load has ended: tables may be used. -/
  loaded : Bool
  trunkState : TrunkState
  clock : Clock
  work : Tables

def State.env (s : State) : Env := ⟨s.power == .running, s.trunk.state, s.clock, s.work⟩

/-- The minute of day (R16), or 1440 while the clock is unknown (R138, R140, R173). -/
def Clock.minute (c : Clock) : Nat :=
  match c.second with
  | none => Config.noMinute
  | some t => t / 60

def Env.minute (e : Env) : Nat := e.clock.minute

/-- The clock is known (R16). -/
def Env.known (e : Env) : Bool := e.clock.second.isSome

/-- The site command in force (R25). -/
def Env.siteInForce (e : Env) : SiteCommand :=
  if e.trunkState = .tracking then e.clock.lastSite else .normal

/-- The site command in force is SWEEP_HOLD. -/
def Env.hold (e : Env) : Bool := e.siteInForce == .sweepHold

def Env.doorEntry (e : Env) (d : DoorNo) : DoorEntry := e.work.door[d].value

/-- The door's entry is loaded, not defective and marks the door fitted (R33). -/
def Env.fitted (e : Env) (d : DoorNo) : Bool :=
  e.loaded && !e.work.door[d].defective && (e.doorEntry d).fitted

def Env.profile (e : Env) (d : DoorNo) : ProfileEntry := e.work.profile[(e.doorEntry d).profile].value

/-- The door's profile carries a defective mark (R38). -/
def Env.profileDefective (e : Env) (d : DoorNo) : Bool := e.work.profile[(e.doorEntry d).profile].defective

/-- The catch-up parameters (R110). -/
def Env.catchUp (e : Env) : Params := e.work.segment.value.params

/-- Door d is a member of local group g by its groups set (R32). -/
def DoorEntry.inGroup (x : DoorEntry) (g : Fin 16) : Bool := x.groups.getLsbD g.val

/-! ## Terminals (R39, R40) -/

/-- The terminals of a drop module, T1 first. -/
def allTerms : List (Fin 6) := List.finRange 6

/-- The terminal a function stands on, if it is assigned (R40). -/
def ProfileEntry.terminalOf (p : ProfileEntry) (f : TermFn) : Option (Fin 6) :=
  allTerms.find? (fun k => p.functions[k] == f)

def ProfileEntry.assigns (p : ProfileEntry) (f : TermFn) : Bool := (p.terminalOf f).isSome

/-- LOCK_DRIVE, SOUNDER and INDICATOR are outputs, every other function an input (R39). -/
def TermFn.isOutput : TermFn → Bool
  | .lockDrive | .sounder | .indicator => true
  | _ => false

/-- A terminal's active state from its electrical level, or the level from the state (R39: high is active under
NORMAL, low under INVERTED). -/
def ProfileEntry.polar (p : ProfileEntry) (k : Fin 6) (level : Bool) : Bool := level != p.inverted[k]

/-- Six bits, T1 at bit 0 (12.3). -/
def bits6 (f : Fin 6 → Bool) : BitVec 6 :=
  allTerms.foldl (fun acc k => if f k then acc ||| (1#6 <<< k.val) else acc) 0#6

/-! ## Doors -/

def Segment.door (g : Segment) (d : DoorNo) : Door := g.doors[d]

def Segment.putDoor (g : Segment) (d : DoorNo) (x : Door) : Segment := { g with doors := g.doors.set d x }

/-- The LOCK_DRIVE level of the door's held levels; off where it has none or the function is not assigned. Held levels belong to
terminals: where a RESTORE moves LOCK_DRIVE under a HOLDING door, the held level of its new terminal is read, off for one that was
an input (log 55). -/
def Door.heldDrive (p : ProfileEntry) (x : Door) : Bool :=
  match x.drop.held, p.terminalOf .lockDrive with
  | some h, some k => h.getLsbD k.val
  | _, _ => false

/-- The LOCK_DRIVE level as the terminal mapper decides it (R43). R43 decides the level of a LOCK_DRIVE terminal and does not say what it is
without one: the model has the held level off there, and the drive request as it stands (log 83). -/
def Door.lockLevel (latch : Bool) (p : ProfileEntry) (x : Door) : Bool :=
  if latch then false
  else match x.eng.state with
    | .outOfService => false
    | .holding => x.heldDrive p
    | _ => x.eng.drive

/-- Change a door. A change that takes its LOCK_DRIVE level from on to off clears both supervision counts (R104). -/
def Segment.upd (e : Env) (d : DoorNo) (f : Door → Door) (g : Segment) : Segment :=
  let x := g.door d
  let y := f x
  let p := e.profile d
  if x.lockLevel g.fire.latch p && !y.lockLevel g.fire.latch p then
    g.putDoor d { y with sup := ⟨0, 0⟩ }
  else g.putDoor d y

/-- Do `f` for each door of a list, in order. -/
def forDoors (ds : List DoorNo) (f : DoorNo → Segment → Segment) (g : Segment) : Segment :=
  ds.foldl (fun acc d => f d acc) g

/-- The states in which no actuation is in progress (R111). -/
def DoorState.settled : DoorState → Bool
  | .absent | .holding | .released | .secured | .faulted | .lost | .egress | .outOfService => true
  | .quietWait | .warning | .awaitGrant | .driving | .verifying | .exitShunt | .cooling => false

def Posture.state : Posture → DoorState
  | .secured => .secured
  | .released => .released

/-- Enter a door state: the state timer stops, entry to a settled state other than LOST is remembered, pulse in attempt is NO
from leaving RELEASED (R110), and leaving SECURED closes the exit window and ends the opening mark (R127). -/
def Engine.enter (st : DoorState) (x : Engine) : Engine :=
  { x with
    state := st
    timer := .stopped
    lastSettled := if st.settled && st != .lost then st else x.lastSettled
    pulseInAttempt := x.pulseInAttempt && (x.state != .released || st == .released)
    exitWindow := x.exitWindow && (x.state != .secured || st == .secured)
    openingMark := if x.state == .secured && st != .secured then .none else x.openingMark }

/-- The state a door enters from `enter`, on the segment. -/
def enterState (e : Env) (d : DoorNo) (st : DoorState) (g : Segment) : Segment :=
  g.upd e d (fun x => { x with eng := x.eng.enter st })

/-! ## Timers -/

/-- Milliseconds of a state timer's unit: ticks of 100 ms in DRIVING, seconds elsewhere (R110, R124, R125). -/
def DoorState.timerUnit : DoorState → Nat
  | .driving => 100
  | _ => 1000

/-- Start the state timer with n units. -/
def startTimer (e : Env) (d : DoorNo) (n : Nat) (g : Segment) : Segment :=
  g.upd e d (fun x => { x with eng := { x.eng with timer := .start n } })

end Sys2Proof.Machine
end

