-- ==== Sys2Proof/Machine/Flags.lean ====
section
/-! DEFINITION. Everything computed as a flag or a judged value: live status flags and sticky events (R112), the
exception list (R173, R174), the sensed posture (R47), the output levels (R43 to R45), the expected posture (R29) and the
segment condition (R14). -/

namespace Sys2Proof.Machine

/-! ## Live status flags and sticky events (R112) -/

def Live.get (l : Live) : Kind → Bool
  | .notSecured => l.notSecured
  | .notReleased => l.notReleased
  | .propped => l.propped
  | .overcurrent => l.overcurrent
  | .openCircuit => l.openCircuit
  | .lost => l.lost
  | .tamper => l.tamper
  | .forcedOpen | .leftReleased | .budget | .storeDefect | .runDropped | .clockStep => false

/-- Set or clear a live status flag; the kinds without one change nothing. -/
def Live.put (l : Live) (k : Kind) (b : Bool) : Live :=
  match k with
  | .notSecured => { l with notSecured := b }
  | .notReleased => { l with notReleased := b }
  | .propped => { l with propped := b }
  | .overcurrent => { l with overcurrent := b }
  | .openCircuit => { l with openCircuit := b }
  | .lost => { l with lost := b }
  | .tamper => { l with tamper := b }
  | .forcedOpen | .leftReleased | .budget | .storeDefect | .runDropped | .clockStep => l

/-- Any live status flag set (R45). -/
def Live.any (l : Live) : Bool :=
  l.notSecured || l.notReleased || l.propped || l.overcurrent || l.openCircuit || l.lost || l.tamper

/-- Set a sticky event; TAMPER carries the sub-reason of its last setting (R112). -/
def Sticky.set (x : Sticky) (k : Kind) (sub : Option SubReason) : Sticky :=
  match k with
  | .notSecured => { x with notSecured := true }
  | .notReleased => { x with notReleased := true }
  | .propped => { x with propped := true }
  | .overcurrent => { x with overcurrent := true }
  | .openCircuit => { x with openCircuit := true }
  | .lost => { x with lost := true }
  | .tamper => { x with tamper := true, tamperReason := sub }
  | .forcedOpen => { x with forcedOpen := true }
  | .leftReleased => { x with leftReleased := true }
  | .budget => { x with budget := true }
  | .storeDefect | .runDropped | .clockStep => x

/-- Clear live flags of a door. -/
def clearLive (e : Env) (d : DoorNo) (ks : List Kind) (g : Segment) : Segment :=
  g.upd e d (fun x => { x with eng := { x.eng with live := ks.foldl (fun l k => l.put k false) x.eng.live } })

/-- The four flags that RESET_FAULT and an out-of-service request clear (R130, R133). -/
def faultKinds : List Kind := [.notSecured, .notReleased, .overcurrent, .openCircuit]

/-! ## The exception list (R173, R174) -/

/-- An entry is active while its door's live status flag of its kind is set (R174). -/
def ExceptionEntry.active (g : Segment) (x : ExceptionEntry) : Bool :=
  match x.door with
  | some d => (g.door d).eng.live.get x.kind
  | none => false

def ExceptionEntry.isFor (x : ExceptionEntry) (door : Option DoorNo) (kind : Kind) : Bool :=
  x.door == door && x.kind == kind

/-- A recurrence: last minute, occurrences (saturating at 255), sub-reason (R173). -/
def ExceptionEntry.recur (x : ExceptionEntry) (minute : Nat) (sub : Option SubReason) : ExceptionEntry :=
  { x with lastMinute := minute, occurrences := min 255 (x.occurrences + 1), subReason := sub }

/-- The list without its oldest entry that `p` holds of. -/
def dropOldest (p : ExceptionEntry → Bool) : List ExceptionEntry → List ExceptionEntry
  | [] => []
  | x :: xs => if p x then xs else x :: dropOldest p xs

/-- The list after an exception is handed to it (R173): a recurrence keeps its place; a new entry is appended, in place of
the oldest inactive one when the list is full; with none inactive it is not listed. -/
def handException (active : ExceptionEntry → Bool) (door : Option DoorNo) (kind : Kind) (sub : Option SubReason)
    (minute : Nat) (xs : List ExceptionEntry) : List ExceptionEntry :=
  let new : ExceptionEntry := ⟨door, kind, sub, minute, minute, 1⟩
  if xs.any (fun x => x.isFor door kind) then
    xs.map (fun x => if x.isFor door kind then x.recur minute sub else x)
  else if xs.length < Config.maxExceptions then xs ++ [new]
  else if xs.any (fun x => !active x) then dropOldest (fun x => !active x) xs ++ [new]
  else xs

/-- Hand the exception list an exception, stamped with the present minute (R173). -/
def listException (e : Env) (door : Option DoorNo) (kind : Kind) (sub : Option SubReason) (g : Segment) : Segment :=
  { g with exceptions := handException (fun x => x.active g) door kind sub e.minute g.exceptions }

/-- Set the live flag (where the kind has one) and the sticky event of a door, and hand its exception (R112). -/
def raiseKind (e : Env) (d : DoorNo) (k : Kind) (sub : Option SubReason) (g : Segment) : Segment :=
  listException e (some d) k sub
    (g.upd e d (fun x =>
      { x with eng := { x.eng with live := x.eng.live.put k true, sticky := x.eng.sticky.set k sub } }))

/-! ## Sensed posture (R47) -/

/-- POSITION CLOSED, if assigned. -/
def Door.closed (p : ProfileEntry) (x : Door) : Bool :=
  !p.assigns .position || x.inputs.position == some false

/-- BOLT ENGAGED, if assigned. -/
def Door.boltEngaged (p : ProfileEntry) (x : Door) : Bool :=
  !p.assigns .bolt || x.inputs.bolt == some true

/-- BOLT WITHDRAWN, if assigned. -/
def Door.boltWithdrawn (p : ProfileEntry) (x : Door) : Bool :=
  !p.assigns .bolt || x.inputs.bolt == some false

/-- The reported drive; OFF where LOCK_DRIVE is not assigned (R41, R46). -/
def Door.reported (p : ProfileEntry) (x : Door) : Option Bool :=
  if p.assigns .lockDrive then x.inputs.reportedDrive else some false

/-- Drive current at or above the under-limit. -/
def Door.currentSound (p : ProfileEntry) (x : Door) : Bool :=
  match x.inputs.current with
  | some i => p.underLimit ≤ i
  | none => false

/-- The sensed posture (R47). `verifying` is the posture being verified, `none` outside verification. It is unknown
before the first good reply and while the drop is LOST. -/
def Door.sensedAs (verifying : Option Posture) (p : ProfileEntry) (x : Door) : Option Posture :=
  if x.drop.lost || !x.drop.firstReply then none
  else match p.lockKind with
    | .magnetic =>
      if x.reported p == some true && x.currentSound p && x.closed p && x.boltEngaged p then some .secured
      else if x.reported p == some false then some .released else none
    | .strike =>
      if x.reported p == some false && x.closed p && x.boltEngaged p then some .secured
      else if x.reported p == some true && x.currentSound p && x.boltWithdrawn p then some .released else none
    | .motor =>
      match verifying with
      | none =>
        if p.assigns .bolt && x.boltEngaged p && x.closed p then some .secured
        else if p.assigns .bolt && x.boltWithdrawn p then some .released else none
      | some .secured => if x.eng.pulseAcked && x.boltEngaged p && x.closed p then some .secured else none
      | some .released => if x.eng.pulseAcked && x.boltWithdrawn p then some .released else none

/-- The sensed posture outside verification. -/
def Door.sensedOutside (p : ProfileEntry) (x : Door) : Option Posture := x.sensedAs none p

/-- The sensed posture as the door stands: "verifying" means the door is in VERIFYING (R47). -/
def Door.sensed (p : ProfileEntry) (x : Door) : Option Posture :=
  if x.eng.state = .verifying then x.sensedAs x.eng.target p else x.sensedAs none p

/-! ## Output levels (R43 to R45) -/

/-- The on or off state of a terminal with function f (R43 to R45). -/
def Door.outputOn (latch flash : Bool) (p : ProfileEntry) (x : Door) : TermFn → Bool
  | .lockDrive => x.lockLevel latch p
  | .sounder => x.eng.state == .warning && !latch
  | .indicator => if x.eng.live.any then flash else x.eng.state == .secured
  | _ => false

/-! ## Exemptions and the expected posture (R29, R159) -/

/-- The door's effective exemption among `xs` (R159): the posture kept, KEEP_SECURED first. -/
def effectiveExemption (xs : List Exemption) (x : DoorEntry) : Option Posture :=
  if xs.any (fun m => m.keep == .secured && x.inGroup m.group) then some .secured
  else if xs.any (fun m => m.keep == .released && x.inGroup m.group) then some .released
  else none

/-- The PROGRAM entry at an index; outside the table, an erased one. -/
def Env.programAt (e : Env) (i : Nat) : Working ProgramEntry := (e.work.program[i]?).getD ⟨.default, false⟩

/-- The entry of step k (1..10) of program p (R135). -/
def Env.stepEntry (e : Env) (p : Fin 8) (k : Nat) : ProgramEntry := (e.programAt (10 * p.val + k - 1)).value

/-- The step count, held in the step 1 entry (R135). -/
def Env.stepCount (e : Env) (p : Fin 8) : Nat := (e.stepEntry p 1).stepCount

/-- The program's kind, held in the step 1 entry (R135). -/
def Env.programKind (e : Env) (p : Fin 8) : ProgramKind := (e.stepEntry p 1).kind

/-- The posture a program gives (R29, R142). -/
def ProgramKind.posture : ProgramKind → Posture
  | .lockup => .secured
  | .release => .released

/-- A program is defective while any of its ten entries carries a defective mark (R135). -/
def Env.programDefective (e : Env) (p : Fin 8) : Bool :=
  (List.range 10).any (fun i => (e.programAt (10 * p.val + i)).defective)

/-- A program is relevant to a door (R29). -/
def Env.relevant (e : Env) (p : Fin 8) (x : DoorEntry) : Bool :=
  0 < e.stepCount p && !e.programDefective p
    && (List.range (e.stepCount p)).any (fun i => x.inGroup (e.stepEntry p (i + 1)).localGroup)

/-- The day-plan entry for day type t and position i (R26), treated as unused while defective. -/
def Env.planEntry (e : Env) (t i : Nat) : Option DayPlanEntry :=
  match e.work.dayplan[6 * t + i]? with
  | some w => if w.defective then none else w.value
  | none => none

/-- The first relevant entry of day type t in reverse plan order with minute at or below `limit` (R29): the latest minute,
and among equal minutes the highest position. -/
def Env.latestEntry (e : Env) (t limit : Nat) (x : DoorEntry) : Option DayPlanEntry :=
  (List.range 6).foldl (fun best i =>
    match e.planEntry t i with
    | none => best
    | some y =>
      if y.minute ≤ limit && e.relevant y.program x then
        match best with
        | none => some y
        | some z => if z.minute ≤ y.minute then some y else some z
      else best) none

/-- The posture of the day plan alone: steps 1 to 3 of R29, at minute m. -/
def Env.planPosture (e : Env) (m : Nat) (x : DoorEntry) : Posture :=
  match e.latestEntry e.clock.today m x with
  | some y => (e.programKind y.program).posture
  | none =>
    match e.latestEntry e.clock.yesterday (Config.noMinute - 1) x with
    | some y => (e.programKind y.program).posture
    | none => x.defaultPosture

/-- The expected posture of a door (R29); `none` is unknown. -/
def expectedPosture (e : Env) (xs : List Exemption) (d : DoorNo) : Option Posture :=
  match e.clock.second with
  | none => none
  | some t =>
    match effectiveExemption xs (e.doorEntry d) with
    | some k => some k
    | none => some (e.planPosture (t / 60) (e.doorEntry d))

/-! ## Load (R84) and the segment condition (R14) -/

/-- The committed load: the sum of the charges (R84). -/
def Segment.load (g : Segment) : Nat := (g.doors.toList.map (fun x => x.charge.units)).sum

/-- LISTEN (R8): no address, or a slot map entry with the defective mark. -/
def listening (address : Option Nat) (w : Tables) : Bool :=
  address.isNone || w.slotmap.toList.any (fun x => x.defective)

/-- Segment conditions in the order of R181's codes. -/
inductive Condition where
  | normal | noTime | holdover | fire | listen
  deriving DecidableEq, Repr

/-- The segment condition (R14). -/
def segmentCondition (latch : Bool) (address : Option Nat) (w : Tables) (t : TrunkState) : Condition :=
  if latch then .fire
  else if listening address w then .listen
  else match t with
    | .noTime => .noTime
    | .holdover => .holdover
    | .tracking => .normal

end Sys2Proof.Machine
end

