-- ==== Sys2Proof/Machine/Outcomes.lean ====
section
/-! DEFINITION. The run record's side of outcomes: recording an outcome (R144), judging a step DONE (R145), reaching the
base of a step (R141), and the last-run summary (R154). -/

namespace Sys2Proof.Machine

/-- Change step k (1..10) of a run. -/
def Run.modStep (k : Nat) (f : StepRecord → StepRecord) (r : Run) : Run :=
  { r with steps := r.steps.modify (k - 1) f }

def Run.step (r : Run) (k : Nat) : Option StepRecord := r.steps[k - 1]?

/-- Reach the base of step k, where the run has it and its base is not reached: its timer starts, and it is due at once with
a remaining offset of 0 and no SWEEP_HOLD in force (R141). -/
def Run.reachBase (e : Env) (k : Nat) (r : Run) : Run :=
  r.modStep k (fun s =>
    if s.baseReached then s
    else { s with baseReached := true, sub := 0, due := s.remaining == 0 && !e.hold })

def Mark.isOutcome : Mark → Bool
  | .outcome _ => true
  | _ => false

/-- Every member has an outcome recorded (R145); a following mark is none. -/
def StepRecord.answered (s : StepRecord) : Bool := s.members.all (fun m => m.mark.isOutcome)

/-- Judge step k: an ACTIVE step whose members have all answered enters DONE, and reaches the base of an AFTER_PREVIOUS
successor (R145, R141). -/
def Run.judge (e : Env) (k : Nat) (r : Run) : Run :=
  match r.step k with
  | none => r
  | some s =>
    if s.state = .active ∧ s.answered then
      let r' := r.modStep k (fun s => { s with state := .done, doneMinute := some e.minute })
      if (e.stepEntry r.program (k + 1)).startMode = .afterPrevious then r'.reachBase e (k + 1) else r'
    else r

/-- Judge every step, in step order. -/
def Run.judgeAll (e : Env) (r : Run) : Run :=
  (List.range r.steps.length).foldl (fun r i => r.judge e (i + 1)) r

/-- Replace the mark of a member of a step where `p` holds of it. -/
def StepRecord.remark (d : DoorNo) (p : Mark → Bool) (m : Mark) (s : StepRecord) : StepRecord :=
  { s with members := s.members.map (fun x => if x.door == d && p x.mark then { x with mark := m } else x) }

/-- The step has the door as a member with nothing recorded. -/
def StepRecord.awaits (s : StepRecord) (d : DoorNo) : Bool :=
  s.members.any (fun x => x.door == d && x.mark == .nothing)

/-- Record an outcome of a door for step k, and for every later step in which the door follows step k (R144). -/
def Run.record (d : DoorNo) (k : Nat) (o : DoorOutcome) (r : Run) : Run :=
  let r' := r.modStep k (fun s => s.remark d (fun m => m == .nothing) (.outcome o))
  { r' with steps := r'.steps.zipIdx.map (fun x =>
      if k < x.2 + 1 then x.1.remark d (fun m => m == .following k) (.outcome o) else x.1) }

/-- The door engine hands the sequencer an outcome (R144): disregarded where no run is active, or the door is no member of
the step with nothing recorded. The steps are then judged (R145). -/
def recordOutcome (e : Env) (d : DoorNo) (k : Nat) (o : DoorOutcome) (g : Segment) : Segment :=
  match g.seqr.run with
  | none => g
  | some r =>
    match r.step k with
    | none => g
    | some s =>
      if s.awaits d then { g with seqr := { g.seqr with run := some ((r.record d k o).judgeAll e) } } else g

/-- An outcome handed for a step, where one is owed. -/
def answer (e : Env) (d : DoorNo) (owed : Option Nat) (o : DoorOutcome) (g : Segment) : Segment :=
  match owed with
  | none => g
  | some k => recordOutcome e d k o g

/-- Answer the outcome the door owes; it owes nothing afterwards. -/
def answerOwed (e : Env) (d : DoorNo) (o : DoorOutcome) (g : Segment) : Segment :=
  let k := (g.door d).eng.owed
  answer e d k o (g.upd e d (fun x => { x with eng := { x.eng with owed := none } }))

/-- Answer the outcome carried by the door's pending target; the pending target owes nothing afterwards. -/
def answerPending (e : Env) (d : DoorNo) (o : DoorOutcome) (g : Segment) : Segment :=
  match (g.door d).eng.pendingTarget with
  | none => g
  | some p =>
    answer e d p.owed o
      (g.upd e d (fun x => { x with eng := { x.eng with pendingTarget := some { p with owed := none } } }))

/-- Drop the pending target. -/
def dropPending (e : Env) (d : DoorNo) (g : Segment) : Segment :=
  g.upd e d (fun x => { x with eng := { x.eng with pendingTarget := none } })

/-! ## The last-run summary (R154) -/

def DoorOutcome.all : List DoorOutcome :=
  [.done, .already, .exempt, .absent, .lost, .leftReleased, .proppedLate, .failed, .budget, .overridden]

/-- How many members of a step have an outcome. -/
def StepRecord.countOf (s : StepRecord) (o : DoorOutcome) : Nat :=
  (s.members.filter (fun m => m.mark == .outcome o)).length

/-- The steps started (R154). -/
def Run.started (r : Run) : Nat := (r.steps.filter (fun s => s.state != .delaying)).length

/-- The summary of a run that ends now (R154). -/
def Run.summarise (e : Env) (ending : Ending) (r : Run) : Summary :=
  { program := r.program, ending := ending, startMinute := r.startMinute, endMinute := e.minute
    stepsStarted := r.started
    counts := DoorOutcome.all.map (fun o => (r.steps.map (fun s => s.countOf o)).sum) }

end Sys2Proof.Machine
end

