-- ==== Sys2Proof/Machine/Supply.lean ====
section
/-! DEFINITION. The supply arbiter (06_lock_supply_budget.md): charges, the actuation queue, grants, refusals with the
reversion they lead to (R119), drive-off notices and run ends. -/

namespace Sys2Proof.Machine

/-- Set a door's charge. -/
def setCharge (d : DoorNo) (c : Charge) (g : Segment) : Segment :=
  g.putDoor d { g.door d with charge := c }

/-! ## Pulses (R62, R65) -/

/-- Post a pulse: the sequence goes on by 1 modulo 4; OUTSTANDING when it differs from the last reported sequence, HELD when
it equals it (R62). The pulse of the actuation is not yet acknowledged, and carries the profile's present run time (R52). -/
def postPulse (e : Env) (d : DoorNo) (k : PulseKind) (g : Segment) : Segment :=
  g.upd e d (fun x =>
    let n := x.drop.pulseSeq + 1
    { x with
      drop := { x.drop with pulseSeq := n, pulse := if n != x.drop.lastSeq then .outstanding k else .held k }
      eng := { x.eng with pulseInAttempt := true, pulseAcked := false, pulseRunTime := (e.profile d).runTime } })

/-- A grant made before the drop's first good reply posts no pulse yet (R66, log 49): no pulse of this actuation is acknowledged,
and none has a run time. -/
def withholdPulse (e : Env) (d : DoorNo) (g : Segment) : Segment :=
  g.upd e d (fun x => { x with eng := { x.eng with pulseAcked := false, pulseRunTime := 0 } })

/-- The cancel of a pulse state (R65). -/
def PulseState.cancel : PulseState → PulseState
  | .outstanding k => .cancelled k
  | .held k => .cancelled k
  | p => p

/-- Cancel a door's pulse (R65). -/
def cancelPulse (e : Env) (d : DoorNo) (g : Segment) : Segment :=
  g.upd e d (fun x => { x with drop := { x.drop with pulse := x.drop.pulse.cancel } })

/-! ## The queue (R87) -/

/-- Entry a stands before entry b: rank ascending, equal ranks by door number (R87). -/
def QueueEntry.before (a b : QueueEntry) : Bool :=
  a.rank < b.rank || (a.rank == b.rank && a.door.val ≤ b.door.val)

/-- Place an entry by R87. -/
def insertEntry (x : QueueEntry) : List QueueEntry → List QueueEntry
  | [] => [x]
  | y :: ys => if x.before y then x :: y :: ys else y :: insertEntry x ys

/-- Take a door out of the queue: by grant, refusal or withdrawal (R87). -/
def dequeue (d : DoorNo) (g : Segment) : Segment :=
  { g with queue := g.queue.filter (fun q => q.door != d) }

/-- A door is falling (R90): basis RUN with its drop PRESENT, or basis TAIL. -/
def Door.falling (x : Door) : Bool :=
  (x.charge.basis == .run && !x.drop.lost) || x.charge.basis == .tail

/-- Some door other than d is falling (R89). -/
def othersFalling (d : DoorNo) (g : Segment) : Bool :=
  allDoors.any (fun j => j != d && (g.door j).falling)

/-! ## Reversion (R119) -/

/-- Stop what a waiting door is doing: the quiet watch, the warning, the place in the queue, the deferral (R119). -/
def stopWaiting (e : Env) (d : DoorNo) (g : Segment) : Segment :=
  (dequeue d g).upd e d (fun x =>
    { x with
      eng := { x.eng with timer := .stopped, deferral := .none, deferralSub := 0 }
      mon := { x.mon with watch := none } })

/-- The state and target a reversion gives (R119's table), from the door as it stands. -/
def Door.revertTo (p : ProfileEntry) (x : Door) : DoorState × Option Posture :=
  match x.eng.fallback with
  | .none => (.holding, none)
  | .faulted => (.faulted, x.eng.beforeAttempt)
  | .secured => if x.sensedOutside p = some .secured then (.secured, some .secured) else (.holding, none)
  | .released =>
    if x.sensedOutside p = some .released then (.released, some .released)
    else if p.lockKind = .motor ∧ x.sensedOutside p = none ∧ !x.eng.pulseInAttempt then (.released, some .released)
    else (.holding, none)

/-- A reversion (R119). The drive request is kept. Entry to SECURED or RELEASED clears NOT_SECURED and NOT_RELEASED
(R112). The queue is not considered here. -/
def revert (e : Env) (d : DoorNo) (g : Segment) : Segment :=
  let g := stopWaiting e d g
  let back := (g.door d).revertTo (e.profile d)
  let g := g.upd e d (fun x => { x with eng := { x.eng.enter back.1 with target := back.2 } })
  if back.1 = .secured ∨ back.1 = .released then clearLive e d [.notSecured, .notReleased] g else g

/-! ## Grants and refusals (R89, R90, R123) -/

/-- The pulse a MOTOR door posts for its target (R123). -/
def pulseFor : Option Posture → PulseKind
  | some .released => .withdraw
  | _ => .throw

/-- A grant (R89, R123, R124): the charge becomes the run units with basis RUN, and the door enters DRIVING. A MAGNETIC or
STRIKE door turns its drive request on and starts its run timer; a MOTOR door posts its pulse, or withholds it until its drop's
first good reply (R66). -/
def grant (e : Env) (d : DoorNo) (g : Segment) : Segment :=
  let p := e.profile d
  let g := setCharge d ⟨p.runUnits, .run, 0, 0⟩ (dequeue d g)
  let g := enterState e d .driving g
  if p.lockKind = .motor then
    if (g.door d).drop.firstReply then postPulse e d (pulseFor (g.door d).eng.target) g else withholdPulse e d g
  else g.upd e d (fun x => { x with eng := { x.eng with drive := true, timer := .start p.runTime } })

/-- A refusal (R90, R123): outcome BUDGET, the BUDGET event and exception, and the reversion. Charge and basis stay. -/
def refuse (e : Env) (d : DoorNo) (g : Segment) : Segment :=
  revert e d (raiseKind e d .budget none (answerOwed e d .budget (dequeue d g)))

/-- Whether the head, door d, fits: load less its charge plus its run units within the capacity (R89). -/
def fits (e : Env) (d : DoorNo) (g : Segment) : Bool :=
  g.load - (g.door d).charge.units + (e.profile d).runUnits ≤ e.work.segment.value.capacity

/-- The consideration of R89, at most n heads of it. -/
def considerLoop (e : Env) : Nat → Segment → Segment
  | 0, g => g
  | n + 1, g =>
    match g.queue with
    | [] => g
    | q :: _ =>
      if fits e q.door g then considerLoop e n (grant e q.door g)
      else if othersFalling q.door g then g
      else considerLoop e n (refuse e q.door g)

/-- The arbiter considers the queue (R89); not while learning or while the fire latch is set (R91). Each head it handles
leaves the queue, so as many rounds as there are entries reach the end. -/
def consider (e : Env) (g : Segment) : Segment :=
  if g.learning || g.fire.latch then g else considerLoop e g.queue.length g

/-- Enqueue a door with its rank as it stands (R87), and consider the queue. -/
def enqueue (e : Env) (d : DoorNo) (g : Segment) : Segment :=
  consider e { g with queue := insertEntry ⟨d, (e.doorEntry d).rank⟩ g.queue }

/-! ## Drive-off and run end (R93 to R95) -/

/-- The tail a MOTOR door's drive-off leaves (R95): what remained of the run timer where the pulse is acknowledged, else the
run time the pulse was posted with. The tick of the run timer under way counts whole (log 59). With no pulse posted, a case R95 has no
line for, it is 0, the model's choice: the charge is 0 at once (log 78). -/
def Door.tailTicks (x : Door) : Nat :=
  if x.eng.pulseAcked then x.eng.timer.remaining else x.eng.pulseRunTime

/-- The charge after a drive-off notice (R94, R95). The tail has whole ticks: a drive-off within a tick of the run timer counts that
tick from its start again (log 59). A MOTOR door with basis HOLD, which a change of lock kind can leave, is a case neither rule has a line for: the
model keeps its charge and basis as R95 does for NONE and TAIL (log 81). -/
def Door.afterDriveOff (p : ProfileEntry) (x : Door) : Charge :=
  match p.lockKind with
  | .motor =>
    if x.charge.basis = .run then
      if x.tailTicks = 0 then .initial else { x.charge with basis := .tail, tail := x.tailTicks, tailSub := 0 }
    else x.charge
  | _ => .initial

/-- The drive request turns OFF and its drive-off notice is handed, whatever the request was (R105, R133, R134); the queue is then
considered (R94, R95). -/
def forceDriveOff (e : Env) (d : DoorNo) (g : Segment) : Segment :=
  let g := setCharge d ((g.door d).afterDriveOff (e.profile d)) g
  consider e (g.upd e d (fun x => { x with eng := { x.eng with drive := false } }))

/-- The drive request turns OFF; a change from ON is handed as a drive-off notice (R111). -/
def turnDriveOff (e : Env) (d : DoorNo) (g : Segment) : Segment :=
  if (g.door d).eng.drive then forceDriveOff e d g else g

/-- The drive request takes a level; a change from ON to OFF is handed as a drive-off notice (R111). -/
def setDrive (e : Env) (d : DoorNo) (on : Bool) (g : Segment) : Segment :=
  if on then g.upd e d (fun x => { x with eng := { x.eng with drive := true } }) else turnDriveOff e d g

/-- When a door leaves HOLDING its drive request takes the LOCK_DRIVE level of its held levels; for a MOTOR door it is OFF (R111). A
request that goes from ON to OFF by it is handed as a drive-off notice like any other. A door with no held levels takes a free value
(log 16). No effect in another state. -/
def leaveHolding (e : Env) (d : DoorNo) (g : Segment) : Segment :=
  let x := g.door d
  let p := e.profile d
  if x.eng.state != .holding then g
  else if p.lockKind = .motor then setDrive e d false g
  else match x.drop.held with
    | some _ => setDrive e d (x.heldDrive p) g
    | none => setDrive e d (Config.unheldDrive g.free) { g with free := g.free + 1 }

/-- A run end (R93): basis RUN becomes the hold units with basis HOLD (MOTOR: 0 and NONE), and the queue is considered. -/
def runEnd (e : Env) (d : DoorNo) (g : Segment) : Segment :=
  let p := e.profile d
  let x := g.door d
  if x.charge.basis = .run then
    consider e (setCharge d (if p.lockKind = .motor then .initial else ⟨p.holdUnits, .hold, 0, 0⟩) g)
  else g

/-- Withdraw a door from the queue where it stands in it, and consider the queue (R87). -/
def withdraw (e : Env) (d : DoorNo) (g : Segment) : Segment :=
  if g.queue.any (fun q => q.door == d) then consider e (dequeue d g) else g

/-- The tail time of a MOTOR door reaches 0 (R95). -/
def tailEnd (e : Env) (d : DoorNo) (g : Segment) : Segment :=
  if (g.door d).charge.basis = .tail then consider e (setCharge d .initial g) else g

end Sys2Proof.Machine
end

