-- ==== Sys2Proof/Machine/Engine.lean ====
section
/-! DEFINITION. The door engine (08_the_door_engine.md), with the quiet test and watch of the traffic monitor (R81, R82):
target sets, securing and releasing, verification and retries, exits, faults, loss, fire and abort. -/

namespace Sys2Proof.Machine

/-! ## Small steps on a door record -/

/-- Change the engine's part of a door. -/
def updEng (e : Env) (d : DoorNo) (f : Engine → Engine) (g : Segment) : Segment :=
  g.upd e d (fun x => { x with eng := f x.eng })

/-- Clear the quiet watch. -/
def clearWatch (e : Env) (d : DoorNo) (g : Segment) : Segment :=
  g.upd e d (fun x => { x with mon := { x.mon with watch := none } })

/-- A deferral that starts with a limit: COUNTING, or NONE with a limit of 0 (R115). -/
def Deferral.ofLimit (n : Nat) : Deferral := if n = 0 then .none else .counting n

/-- The deferral starts from the limit of the door's parameters (R115, R117). -/
def startDeferral (e : Env) (d : DoorNo) (g : Segment) : Segment :=
  updEng e d (fun x => { x with deferral := .ofLimit x.params.deferralLimit, deferralSub := 0 }) g

/-- The fallback of a new attempt, from the target before it (R114). -/
def Fallback.ofTarget : Option Posture → Fallback
  | .none => .none
  | .some .secured => .secured
  | .some .released => .released

/-- A new attempt begins (R114, R117): its fallback, retry count 0, force flag CLEAR, and pulse in attempt NO when the door
leaves RELEASED. The deferral stands until R115 starts it anew (R121). `prev` is the target before it. -/
def beginAttempt (e : Env) (d : DoorNo) (fb : Fallback) (prev : Option Posture) (g : Segment) : Segment :=
  updEng e d (fun x =>
    { x with
      fallback := fb, beforeAttempt := prev, retry := 0, force := false
      pulseInAttempt := x.pulseInAttempt && x.state != .released }) g

/-- The drive request a MAGNETIC or STRIKE door holds in SECURED or RELEASED (R111). -/
def restingDrive (k : LockKind) (p : Posture) : Bool :=
  match k, p with
  | .magnetic, .secured => true
  | .strike, .released => true
  | _, _ => false

/-- Enter SECURED or RELEASED: the state, R111's drive request with its drive-off notice, NOT_SECURED and NOT_RELEASED clear
(R112), the deferral ends (log 21), and an owed outcome is answered (R115, R116, R125). -/
def settleAt (e : Env) (d : DoorNo) (p : Posture) (o : DoorOutcome) (g : Segment) : Segment :=
  let on := restingDrive (e.profile d).lockKind p
  let g := updEng e d (fun x =>
    { x.enter p.state with target := some p, deferral := .none, deferralSub := 0 }) g
  let g := setDrive e d on g
  answerOwed e d o (clearLive e d [.notSecured, .notReleased] g)

/-- Enter FAULTED at the end of an attempt (R115, R116, R125, R129): the kind's flag, event and exception, and outcome
FAILED. The drive request stays, and the deferral ends with the attempt (log 21). -/
def enterFaulted (e : Env) (d : DoorNo) (k : Kind) (g : Segment) : Segment :=
  answerOwed e d .failed (raiseKind e d k none
    (updEng e d (fun x => { x.enter .faulted with deferral := .none, deferralSub := 0 }) g))

/-- The kind that a failed attempt toward a posture raises (R112). -/
def failKind : Posture → Kind
  | .secured => .notSecured
  | .released => .notReleased

/-- Enter VERIFYING with the verify timer started, and read the sensed posture at once (R125). -/
def enterVerifying (e : Env) (d : DoorNo) (g : Segment) : Segment :=
  let g := startTimer e d (e.profile d).verifyTime (enterState e d .verifying g)
  let x := g.door d
  match x.eng.target with
  | some p => if x.sensed (e.profile d) = some p then settleAt e d p .done g else g
  | none => g

/-- Go on with an attempt that needs an actuation. A door whose profile does not assign LOCK_DRIVE makes none and enters no queue: its
attempt ends NOT_SECURED or NOT_RELEASED at once (R41, R86, log 50). -/
def whenWired (e : Env) (d : DoorNo) (f : Segment → Segment) (g : Segment) : Segment :=
  if (e.profile d).assigns .lockDrive then f g
  else enterFaulted e d (failKind ((g.door d).eng.target.getD .secured)) g

/-- Enter AWAIT_GRANT and enqueue (R87, R123). -/
def awaitGrant (e : Env) (d : DoorNo) (g : Segment) : Segment := enqueue e d (enterState e d .awaitGrant g)

/-! ## Quiet (R81, R82), proceeding (R120, R123) -/

/-- The quiet test (R81). -/
def Door.quiet (p : ProfileEntry) (w : Watch) (x : Door) : Bool :=
  x.closed p &&
    (w.force ||
      (x.mon.activity ≤ w.threshold &&
        match x.mon.sinceClose with
        | none => true
        | some n => 10 * p.settleTime ≤ n))

/-- A door proceeds from QUIET_WAIT or WARNING (R123). -/
def proceed (e : Env) (d : DoorNo) (g : Segment) : Segment :=
  whenWired e d (fun g =>
    if (e.profile d).lockKind = .strike then enterVerifying e d (turnDriveOff e d g) else awaitGrant e d g) g

/-- The QUIET notice (R120): disregarded in any state other than QUIET_WAIT. -/
def quietNotice (e : Env) (d : DoorNo) (g : Segment) : Segment :=
  let x := g.door d
  if x.eng.state = .quietWait then
    if 0 < x.eng.params.warning then startTimer e d x.eng.params.warning (enterState e d .warning g)
    else proceed e d g
  else g

/-- Evaluate the quiet watch, if set (R82): a door found quiet loses its watch, and the notice is handed on. -/
def evaluateWatch (e : Env) (d : DoorNo) (g : Segment) : Segment :=
  let x := g.door d
  match x.mon.watch with
  | some w => if x.quiet (e.profile d) w then quietNotice e d (clearWatch e d g) else g
  | none => g

/-- Set or replace the quiet watch with the door's threshold and force flag, and evaluate it (R82, R120). -/
def setWatch (e : Env) (d : DoorNo) (g : Segment) : Segment :=
  evaluateWatch e d (g.upd e d (fun x =>
    { x with mon := { x.mon with watch := some ⟨x.eng.params.threshold, x.eng.force⟩ } }))

/-! ## Releasing (R116) -/

/-- R116: a door is taken toward RELEASED. `o` answers an owed outcome where it is found RELEASED. -/
def takeReleased (e : Env) (d : DoorNo) (o : DoorOutcome) (g : Segment) : Segment :=
  let p := e.profile d
  let g := leaveHolding e d g
  let x := g.door d
  let seen := x.sensedOutside p
  if seen = some .released then settleAt e d .released o g
  else if p.lockKind = .motor ∧ seen = none ∧ x.eng.lastSettled = .released ∧ !x.eng.pulseInAttempt then
    settleAt e d .released o g
  else if !p.assigns .lockDrive then enterFaulted e d .notReleased g
  else if p.lockKind = .magnetic then enterVerifying e d (turnDriveOff e d g)
  else awaitGrant e d g

/-! ## Securing (R115, R120, R121) -/

/-- Act on an EXPIRED deferral of a door in QUIET_WAIT by its late policy (R121). With POSITION unknown only what both FORCE
lines give is done (log 24). -/
def actOnExpiry (e : Env) (d : DoorNo) (g : Segment) : Segment :=
  let g := updEng e d (fun x => { x with deferral := .none, deferralSub := 0 }) g
  let x := g.door d
  let p := e.profile d
  match x.eng.params.policy with
  | .leave =>
    let g := answerOwed e d .leftReleased (updEng e d (fun x => { x with target := some .released }) g)
    takeReleased e d .already (clearWatch e d (raiseKind e d .leftReleased none g))
  | .force =>
    let g := setWatch e d (updEng e d (fun x => { x with force := true }) g)
    if p.assigns .position && x.inputs.position == some true then
      listException e (some d) .propped none (answerOwed e d .proppedLate g)
    else g

/-- Enter QUIET_WAIT (R120): the watch is set and evaluated; an EXPIRED deferral is then acted on where the door is still
there (R121, R122, log 25). -/
def enterQuietWait (e : Env) (d : DoorNo) (g : Segment) : Segment :=
  let g := setWatch e d (enterState e d .quietWait g)
  let x := g.door d
  if x.eng.state = .quietWait ∧ x.eng.deferral = .expired then actOnExpiry e d g else g

/-- R115: a door is taken toward SECURED. `o` answers an owed outcome where it is found SECURED. -/
def takeSecured (e : Env) (d : DoorNo) (o : DoorOutcome) (g : Segment) : Segment :=
  let p := e.profile d
  let g := leaveHolding e d g
  if (g.door d).sensedOutside p = some .secured then settleAt e d .secured o g
  else if !p.assigns .lockDrive then enterFaulted e d .notSecured g
  else enterQuietWait e d (startDeferral e d g)

/-- R115 or R116 by posture. -/
def takeToward (e : Env) (d : DoorNo) (p : Posture) (o : DoorOutcome) (g : Segment) : Segment :=
  match p with
  | .secured => takeSecured e d o g
  | .released => takeReleased e d o g

/-! ## Target sets (R114 to R118, R130) -/

/-- A target set replaces the door's target (R114): an outcome owed for the target replaced is answered OVERRIDDEN. -/
def adopt (e : Env) (d : DoorNo) (p : Posture) (params : Params) (owed : Option Nat) (g : Segment) : Segment :=
  updEng e d (fun x => { x with target := some p, params := params, owed := owed }) (answerOwed e d .overridden g)

/-- Hold a target set as the pending target (R118); the outcome of one it replaces is answered OVERRIDDEN. -/
def holdPending (e : Env) (d : DoorNo) (p : Posture) (params : Params) (owed : Option Nat) (g : Segment) : Segment :=
  updEng e d (fun x => { x with pendingTarget := some ⟨p, params, owed⟩ }) (answerPending e d .overridden g)

/-- A target set starts a new attempt (R114, R117): fallback from the previous target unless `fb` gives one. -/
def newAttempt (e : Env) (d : DoorNo) (p : Posture) (params : Params) (owed : Option Nat) (fb : Option Fallback)
    (g : Segment) : Segment :=
  let prev := (g.door d).eng.target
  takeToward e d p .already
    (beginAttempt e d (fb.getD (.ofTarget prev)) prev (adopt e d p params owed g))

/-- A target whose posture the lock reaches with its drive off (R117, COOLING). -/
def reachedDriveOff (k : LockKind) (p : Posture) : Bool :=
  match k, p with
  | .magnetic, .released => true
  | .strike, .secured => true
  | _, _ => false

/-- A target set: posture, parameters, and the step it owes an outcome to, if any (R114). -/
def targetSet (e : Env) (d : DoorNo) (p : Posture) (params : Params) (owed : Option Nat) (g : Segment) : Segment :=
  let x := (g.door d).eng
  let equal := x.target = some p
  match x.state with
  | .absent | .outOfService => answer e d owed .absent g
  | .egress => answer e d owed .overridden g
  | .lost =>
    let g :=
      if x.lostFrom = .driving ∨ x.lostFrom = .verifying then holdPending e d p params none g
      else updEng e d (fun x => { x with target := some p, params := params, recordedWhileLost := true }) g
    answer e d owed .lost g
  | .driving | .verifying => holdPending e d p params owed g
  | .holding => newAttempt e d p params owed none g
  | .released | .secured =>
    if equal then answer e d owed .already (updEng e d (fun x => { x with params := params }) g)
    else newAttempt e d p params owed none g
  | .faulted =>
    match p with
    | .released => newAttempt e d p params owed (some .faulted) g
    | .secured => answerOwed e d .failed (adopt e d p params owed g)
  | .quietWait =>
    if equal then
      setWatch e d (updEng e d (fun x => { x with force := false })
        (startDeferral e d (adopt e d p params owed g)))
    else newAttempt e d p params owed none (clearWatch e d g)
  | .warning =>
    if equal then startDeferral e d (adopt e d p params owed g)
    else newAttempt e d p params owed none (updEng e d (fun x => { x with timer := .stopped }) g)
  | .awaitGrant =>
    if equal then adopt e d p params owed g else newAttempt e d p params owed none (withdraw e d g)
  | .exitShunt =>
    if equal then adopt e d p params owed g
    else newAttempt e d p params owed none (updEng e d (fun x => { x with timer := .stopped }) g)
  | .cooling =>
    if !equal ∧ reachedDriveOff (e.profile d).lockKind p then
      newAttempt e d p params owed none (updEng e d (fun x => { x with timer := .stopped }) g)
    else adopt e d p params owed g

/-- Take the pending target as a fresh target set where the actuation has ended (R118). -/
def takePending (e : Env) (d : DoorNo) (g : Segment) : Segment :=
  let x := (g.door d).eng
  match x.pendingTarget with
  | none => g
  | some q =>
    if x.state = .driving ∨ x.state = .verifying ∨ x.state = .lost then g
    else targetSet e d q.posture q.params q.owed (dropPending e d g)

/-! ## Verification (R124, R125) -/

/-- A reading of the sensed posture in VERIFYING, at a good reply (R125). -/
def readVerifying (e : Env) (d : DoorNo) (g : Segment) : Segment :=
  let x := g.door d
  match x.eng.state, x.eng.target with
  | .verifying, some p =>
    if x.sensed (e.profile d) = some p then takePending e d (settleAt e d p .done g) else g
  | _, _ => g

/-- A retry without a pending target (R125's second table). -/
def retry (e : Env) (d : DoorNo) (g : Segment) : Segment :=
  let p := e.profile d
  whenWired e d (fun g =>
    match (g.door d).eng.target, p.lockKind with
    | some .released, .magnetic => startTimer e d p.verifyTime g
    | some .released, _ => awaitGrant e d g
    | _, .motor => awaitGrant e d g
    | _, .magnetic => enterQuietWait e d (turnDriveOff e d g)
    | _, .strike => enterQuietWait e d g) (updEng e d (fun x => { x with retry := x.retry + 1 }) g)

/-- The verify timer expires before the posture is verified (R125). At a retry a pending target is taken before the retry,
as a fresh target set from the end of the actuation, and the retry does not take place (R118, log 19). -/
def verifyFailed (e : Env) (d : DoorNo) (g : Segment) : Segment :=
  let x := (g.door d).eng
  if x.state = .verifying then
    if x.retry < (e.profile d).retryLimit then
      match x.pendingTarget with
      | some q => newAttempt e d q.posture q.params q.owed none (dropPending e d g)
      | none => retry e d g
    else takePending e d (enterFaulted e d (failKind (x.target.getD .secured)) g)
  else g

/-- The run timer expires (R124): a run end, then VERIFYING, whose first reading may end the actuation. -/
def runTimerEnd (e : Env) (d : DoorNo) (g : Segment) : Segment :=
  let x := (g.door d).eng
  if x.state = .driving ∧ x.timer.running then takePending e d (enterVerifying e d (runEnd e d g)) else g

/-- A pulse is acknowledged (R64, R124): the run timer of a MOTOR door in DRIVING starts; for one lost in DRIVING it is
recorded and counts from FOUND (R131). -/
def pulseAcknowledged (e : Env) (d : DoorNo) (g : Segment) : Segment :=
  updEng e d (fun x =>
    if x.state = .driving then { x with pulseAcked := true, timer := .start x.pulseRunTime }
    else if x.state = .lost ∧ x.lostFrom = .driving then
      { x with pulseAcked := true, timer := ⟨x.pulseRunTime, 0, false⟩ }
    else x) g

/-! ## Warning and opening while waiting (R122, R123), exits and forced openings (R126, R127) -/

/-- An expiry not yet acted on is not acted on any more (R121). -/
def Deferral.waive : Deferral → Deferral
  | .expired => .waived
  | x => x

/-- The warning timer expires (R122): the door proceeds, and an EXPIRED deferral is never acted on (R121, R147). -/
def warningEnd (e : Env) (d : DoorNo) (g : Segment) : Segment :=
  if (g.door d).eng.state = .warning then
    proceed e d (updEng e d (fun x => { x with deferral := x.deferral.waive }) g)
  else g

/-- An opening of a SECURED door is forced: outside an exit window, and for a MAGNETIC door in every case (R127), one included whose
window a RESTORE of its lock kind has left open. -/
def Door.forcesOpen (p : ProfileEntry) (x : Door) : Bool := !x.eng.exitWindow || p.lockKind == .magnetic

/-- A POSITION OPEN terminal event at the door engine (R122, R123, R127). -/
def positionOpen (e : Env) (d : DoorNo) (g : Segment) : Segment :=
  let x := (g.door d).eng
  match x.state with
  | .warning => enterQuietWait e d g
  | .awaitGrant => if x.target = some .secured then enterQuietWait e d (withdraw e d g) else g
  | .secured =>
    if (g.door d).forcesOpen (e.profile d) then
      raiseKind e d .forcedOpen none (updEng e d (fun x => { x with openingMark := .forced }) g)
    else updEng e d (fun x => { x with openingMark := .inWindow }) g
  | _ => g

/-- A POSITION CLOSED terminal event at the door engine (R127): a SECURED door that had opened is verified again; a MOTOR
door's THROW counts as acknowledged. -/
def positionClosed (e : Env) (d : DoorNo) (g : Segment) : Segment :=
  let x := (g.door d).eng
  if x.state = .secured ∧ x.openingMark ≠ .none then
    takePending e d (enterVerifying e d (updEng e d (fun x =>
      { x with retry := 0, pulseAcked := x.pulseAcked || (e.profile d).lockKind == .motor }) g))
  else g

/-- An EXIT_REQUEST ACTIVE terminal event (R126, R127). -/
def exitRequested (e : Env) (d : DoorNo) (g : Segment) : Segment :=
  let p := e.profile d
  match (g.door d).eng.state with
  | .secured =>
    if p.lockKind = .magnetic then
      startTimer e d p.exitShuntTime (enterState e d .exitShunt (turnDriveOff e d g))
    else updEng e d (fun x => { x with exitWindow := true, timer := .start p.exitShuntTime }) g
  | .exitShunt => startTimer e d p.exitShuntTime g
  | _ => g

/-- The shunt timer expires (R126). A door lost from its shunt and given a RELEASED target while LOST (R114) has that target here: R126
has the target stay SECURED throughout and R132 gives only the state again, so what such a shunt ends in is the model's choice: it goes
on as any other, waits for its grant and is driven with the target it holds (log 64). -/
def shuntEnd (e : Env) (d : DoorNo) (g : Segment) : Segment :=
  let x := g.door d
  if x.eng.state = .exitShunt then
    let g := updEng e d (fun x =>
      { x with fallback := .released, retry := 0, deferral := .none, deferralSub := 0 }) g
    whenWired e d (fun g =>
      if x.closed (e.profile d) then awaitGrant e d g
      else enterQuietWait e d (updEng e d (fun x => { x with force := true }) g)) g
  else g

/-- The exit window's timer expires (R127). -/
def exitWindowEnd (e : Env) (d : DoorNo) (g : Segment) : Segment :=
  let x := (g.door d).eng
  if x.state = .secured ∧ x.exitWindow then
    updEng e d (fun x => { x with exitWindow := false, timer := .stopped }) g
  else g

/-! ## The deferral's seconds (R121) -/

/-- The door waits in QUIET_WAIT or WARNING, where its deferral counts (R121). -/
def DoorState.defers : DoorState → Bool
  | .quietWait | .warning => true
  | _ => false

/-- The deferral becomes EXPIRED, and is acted on at once in QUIET_WAIT (R121). -/
def deferralEnd (e : Env) (d : DoorNo) (g : Segment) : Segment :=
  let g := updEng e d (fun x => { x with deferral := .expired, deferralSub := 0 }) g
  if (g.door d).eng.state = .quietWait then actOnExpiry e d g else g

/-- One second of the deferral timer: no count under SWEEP_HOLD; at 0 remaining the deferral ends (R121). -/
def deferralCount (e : Env) (d : DoorNo) (g : Segment) : Segment :=
  let x := (g.door d).eng
  match x.deferral with
  | .counting n =>
    if x.state.defers then
      let g := updEng e d (fun x => { x with deferralSub := 0 }) g
      if e.hold then g
      else if n ≤ 1 then deferralEnd e d g
      else updEng e d (fun x => { x with deferral := .counting (n - 1) }) g
    else g
  | _ => g

/-! ## Supervision faults, cooling, RESET_FAULT (R105, R106, R128 to R130) -/

/-- A supervision fault notice of kind OVERCURRENT or OPEN_CIRCUIT (R105, R106, R107, R128). A door in AWAIT_GRANT leaves the
queue before the drive-off has the queue considered, so that its own drive-off grants it nothing (log 41). -/
def supervisionFault (e : Env) (d : DoorNo) (k : Kind) (g : Segment) : Segment :=
  let g := raiseKind e d k none (forceDriveOff e d (dequeue d g))
  if (g.door d).eng.state = .faulted then g
  else
    let g := updEng e d (fun x => { x with deferral := .none, deferralSub := 0 }) (clearWatch e d g)
    if (e.profile d).faultLatch then takePending e d (answerOwed e d .failed (enterState e d .faulted g))
    else takePending e d (startTimer e d Config.coolingSeconds (enterState e d .cooling g))

/-- The cooling timer expires (R129). -/
def coolingEnd (e : Env) (d : DoorNo) (g : Segment) : Segment :=
  let x := (g.door d).eng
  if x.state = .cooling then
    if x.retry < (e.profile d).retryLimit then
      let g := updEng e d (fun x => { x with retry := x.retry + 1 }) g
      match x.target with
      | some .secured => takeSecured e d .done g
      | some .released => takeReleased e d .already g
      | none => enterState e d .holding g
    else
      match x.target with
      | some p => enterFaulted e d (failKind p) g
      | none => answerOwed e d .failed (enterState e d .faulted g)
  else g

/-- RESET_FAULT (R130): the four flags clear; a door in FAULTED acts on its target with a retry count of 0. -/
def resetFaultDoor (e : Env) (d : DoorNo) (g : Segment) : Segment :=
  let x := (g.door d).eng
  let g := clearLive e d faultKinds g
  if x.state = .faulted then
    match x.target with
    | some p => takeToward e d p .already (beginAttempt e d (.ofTarget x.target) x.target g)
    | none => enterState e d .holding (updEng e d (fun x => { x with retry := 0 }) g)
  else g

/-! ## Fire, loss and finding (R131, R132, R134) -/

/-- What the setting of the fire latch does to a door of its own (R134). -/
def fireDoor (e : Env) (d : DoorNo) (g : Segment) : Segment :=
  match (g.door d).eng.state with
  | .absent | .outOfService => g
  | .lost =>
    forceDriveOff e d (updEng e d (fun x =>
      { x with abandoned := x.lostFrom == .driving || x.lostFrom == .verifying }) g)
  | _ =>
    let g := dropPending e d (answerPending e d .overridden (answerOwed e d .overridden g))
    let g := forceDriveOff e d (clearWatch e d (withdraw e d g))
    updEng e d (fun x =>
      { x.enter .egress with target := none, deferral := .none, deferralSub := 0, retry := 0, force := false }) g

/-- A door found, or returned to service, while the fire latch is set enters EGRESS (R132, R133, R134). -/
def enterEgress (e : Env) (d : DoorNo) (g : Segment) : Segment :=
  let g := forceDriveOff e d (dropPending e d g)
  updEng e d (fun x =>
    { x.enter .egress with target := none, deferral := .none, deferralSub := 0, retry := 0, force := false }) g

/-- The states that keep themselves at a loss and gain only the flag (R131). -/
def DoorState.keptAtLoss : DoorState → Bool
  | .absent | .outOfService | .egress | .lost => true
  | _ => false

/-- The LOST notice (R131). A HOLDING door leaves HOLDING by it: R111 has its drive request take the held level, R131 and R96 have it keep
its drive request and its charge. The model follows R111, so that a request which is ON with the held level off goes OFF with its
drive-off, and the charge is 0 (log 82). -/
def lostNotice (e : Env) (d : DoorNo) (g : Segment) : Segment :=
  let st := (g.door d).eng.state
  let g := raiseKind e d .lost none g
  if st.keptAtLoss then g
  else
    let g := clearWatch e d (withdraw e d (leaveHolding e d g))
    let g := updEng e d (fun x =>
      { x with
        state := .lost, lostFrom := st, recordedWhileLost := false, abandoned := false
        timer := { x.timer with running := false }
        exitWindow := false
        pulseInAttempt := x.pulseInAttempt && st != .released
        openingMark := if st = .secured then .none else x.openingMark }) g
    consider e (answerPending e d .lost (answerOwed e d .lost g))

/-- A LOST door takes up the state it was lost from, its timer running on (R132). A MOTOR door in DRIVING has its timer
only once its pulse is acknowledged. The lock kind read is that of the moment, also where a RESTORE has changed it while the door was LOST,
which no rule speaks of (log 89). -/
def resumeState (e : Env) (d : DoorNo) (st : DoorState) (g : Segment) : Segment :=
  let motor := (e.profile d).lockKind == .motor
  updEng e d (fun x =>
    { x with
      state := st, timer := { x.timer with running := !(st == .driving && motor && !x.pulseAcked) }
      lastSettled := if st.settled then st else x.lastSettled }) g

/-- "Any other state" of R132's table. The target acted on is also the previous target of R114, from which the fallback comes (log 88). -/
def resumeByTarget (e : Env) (d : DoorNo) (g : Segment) : Segment :=
  let x := g.door d
  match x.eng.target with
  | none => enterState e d .holding g
  | some p =>
    if x.sensedOutside (e.profile d) = some p then settleAt e d p .already g
    else takeToward e d p .already
      (beginAttempt e d (.ofTarget (some p)) (some p) (updEng e d (fun x => { x with owed := none }) g))

/-- Put the pending target, if there is one, in the place of the target (R132, an abandoned actuation). -/
def pendingAsTarget (e : Env) (d : DoorNo) (g : Segment) : Segment :=
  updEng e d (fun x =>
    match x.pendingTarget with
    | some q => { x with target := some q.posture, params := q.params, pendingTarget := none }
    | none => x) g

/-- The FOUND notice (R132, R96). A RELEASED target recorded while LOST for a door lost from FAULTED begins its attempt here; a reversion
of it gives back that RELEASED target, not the one held before the set, where R119 has the target "before the attempt" (log 65). -/
def foundNotice (e : Env) (d : DoorNo) (g : Segment) : Segment :=
  let g := clearLive e d [.lost] g
  let x := (g.door d).eng
  if x.state = .lost then
    if g.fire.latch then enterEgress e d g
    else
      let g := consider e g
      match x.lostFrom with
      | .driving => if x.abandoned then resumeByTarget e d (pendingAsTarget e d g) else resumeState e d .driving g
      | .verifying =>
        if x.abandoned then resumeByTarget e d (pendingAsTarget e d g)
        else readVerifying e d (resumeState e d .verifying g)
      | .cooling => resumeState e d .cooling g
      | .exitShunt => resumeState e d .exitShunt g
      | .faulted =>
        let g := updEng e d (fun x => { x.enter .faulted with owed := none }) g
        if x.recordedWhileLost ∧ x.target = some .released then
          takeReleased e d .already (beginAttempt e d .faulted x.target g)
        else g
      | _ => resumeByTarget e d g
  else consider e g

/-! ## Abort (R151) -/

/-- The pending target does not owe: one that carried an outcome is dropped, one without is kept (R151). -/
def dropOwingPending (e : Env) (d : DoorNo) (g : Segment) : Segment :=
  match (g.door d).eng.pendingTarget with
  | some q => if q.owed.isSome then dropPending e d (answerPending e d .overridden g) else g
  | none => g

/-- An abort of a door that owes an outcome to the active run (R151). R151 has no line for EXIT_SHUNT, where a door owes an outcome after
a target set equal to its target (R117): the model lets the shunt go on toward its target (log 66). -/
def abortDoor (e : Env) (d : DoorNo) (g : Segment) : Segment :=
  let g := dropOwingPending e d (answerOwed e d .overridden g)
  match (g.door d).eng.state with
  | .quietWait | .warning | .awaitGrant => consider e (revert e d g)
  | _ => g

/-! ## Flags that terminal events and conditions set (R112) -/

/-- PROPPED begins or ends (R80, R112); in ABSENT it is not handled. -/
def proppedNotice (e : Env) (d : DoorNo) (begins : Bool) (g : Segment) : Segment :=
  if (g.door d).eng.state = .absent then g
  else if begins then raiseKind e d .propped none g
  else clearLive e d [.propped] g

/-- A TAMPER ACTIVE event or a LOCAL_FAULT begins notice (R112). -/
def tamperBegins (e : Env) (d : DoorNo) (sub : SubReason) (g : Segment) : Segment :=
  if (g.door d).eng.state = .absent then g else raiseKind e d .tamper (some sub) g

/-- The TAMPER flag clears when the TAMPER input is not ACTIVE and the drop's last condition is OK (R112). It is judged at good replies
alone, so that a mapping which takes TAMPER away leaves the flag till the next one (log 87). -/
def tamperCheck (e : Env) (d : DoorNo) (g : Segment) : Segment :=
  let x := g.door d
  let active := (e.profile d).assigns .tamper && x.inputs.tamper == some true
  if x.eng.live.tamper && !active && !x.drop.lastLocalFault then clearLive e d [.tamper] g else g

end Sys2Proof.Machine
end

