-- ==== Sys2Proof/Machine/Monitor.lean ====
section
/-! DEFINITION. The door traffic monitor (05_door_traffic_monitor.md): the monitoring enable, openings and closings, dwell,
time since close, activity and the window clock, propped doors. The quiet test and the watch stand in Engine.lean. -/

namespace Sys2Proof.Machine

/-- Change the monitor's part of a door. -/
def updMon (e : Env) (d : DoorNo) (f : Monitor → Monitor) (g : Segment) : Segment :=
  g.upd e d (fun x => { x with mon := f x.mon })

/-- An opening begins (R71): the dwell from 0, the limits latched from the profile. -/
def Monitor.opening (p : ProfileEntry) (m : Monitor) : Monitor :=
  { m with isOpen := true, dwell := 0, dwellSub := 0, latchedBounce := p.bounceLimit, latchedPropped := p.proppedLimit }

/-- The count part of a closing (R73, steps 1 to 4). -/
def Monitor.closing (m : Monitor) : Monitor :=
  let m := { m with lastOpen := m.dwell, dwellSub := 0, sinceClose := some 0, sinceSub := 0, isOpen := false }
  if m.latchedBounce ≤ m.lastOpen then
    { m with passages := m.passages + 1, windowCount := min 255 (m.windowCount + 1) }
  else m

/-- A propped mark that is SET becomes CLEAR, with PROPPED ends handed on (R70, R73). -/
def endPropped (e : Env) (d : DoorNo) (g : Segment) : Segment :=
  if (g.door d).mon.propped then
    proppedNotice e d false (updMon e d (fun m => { m with propped := false }) g)
  else g

/-- The monitor's handling of a POSITION OPEN event (R71). -/
def monitorOpen (e : Env) (d : DoorNo) (g : Segment) : Segment :=
  let m := (g.door d).mon
  if m.enable && !m.isOpen then updMon e d (Monitor.opening (e.profile d)) g else g

/-- The monitor's handling of a POSITION CLOSED event (R73). -/
def monitorClose (e : Env) (d : DoorNo) (g : Segment) : Segment :=
  let m := (g.door d).mon
  if m.enable && m.isOpen then endPropped e d (updMon e d Monitor.closing g) else g

/-- The conditions of the monitoring enable (R68). -/
def shouldMonitor (e : Env) (d : DoorNo) (g : Segment) : Bool :=
  let x := g.door d
  e.fitted d && x.eng.state != .absent && x.eng.state != .outOfService
    && (e.profile d).assigns .position && !x.drop.lost && x.drop.firstReply

/-- The enable turns ON: the monitor reconciles its position with the named input (R69). At a POSITION that is neither OPEN nor CLOSED,
for which R69 has no line, its position stands (log 56). -/
def enableOn (e : Env) (d : DoorNo) (g : Segment) : Segment :=
  let x := g.door d
  let g := updMon e d (fun m => { m with enable := true }) g
  match x.mon.isOpen, x.inputs.position with
  | _, some true => updMon e d (Monitor.opening (e.profile d)) g
  | true, some false => updMon e d (fun m => { m with isOpen := false, sinceClose := some 0, sinceSub := 0 }) g
  | _, _ => g

/-- The enable turns OFF (R70). -/
def enableOff (e : Env) (d : DoorNo) (g : Segment) : Segment :=
  endPropped e d (updMon e d (fun m =>
    { m with enable := false, lastOpen := if m.isOpen then m.dwell else m.lastOpen }) g)

/-- Re-evaluate the monitoring enable; a change evaluates the watch (R68, R82). -/
def reenable (e : Env) (d : DoorNo) (g : Segment) : Segment :=
  let now := shouldMonitor e d g
  if now == (g.door d).mon.enable then g
  else evaluateWatch e d (if now then enableOn e d g else enableOff e d g)

/-- The propped mark of an opening is SET, with PROPPED begins handed on (R80). -/
def beginPropped (e : Env) (d : DoorNo) (g : Segment) : Segment :=
  proppedNotice e d true (updMon e d (fun m => { m with propped := true }) g)

/-- The dwell at which an opening is propped (R80). -/
def Monitor.proppedAt (m : Monitor) : Nat := 10 * m.latchedPropped

/-- The door is seen open and its dwell counts (R72). -/
def Monitor.dwells (m : Monitor) : Bool := m.enable && m.isOpen

/-- One tick of the dwell, saturating (R72); reaching the propped limit begins PROPPED (R80). -/
def dwellStep (e : Env) (d : DoorNo) (g : Segment) : Segment :=
  if (g.door d).mon.dwells then
    let g := updMon e d (fun m => { m with dwell := min 65535 (m.dwell + 1), dwellSub := 0 }) g
    let m := (g.door d).mon
    if !m.propped && m.proppedAt ≤ m.dwell then beginPropped e d g else g
  else g

/-- One tick of the time since close, saturating, with the watch evaluated (R75, R82). -/
def sinceStep (e : Env) (d : DoorNo) (g : Segment) : Segment :=
  match (g.door d).mon.sinceClose with
  | none => g
  | some n => evaluateWatch e d (updMon e d (fun m => { m with sinceClose := some (min 65535 (n + 1)), sinceSub := 0 }) g)

/-- The new activity from the old one and the window count (R77). -/
def nextActivity (a n : Nat) : Nat := if n = 0 ∧ a < 4 then 0 else a - a / 4 + 32 * n

/-- The update of one door at the expiry of the window clock (R77). -/
def Monitor.window (m : Monitor) : Monitor :=
  { m with activity := nextActivity m.activity m.windowCount, windowCount := 0 }

/-- The window clock expires (R76, R77): every door's activity is updated and its count becomes 0, the next window starts with
the length of the settings, and every watch is evaluated. The spec gives the watches no order; the model evaluates them in ascending
door number, after all updates (log 58). -/
def windowEnd (e : Env) (g : Segment) : Segment :=
  forDoors allDoors (evaluateWatch e)
    { g with
      doors := vmap (fun x => { x with mon := x.mon.window }) g.doors
      window := ⟨e.work.segment.value.windowLength, 0⟩ }

end Sys2Proof.Machine
end

