-- ==== Sys2Proof/Machine/Service.lean ====
section
/-! DEFINITION. Doors that come and go: learning and the initial application (R98, R31), out of service and return (R133),
becoming and ceasing to be fitted (R33), doors of a defective profile (R38). -/

namespace Sys2Proof.Machine

/-- Hand a door its expected posture as a target set with the catch-up parameters; none while it is unknown (R30). -/
def giveExpected (e : Env) (d : DoorNo) (g : Segment) : Segment :=
  match expectedPosture e g.exemptions d with
  | some p => targetSet e d p e.catchUp none g
  | none => g

/-- The doors in HOLDING. -/
def holdingDoors (g : Segment) : List DoorNo := allDoors.filter (fun d => (g.door d).eng.state == .holding)

/-- The initial application (R31), at the first moment at which the clock is known and the learning flag clear. R31 gives its doors no
order; the model hands their targets in ascending door number (log 52). -/
def tryInitial (e : Env) (g : Segment) : Segment :=
  if !g.initialDone && e.known && !g.learning then
    { forDoors (holdingDoors g) (giveExpected e) g with initialDone := true }
  else g

/-- Every drop of a fitted door has had its first good reply taken or has been declared LOST (R98). -/
def learned (e : Env) (g : Segment) : Bool :=
  e.loaded && allDoors.all (fun d => !e.fitted d || (g.door d).drop.firstReply || (g.door d).drop.lost)

/-- The learning flag clears (R98): the queue is considered and the clock is told. -/
def testLearning (e : Env) (g : Segment) : Segment :=
  if g.learning && learned e g then tryInitial e (consider e { g with learning := false }) else g

/-- The charge a first good reply teaches (R97). -/
def learnedCharge (p : ProfileEntry) (reported : Option Bool) : Charge :=
  if p.lockKind != .motor && reported == some true then ⟨p.holdUnits, .hold, 0, 0⟩ else .initial

/-- Learning of a door (R97), and the test of the flag (R98). -/
def learn (e : Env) (d : DoorNo) (g : Segment) : Segment :=
  let p := e.profile d
  testLearning e (consider e (setCharge d (learnedCharge p ((g.door d).reported p)) g))

/-- The door engine's side of the out-of-service request, the service mark apart (R133). -/
def takeOutOfService (e : Env) (d : DoorNo) (g : Segment) : Segment :=
  if (g.door d).eng.state = .absent then g
  else
    let g := dropPending e d (answerPending e d .absent (answerOwed e d .absent g))
    let g := cancelPulse e d (clearWatch e d (withdraw e d g))
    let g := clearLive e d faultKinds (forceDriveOff e d g)
    reenable e d (updEng e d (fun x =>
      { x.enter .outOfService with target := none, retry := 0, deferral := .none, deferralSub := 0 }) g)

/-- The return to service of a fitted door in OUT_OF_SERVICE whose profile is not defective (R133): EGRESS while the fire
latch is set, else HOLDING and its expected posture. -/
def returnToService (e : Env) (d : DoorNo) (g : Segment) : Segment :=
  if (g.door d).eng.state = .outOfService ∧ e.fitted d ∧ !e.profileDefective d then
    if g.fire.latch then reenable e d (enterEgress e d g)
    else giveExpected e d (reenable e d (updEng e d (fun x => { x.enter .holding with target := none }) g))
  else g

def setServiceMark (e : Env) (d : DoorNo) (on : Bool) (g : Segment) : Segment :=
  updEng e d (fun x => { x with inService := on }) g

/-- A door becomes fitted (R33, R67, R84, R99, R110): every value as at power-on, the service mark apart; OUT_OF_SERVICE with
mark OUT_OF_SERVICE or a defective profile, else as at a return to service. It stands in no queue (R87). A last visit that is still to
come or under way (R33, R51) is dropped with the old record, and a slot in progress counts for the new one: neither rule says so, and it is
the model's choice (log 76). -/
def becomeFitted (e : Env) (d : DoorNo) (g : Segment) : Segment :=
  let fresh := Door.initial e.catchUp
  let g := (dequeue d g).putDoor d { fresh with eng := { fresh.eng with inService := (g.door d).eng.inService } }
  let g := enterState e d .outOfService g
  testLearning e (if (g.door d).eng.inService then returnToService e d g else g)

/-- A door ceases to be fitted (R33, R84, R99, R133): as at the out-of-service request with the LOST flag cleared, its charge 0
at once, and its last visit still to come. The service mark is kept (log 22). -/
def ceaseFitted (e : Env) (d : DoorNo) (g : Segment) : Segment :=
  if (g.door d).eng.state = .absent then g
  else
    let g := clearLive e d [.lost] (takeOutOfService e d g)
    let g := (setCharge d .initial g).upd e d (fun x =>
      { x with sup := ⟨0, 0⟩, drop := { x.drop with leaving := .awaiting } })
    testLearning e (consider e g)

/-- The end of a drop's last visit: the door becomes ABSENT (R33), and stands in no queue (R87). -/
def endLastVisit (e : Env) (d : DoorNo) (g : Segment) : Segment :=
  (dequeue d g).upd e d (fun x =>
    { x with eng := x.eng.enter .absent, drop := { x.drop with leaving := .no } })

/-- What a change of the door table makes of a door's being fitted (R33). -/
def syncFitted (e : Env) (was : Bool) (d : DoorNo) (g : Segment) : Segment :=
  if e.fitted d && !was then becomeFitted e d g
  else if !e.fitted d && was then ceaseFitted e d g
  else g

/-- A fitted door of a defective profile is OUT_OF_SERVICE whatever its mark; with mark IN_SERVICE and a sound profile it
returns to service (R38, R34). -/
def reconcileProfile (e : Env) (d : DoorNo) (g : Segment) : Segment :=
  let x := (g.door d).eng
  if !e.fitted d then g
  else if e.profileDefective d then
    if x.state = .outOfService then g else takeOutOfService e d g
  else if x.state = .outOfService ∧ x.inService then returnToService e d g
  else g

/-- The doors whose entry names profile p (R37). -/
def doorsNaming (e : Env) (p : Fin 8) : List DoorNo :=
  allDoors.filter (fun d => (e.doorEntry d).profile == p)

end Sys2Proof.Machine
end

