-- ==== Sys2Proof/Machine/Sequencer.lean ====
section
/-! DEFINITION. The sweep sequencer (09_sweep_programs_and_runs.md): start requests, runs, steps, completion, abort and the end
of a run by fire. -/

namespace Sys2Proof.Machine

/-- The sequencer's answer to a start request (R138). -/
inductive StartAnswer where
  | started | queued | dropped
  deriving DecidableEq, Repr

/-- A dropped request is recorded, and its RUN_DROPPED exception handed on; for NOT_LOADED it waits for the end of the load
(R137, R138). -/
def dropRequest (e : Env) (p : Fin 8) (reason : DropReason) (g : Segment) : Segment :=
  let g := { g with seqr := { g.seqr with dropped := some ⟨p, reason, e.minute⟩ } }
  if reason = .notLoaded then { g with seqr := { g.seqr with unlistedDrops := g.seqr.unlistedDrops + 1 } }
  else listException e none .runDropped none g

/-- The record of step k at the run's start (R140). -/
def StepRecord.initial (offset : Nat) : StepRecord :=
  { state := .delaying, baseReached := false, remaining := offset, sub := 0, due := false, startMinute := none
    doneMinute := none, members := [] }

/-- A run starts: its record is made and step 1's base is reached (R140, R141). -/
def startRun (e : Env) (p : Fin 8) (g : Segment) : Segment :=
  let r : Run :=
    { program := p, startMinute := e.minute
      steps := (List.range (e.stepCount p)).map (fun i => .initial (e.stepEntry p (i + 1)).offset) }
  { g with seqr := { g.seqr with run := some (r.reachBase e 1) } }

/-- The reason to drop a start request before the queue is looked at for room: the lines of R138's table in order. -/
def dropReason (e : Env) (p : Fin 8) (g : Segment) : Option DropReason :=
  if !e.loaded then some .notLoaded
  else if g.fire.latch then some .fire
  else if e.programDefective p then some .defective
  else if e.stepCount p = 0 then some .disabled
  else if g.seqr.run.any (fun r => r.program == p) then some .active
  else if g.seqr.queue.contains p then some .queued
  else if g.seqr.run.isSome && Config.maxRunQueue ≤ g.seqr.queue.length then some .full
  else none

/-- A start request (R138). -/
def startRequest (e : Env) (p : Fin 8) (g : Segment) : StartAnswer × Segment :=
  match dropReason e p g with
  | some reason => (.dropped, dropRequest e p reason g)
  | none =>
    if g.seqr.run.isNone then (.started, startRun e p g)
    else (.queued, { g with seqr := { g.seqr with queue := g.seqr.queue ++ [p] } })

/-- The members of a local group: fitted doors whose groups set contains it (R142, R156). -/
def groupMembers (e : Env) (k : Fin 16) : List DoorNo :=
  allDoors.filter (fun d => e.fitted d && (e.doorEntry d).inGroup k)

/-- The step to which a door owes an outcome, by itself or through its pending target (R142, R150). -/
def Engine.owes (x : Engine) : Option Nat :=
  match x.owed with
  | some k => some k
  | none =>
    match x.pendingTarget with
    | some q => q.owed
    | none => none

/-- Mark a member as following an earlier step (R142). -/
def markFollowing (d : DoorNo) (k j : Nat) (g : Segment) : Segment :=
  { g with seqr := { g.seqr with
      run := g.seqr.run.map (fun r => r.modStep k (fun s => s.remark d (fun m => m == .nothing) (.following j))) } }

/-- The parameters a step's target set carries (R143). -/
def stepParams (e : Env) (p : Fin 8) (k : Nat) : Params :=
  match e.programKind p with
  | .lockup => (e.stepEntry p k).params
  | .release => e.catchUp

/-- Classify one member at the start of step k of program p (R142). -/
def classify (e : Env) (p : Fin 8) (k : Nat) (d : DoorNo) (g : Segment) : Segment :=
  let x := (g.door d).eng
  let posture := (e.programKind p).posture
  let hand := targetSet e d posture (stepParams e p k) (some k)
  if x.state = .outOfService then recordOutcome e d k .absent g
  else if x.state = .lost then hand g
  else if (effectiveExemption g.exemptions (e.doorEntry d)).any (fun keep => keep != posture) then
    recordOutcome e d k .exempt g
  else if x.state = posture.state then recordOutcome e d k .already g
  else
    match x.owes with
    | some j => if j < k then markFollowing d k j g else hand g
    | none => hand g

/-- Step k starts (R142): ACTIVE, its start minute and member set taken, a WITH_PREVIOUS successor's base reached, its members
classified in ascending door number, and the step judged (R145). -/
def beginStep (e : Env) (k : Nat) (g : Segment) : Segment :=
  match g.seqr.run with
  | none => g
  | some r =>
    let p := r.program
    let ds := groupMembers e (e.stepEntry p k).localGroup
    let r := r.modStep k (fun s =>
      { s with state := .active, due := false, remaining := 0, startMinute := some e.minute
               members := ds.map (fun d => ⟨d, .nothing⟩) })
    let r := if (e.stepEntry p (k + 1)).startMode = .withPrevious then r.reachBase e (k + 1) else r
    let g := forDoors ds (classify e p k) { g with seqr := { g.seqr with run := some r } }
    { g with seqr := { g.seqr with run := g.seqr.run.map (fun r => r.judgeAll e) } }

/-- The lowest step that starts now. -/
def Run.firstDue (r : Run) : Option Nat :=
  ((List.range r.steps.length).map (· + 1)).find? (fun k =>
    match r.step k with
    | some s => s.due && s.state == .delaying
    | none => false)

/-- The active run completes (R146): COMPLETED summary, no run active, the oldest queued program starts. -/
def completeRun (e : Env) (r : Run) (g : Segment) : Segment :=
  let g := { g with seqr := { g.seqr with summary := some (r.summarise e .completed), run := none } }
  match g.seqr.queue with
  | [] => g
  | p :: ps => startRun e p { g with seqr := { g.seqr with queue := ps } }

/-- Start what is due, complete what is finished, at most n times. -/
def runDue (e : Env) : Nat → Segment → Segment
  | 0, g => g
  | n + 1, g =>
    match g.seqr.run with
    | none => g
    | some r =>
      match r.firstDue with
      | some k => runDue e n (beginStep e k g)
      | none => if r.steps.all (fun s => s.state == .done) then runDue e n (completeRun e r g) else g

/-- Steps that are due start and finished runs complete at once: at the end of the command that made them so (R141, R146,
log 9). Five programs (one active, four queued) of at most ten steps need 55 rounds. -/
def settle (e : Env) (g : Segment) : Segment := runDue e 64 g

/-- One second of step k's own timer (R141): nothing under SWEEP_HOLD; the remaining offset counts down, and at 0 the step is
due. -/
def stepSecond (e : Env) (k : Nat) (g : Segment) : Segment :=
  { g with seqr := { g.seqr with
      run := g.seqr.run.map (fun r => r.modStep k (fun s =>
        if s.state = .delaying ∧ s.baseReached then
          if e.hold then { s with sub := 0 }
          else { s with sub := 0, remaining := s.remaining - 1, due := s.remaining ≤ 1 }
        else s)) } }

/-- Step k is due: its base is reached and no SWEEP_HOLD is in force (R141). -/
def stepDue (e : Env) (k : Nat) (g : Segment) : Segment :=
  { g with seqr := { g.seqr with
      run := g.seqr.run.map (fun r => r.modStep k (fun s =>
        if s.state = .delaying ∧ s.baseReached ∧ !e.hold then { s with due := true } else s)) } }

/-- The doors that owe an outcome to the active run, in ascending number (R150). -/
def owingDoors (g : Segment) : List DoorNo := allDoors.filter (fun d => (g.door d).eng.owes.isSome)

/-- End the active run with a summary, and empty the queue (R150, R152). -/
def endRun (e : Env) (ending : Ending) (g : Segment) : Segment :=
  { g with seqr := { g.seqr with
      summary := match g.seqr.run with
        | some r => some (r.summarise e ending)
        | none => g.seqr.summary
      run := none, queue := [] } }

/-- ABORT_RUN at the sequencer (R150). -/
def abortActive (e : Env) (g : Segment) : Segment :=
  if g.seqr.run.isSome then endRun e .aborted (forDoors (owingDoors g) (abortDoor e) g) else endRun e .aborted g

/-- Every member of a started step with nothing recorded counts OVERRIDDEN (R152). -/
def Run.overrideAll (r : Run) : Run :=
  { r with steps := r.steps.map (fun s =>
      { s with members := s.members.map (fun m => if m.mark.isOutcome then m else { m with mark := .outcome .overridden }) }) }

/-- The setting of the fire latch at the sequencer (R152). -/
def fireRun (e : Env) (g : Segment) : Segment :=
  endRun e .fire { g with seqr := { g.seqr with run := g.seqr.run.map Run.overrideAll } }

end Sys2Proof.Machine
end

