-- ==== Sys2Proof/Machine/FireUnit.lean ====
section
/-! DEFINITION. The fire release unit (10.3): FIRE_IN, the latch and the restore. -/

namespace Sys2Proof.Machine

/-- The FIRE_IN reading from the pin and the polarity of the working SEGMENT table (R163). -/
def fireReading (e : Env) (high : Bool) : Bool := high == e.work.segment.value.fireActiveHigh

/-- Judge FIRE_IN: a change of the reading to INACTIVE returns the persistence timer to 0 (R164). -/
def judgeFireIn (active : Bool) (g : Segment) : Segment :=
  if active == g.fire.reading then g
  else { g with fire := { g.fire with reading := active, persistence := 0 } }

/-- LOCK_DRIVE goes off at every door: the supervision counts of the doors whose level was on become 0 (R104, R165). -/
def setLatchFlag (e : Env) (cause : LatchCause) (g : Segment) : Segment :=
  { g with
    doors := vgen 64 (fun d =>
      let x := g.door d
      if x.lockLevel g.fire.latch (e.profile d) then { x with sup := ⟨0, 0⟩ } else x)
    fire := { g.fire with latch := true, cause := some cause } }

/-- The setting of the fire latch (R164, R165): every pulse is cancelled, the run ends with FIRE, and every door acts by R134.
No effect while the latch is set. -/
def setLatch (e : Env) (cause : LatchCause) (g : Segment) : Segment :=
  if g.fire.latch then g
  else
    let g := forDoors allDoors (cancelPulse e) (setLatchFlag e cause g)
    forDoors allDoors (fireDoor e) (fireRun e g)

/-- A valid header at the fire release unit (R164). -/
def fireHeader (e : Env) (c : SiteCommand) (g : Segment) : Segment :=
  let emergency := c == .emergencyRelease
  let g := { g with fire := { g.fire with lastEmergency := emergency } }
  if emergency then setLatch e .header g else g

/-- The persistence timer reaches 200 ms (R164). -/
def persistenceEnd (e : Env) (g : Segment) : Segment :=
  if g.fire.reading then
    setLatch e .fireIn { g with fire := { g.fire with persistence := Config.firePersistenceMs } }
  else g

/-- The held levels with LOCK_DRIVE off (R167). A door that had none takes its levels from the restore, every output off
(log 32). -/
def Drop.heldOff (p : ProfileEntry) (x : Drop) : Drop :=
  let h := x.held.getD 0
  { x with held := some (match p.terminalOf .lockDrive with
      | some k => h &&& ~~~(1#6 <<< k.val)
      | none => h) }

/-- A door in EGRESS at the restore: HOLDING with target NONE and LOCK_DRIVE held off, then its expected posture (R167). -/
def restoreDoor (e : Env) (d : DoorNo) (g : Segment) : Segment :=
  if (g.door d).eng.state = .egress then
    giveExpected e d (g.upd e d (fun x =>
      { x with eng := { x.eng.enter .holding with target := none }, drop := x.drop.heldOff (e.profile d) }))
  else g

/-- The fire latch clears (R167). -/
def clearLatch (e : Env) (g : Segment) : Segment :=
  forDoors allDoors (restoreDoor e)
    (consider e { g with fire := { g.fire with latch := false, cause := none } })

end Sys2Proof.Machine
end

