-- ==== Sys2Proof/Machine/GroupCommands.lean ====
section
/-! DEFINITION. The group command decoding and the exemption table (10.1, 10.2). Each command answers taken or not taken. -/

namespace Sys2Proof.Machine

/-- The scope of a command (R156). -/
inductive Scope where
  | localGroup (g : Fin 16)
  | segment
  deriving DecidableEq, Repr

/-- The members of a scope (R156). -/
def scopeMembers (e : Env) : Scope → List DoorNo
  | .localGroup k => groupMembers e k
  | .segment => allDoors.filter (fun d => e.fitted d)

/-- A target set for each of some doors, with the catch-up parameters and no owed outcome (R157). -/
def setAll (e : Env) (p : Posture) (ds : List DoorNo) (g : Segment) : Segment :=
  forDoors ds (fun d => targetSet e d p e.catchUp none) g

/-- SECURE_GROUP (R156, R157). -/
def secureGroup (e : Env) (sc : Scope) (g : Segment) : Bool × Segment :=
  if g.fire.latch then (false, g) else (true, setAll e .secured (scopeMembers e sc) g)

/-- RELEASE_GROUP (R156, R157). -/
def releaseGroup (e : Env) (sc : Scope) (g : Segment) : Bool × Segment :=
  if g.fire.latch then (false, g) else (true, setAll e .released (scopeMembers e sc) g)

/-- RESUME_SCHEDULE (R156, R157). -/
def resumeSchedule (e : Env) (sc : Scope) (g : Segment) : Bool × Segment :=
  if g.fire.latch || !e.known then (false, g) else (true, forDoors (scopeMembers e sc) (giveExpected e) g)

/-- Place an entry in the exemption table, in ascending local group (R159: one per group). -/
def insertExemption (x : Exemption) : List Exemption → List Exemption
  | [] => [x]
  | y :: ys =>
    if x.group.val < y.group.val then x :: y :: ys
    else if x.group = y.group then x :: ys
    else y :: insertExemption x ys

/-- R160's test of the argument and the table. -/
def exemptAccepted (m expiry : Nat) (nextDay : Bool) (k : Fin 16) (xs : List Exemption) : Bool :=
  expiry < Config.noMinute && (nextDay || m < expiry)
    && (xs.any (fun x => x.group == k) || xs.length < Config.maxExemptions)

/-- EXEMPT_RELEASED and EXEMPT_SECURED (R160). -/
def exempt (e : Env) (keep : Posture) (sc : Scope) (arg : BitVec 12) (g : Segment) : Bool × Segment :=
  let expiry := (arg.extractLsb' 0 11).toNat
  let nextDay := arg.getLsbD 11
  match sc with
  | .segment => (false, g)
  | .localGroup k =>
    if e.known && exemptAccepted e.minute expiry nextDay k g.exemptions then
      let g := { g with exemptions := insertExemption ⟨k, keep, expiry, if nextDay then 1 else 0⟩ g.exemptions }
      let ds := (groupMembers e k).filter (fun d => effectiveExemption g.exemptions (e.doorEntry d) == some keep)
      (true, setAll e keep ds g)
    else (false, g)

/-- What the removal of an entry gives one member (R161). -/
def afterRemoval (e : Env) (removed : Posture) (d : DoorNo) (g : Segment) : Segment :=
  match effectiveExemption g.exemptions (e.doorEntry d) with
  | none => giveExpected e d g
  | some k => if k = removed then g else targetSet e d k e.catchUp none g

/-- Remove the entry of a group and act on its members (R161). At an expiry R161 orders the entries and not a group's members: the model
takes them in ascending door number, as R156 has it for the command END_EXEMPTION (log 73). -/
def removeExemption (e : Env) (k : Fin 16) (g : Segment) : Segment :=
  match g.exemptions.find? (fun x => x.group == k) with
  | none => g
  | some x =>
    forDoors (groupMembers e k) (afterRemoval e x.keep)
      { g with exemptions := g.exemptions.filter (fun y => y.group != k) }

/-- Remove several groups' entries, one after another (R161). -/
def removeAll (e : Env) (ks : List (Fin 16)) (g : Segment) : Segment :=
  ks.foldl (fun acc k => removeExemption e k acc) g

/-- A told minute m (R161): entries with day count 0 and expiry at or below m expire, in ascending local group. -/
def expireAt (e : Env) (m : Nat) (g : Segment) : Segment :=
  removeAll e ((g.exemptions.filter (fun x => x.dayCount == 0 && x.expiry ≤ m)).map (·.group)) g

/-- A midnight rollover (R161): entries with day count 0 expire, the others take day count 0. -/
def rolloverExemptions (e : Env) (g : Segment) : Segment :=
  let out := (g.exemptions.filter (fun x => x.dayCount == 0)).map (·.group)
  removeAll e out
    { g with exemptions := g.exemptions.map (fun x => if x.dayCount = 0 then x else { x with dayCount := 0 }) }

/-- END_EXEMPTION (R156, R161). -/
def endExemption (e : Env) (sc : Scope) (g : Segment) : Bool × Segment :=
  match sc with
  | .segment => (false, g)
  | .localGroup k => (true, removeExemption e k g)

/-- START_PROGRAM (R156, R158): taken when the request is started or queued; a drop is recorded all the same. -/
def startProgram (e : Env) (sc : Scope) (arg : BitVec 12) (g : Segment) : Bool × Segment :=
  match sc with
  | .localGroup _ => (false, g)
  | .segment =>
    if h : arg.toNat < 8 then
      let r := startRequest e ⟨arg.toNat, h⟩ g
      (r.1 != .dropped, r.2)
    else (false, g)

/-- ABORT_RUN (R156, R150). -/
def abortRun (e : Env) (sc : Scope) (g : Segment) : Bool × Segment :=
  match sc with
  | .localGroup _ => (false, g)
  | .segment => (true, abortActive e g)

/-- FIRE_RESTORE (R156, R166). -/
def fireRestore (e : Env) (sc : Scope) (g : Segment) : Bool × Segment :=
  match sc with
  | .localGroup _ => (false, g)
  | .segment =>
    if g.fire.reading || g.fire.lastEmergency then (false, g)
    else if g.fire.latch then (true, clearLatch e g) else (true, g)

end Sys2Proof.Machine
end

