-- ==== Sys2Proof/Machine/Operands.lean ====
section
/-! DEFINITION. The operand forms: the layouts of the records of the trunk and of the branch lines (12.2, 12.3), the
codes of R181 and the management values of R182. -/

namespace Sys2Proof.Machine

/-! ## Bits -/

/-- A number as one byte. -/
def byte (n : Nat) : Byte := BitVec.ofNat 8 n

/-- A Bool as one bit. -/
def bit (b : Bool) : BitVec 1 := BitVec.ofBool b

/-! ## The header (12.2, R3, R181) -/

/-- The items of a header record. -/
structure Header where
  second : Nat
  today : Nat
  tomorrow : Nat
  site : SiteCommand
  deriving DecidableEq, Repr

/-- Site command codes; every other code is handled as NORMAL (R181). -/
def siteOfCode (c : Byte) : SiteCommand :=
  if c = 1#8 then .sweepHold else if c = 2#8 then .emergencyRelease else .normal

/-- The header of a record (12.2). -/
def headerOf (r : TrunkRecord) : Header :=
  ⟨(r.b0 ++ r.b1 ++ r.b2 ++ r.b3).toNat, r.b4.toNat, r.b5.toNat, siteOfCode r.b6⟩

/-- The header is valid (R3). -/
def headerIsValid (r : TrunkRecord) : Bool :=
  let h := headerOf r
  trunkPasses r && h.second < Config.daySeconds && h.today ≤ 6 && h.tomorrow ≤ 6

/-! ## Management requests and responses (R10, R168, R181) -/

/-- The fields of a request as they stand in the record. -/
structure Request where
  head : ReqHead
  kind : BitVec 4
  table : Byte
  index : Byte
  field : Byte
  value : Value
  deriving DecidableEq, Repr

/-- The request kinds in the order of their codes (R181). -/
inductive ReqKind where
  | read | write | doorService | clearDoorEvents | resetFault | clearException | store | restore | restart
  deriving DecidableEq, Repr

def ReqKind.code : ReqKind → BitVec 4
  | .read => 0 | .write => 1 | .doorService => 2 | .clearDoorEvents => 3 | .resetFault => 4
  | .clearException => 5 | .store => 6 | .restore => 7 | .restart => 8

def ReqKind.all : List ReqKind :=
  [.read, .write, .doorService, .clearDoorEvents, .resetFault, .clearException, .store, .restore, .restart]

/-- The request kind of a code; none for 9..15 (R181). -/
def ReqKind.ofCode (c : BitVec 4) : Option ReqKind := ReqKind.all.find? (fun k => k.code == c)

/-- Slot 0 holds a response: bit 7 of byte 0 is 1 (12.2). -/
def isResponse (r : TrunkRecord) : Bool := r.b0.msb

/-- The request of a slot 0 record (12.2). -/
def requestOf (r : TrunkRecord) : Request :=
  { head := ⟨r.b0.extractLsb' 0 5, r.b1.extractLsb' 4 4⟩, kind := r.b1.extractLsb' 0 4
    table := r.b2, index := r.b3, field := r.b4, value := r.b5 ++ r.b6 }

/-- The record of a request, with its check (12.2). -/
def requestRecord (q : Request) : TrunkRecord :=
  trunkSeal
    { b0 := 0#3 ++ q.head.target, b1 := q.head.tag ++ q.kind, b2 := q.table, b3 := q.index, b4 := q.field
      b5 := q.value.extractLsb' 8 8, b6 := q.value.extractLsb' 0 8, b7 := 0 }

/-- The result codes in the order of R181. -/
inductive Result where
  | done | clamped | badTable | badIndex | badField | badValue | readOnly | busy | storeBusy | refusedState
  deriving DecidableEq, Repr

def Result.code : Result → Byte
  | .done => 0 | .clamped => 1 | .badTable => 2 | .badIndex => 3 | .badField => 4 | .badValue => 5
  | .readOnly => 6 | .busy => 7 | .storeBusy => 8 | .refusedState => 9

/-- The response to a request (R10, 12.2). -/
def responseRecord (address : Nat) (q : Request) (res : Result) (v : Value) : TrunkRecord :=
  trunkSeal
    { b0 := 0x80#8 ||| byte address, b1 := q.head.tag ++ q.kind, b2 := res.code, b3 := q.table, b4 := q.index
      b5 := v.extractLsb' 8 8, b6 := v.extractLsb' 0 8, b7 := 0 }

/-! ## Command slots (R11, R181) -/

/-- The command codes above NONE. -/
inductive CommandCode where
  | secureGroup | releaseGroup | exemptReleased | exemptSecured | endExemption | resumeSchedule | startProgram
  | abortRun | fireRestore
  deriving DecidableEq, Repr

def CommandCode.code : CommandCode → Byte
  | .secureGroup => 1 | .releaseGroup => 2 | .exemptReleased => 3 | .exemptSecured => 4 | .endExemption => 5
  | .resumeSchedule => 6 | .startProgram => 7 | .abortRun => 8 | .fireRestore => 9

def CommandCode.all : List CommandCode :=
  [.secureGroup, .releaseGroup, .exemptReleased, .exemptSecured, .endExemption, .resumeSchedule, .startProgram,
    .abortRun, .fireRestore]

def CommandCode.ofCode (c : Byte) : Option CommandCode := CommandCode.all.find? (fun k => k.code == c)

/-- The fields of a command slot (12.2). -/
def commandOf (r : TrunkRecord) : CommandSlot :=
  ⟨r.b1, r.b2.extractLsb' 0 4 ++ r.b3, r.b4 ++ r.b5 ++ r.b6⟩

/-- The record of a command slot, with its check (12.2). -/
def commandRecord (code : Byte) (c : CommandSlot) : TrunkRecord :=
  trunkSeal
    { b0 := code, b1 := c.siteGroup, b2 := 0#4 ++ c.argument.extractLsb' 8 4, b3 := c.argument.extractLsb' 0 8
      b4 := c.mask.extractLsb' 16 8, b5 := c.mask.extractLsb' 8 8, b6 := c.mask.extractLsb' 0 8, b7 := 0 }

/-- The record with the bit of an address set in its mask and a new check; every other bit is unchanged, the unnamed ones
included (R11, R181). Address a stands at bit a − 1. -/
def acknowledge (address : Nat) (r : TrunkRecord) : TrunkRecord :=
  let m : BitVec 24 := (r.b4 ++ r.b5 ++ r.b6) ||| (1#24 <<< (address - 1))
  trunkSeal { r with b4 := m.extractLsb' 16 8, b5 := m.extractLsb' 8 8, b6 := m.extractLsb' 0 8 }

/-! ## Codes of R182: the order in which the values are listed -/

def LatePolicy.code : LatePolicy → Nat
  | .force => 0 | .leave => 1

def LatePolicy.ofCode : Nat → Option LatePolicy
  | 0 => some .force | 1 => some .leave | _ => none

def LockKind.code : LockKind → Nat
  | .magnetic => 0 | .strike => 1 | .motor => 2

def LockKind.ofCode : Nat → Option LockKind
  | 0 => some .magnetic | 1 => some .strike | 2 => some .motor | _ => none

def TermFn.code : TermFn → Nat
  | .position => 0 | .bolt => 1 | .exitRequest => 2 | .tamper => 3 | .lockDrive => 4 | .sounder => 5
  | .indicator => 6 | .generalIn => 7 | .none => 8

def TermFn.ofCode : Nat → Option TermFn
  | 0 => some .position | 1 => some .bolt | 2 => some .exitRequest | 3 => some .tamper | 4 => some .lockDrive
  | 5 => some .sounder | 6 => some .indicator | 7 => some .generalIn | 8 => some .none | _ => none

def Role.code : Role → Nat
  | .command => 0 | .status => 1

def Role.ofCode : Nat → Option Role
  | 0 => some .command | 1 => some .status | _ => none

def ProgramKind.code : ProgramKind → Nat
  | .lockup => 0 | .release => 1

def ProgramKind.ofCode : Nat → Option ProgramKind
  | 0 => some .lockup | 1 => some .release | _ => none

def StartMode.code : StartMode → Nat
  | .withPrevious => 0 | .afterPrevious => 1

def StartMode.ofCode : Nat → Option StartMode
  | 0 => some .withPrevious | 1 => some .afterPrevious | _ => none

def Posture.code : Posture → Nat
  | .secured => 0 | .released => 1

def Posture.ofCode : Nat → Option Posture
  | 0 => some .secured | 1 => some .released | _ => none

def SiteCommand.code : SiteCommand → Nat
  | .normal => 0 | .sweepHold => 1 | .emergencyRelease => 2

def TrunkState.code : TrunkState → Nat
  | .noTime => 0 | .tracking => 1 | .holdover => 2

def Condition.code : Condition → Nat
  | .normal => 0 | .noTime => 1 | .holdover => 2 | .fire => 3 | .listen => 4

/-- The order of the table of R111. -/
def DoorState.code : DoorState → Nat
  | .absent => 0 | .holding => 1 | .released => 2 | .secured => 3 | .quietWait => 4 | .warning => 5
  | .awaitGrant => 6 | .driving => 7 | .verifying => 8 | .exitShunt => 9 | .cooling => 10 | .faulted => 11
  | .lost => 12 | .egress => 13 | .outOfService => 14

def Kind.code : Kind → Nat
  | .notSecured => 0 | .notReleased => 1 | .propped => 2 | .forcedOpen => 3 | .overcurrent => 4
  | .openCircuit => 5 | .lost => 6 | .tamper => 7 | .leftReleased => 8 | .budget => 9 | .storeDefect => 10
  | .runDropped => 11 | .clockStep => 12

/-- The exception kinds in the order of R173. -/
def Kind.all : List Kind :=
  [.notSecured, .notReleased, .propped, .forcedOpen, .overcurrent, .openCircuit, .lost, .tamper, .leftReleased,
    .budget, .storeDefect, .runDropped, .clockStep]

def Kind.ofCode (n : Nat) : Option Kind := Kind.all[n]?

def SubReason.code : SubReason → Nat
  | .terminal => 0 | .localFault => 1

/-- The order of R154. -/
def DoorOutcome.code : DoorOutcome → Nat
  | .done => 0 | .already => 1 | .exempt => 2 | .absent => 3 | .lost => 4 | .leftReleased => 5
  | .proppedLate => 6 | .failed => 7 | .budget => 8 | .overridden => 9

def PulseKind.code : PulseKind → Nat
  | .throw => 1 | .withdraw => 2

def Basis.code : Basis → Nat
  | .none => Config.noneCode | .hold => 1 | .run => 2 | .tail => 3

/-- NONE among fallbacks reads as none (log 28). -/
def Fallback.code : Fallback → Nat
  | .none => Config.noneCode | .secured => 1 | .released => 2 | .faulted => 3

def OpeningMark.code : OpeningMark → Nat
  | .none => Config.noneCode | .inWindow => 1 | .forced => 2

/-- None is listed before the two causes (R163); no cause reads none. -/
def LatchCause.code : LatchCause → Nat
  | .fireIn => 1 | .header => 2

def StepState.code : StepState → Nat
  | .delaying => 0 | .active => 1 | .done => 2

def Ending.code : Ending → Nat
  | .completed => 0 | .aborted => 1 | .fire => 2

def DropReason.code : DropReason → Nat
  | .notLoaded => 0 | .fire => 1 | .defective => 2 | .disabled => 3 | .active => 4 | .queued => 5 | .full => 6

/-- A two-valued flag or state (R182). -/
def flagCode (b : Bool) : Nat := if b then 1 else 0

/-- A value or none (R182). -/
def optCode (x : Option Nat) : Nat := x.getD Config.noneCode

def optFlag (x : Option Bool) : Nat := optCode (x.map flagCode)

def optPosture (x : Option Posture) : Nat := optCode (x.map Posture.code)

/-- A number as the 16-bit value. -/
def toValue (n : Nat) : Value := BitVec.ofNat 16 n

/-! ## Branch records (12.3) -/

/-- The command record: drop, pulse sequence and kind, Apply, directions, levels, run time. -/
def branchCommand (k : DropNo) (seq : BitVec 2) (kind : BitVec 2) (apply : Bool) (dirs levels : BitVec 6)
    (runTime : Nat) : BranchRecord :=
  branchSeal
    { b0 := BitVec.ofNat 4 k.val ++ seq ++ kind, b1 := bit apply ++ 0#1 ++ dirs, b2 := 0#2 ++ levels
      b3 := 0#2 ++ BitVec.ofNat 6 runTime, b4 := 0 }

/-- The items of a reply. -/
structure Reply where
  echo : BitVec 4
  seq : BitVec 2
  localFault : Bool
  inputs : BitVec 6
  outputs : BitVec 6
  current : Nat
  deriving DecidableEq, Repr

/-- The reply in a branch record (12.3). -/
def replyOf (r : BranchRecord) : Reply :=
  { echo := r.b0.extractLsb' 4 4, seq := r.b0.extractLsb' 2 2, localFault := r.b0.getLsbD 0
    inputs := r.b1.extractLsb' 0 6, outputs := r.b2.extractLsb' 0 6, current := r.b3.toNat }

/-- The reply record, with its check (12.3). -/
def replyRecord (x : Reply) : BranchRecord :=
  branchSeal
    { b0 := x.echo ++ x.seq ++ 0#1 ++ bit x.localFault, b1 := 0#2 ++ x.inputs, b2 := 0#2 ++ x.outputs
      b3 := byte x.current, b4 := 0 }

/-- The items of a command as a drop module reads it (12.3). -/
structure BranchCommand where
  drop : BitVec 4
  seq : BitVec 2
  kind : BitVec 2
  apply : Bool
  dirs : BitVec 6
  levels : BitVec 6
  runTime : BitVec 6
  deriving DecidableEq, Repr

def branchCommandOf (r : BranchRecord) : BranchCommand :=
  { drop := r.b0.extractLsb' 4 4, seq := r.b0.extractLsb' 2 2, kind := r.b0.extractLsb' 0 2
    apply := r.b1.msb, dirs := r.b1.extractLsb' 0 6, levels := r.b2.extractLsb' 0 6
    runTime := r.b3.extractLsb' 0 6 }

end Sys2Proof.Machine
end

