-- ==== Sys2Proof/Machine/Clock.lean ====
section
/-! DEFINITION. The segment clock (02_segment_clock_day_plan_and_expected_posture.md) on the whole state: seconds, minute
boundaries, rollover, the firing of day-plan entries, and headers in TRACKING. -/

namespace Sys2Proof.Machine

/-- Change the segment with what it reads of the rest. -/
def State.seg! (s : State) (f : Env → Segment → Segment) : State := { s with seg := f s.env s.seg }

/-- Start what is due, complete what is finished (log 9). -/
def settled (s : State) : State := s.seg! settle

/-- Fire one day-plan entry of today, where it is due at minute m (R27): its mark is set, and a start request handed. -/
def fireEntry (m i : Nat) (s : State) : State :=
  match s.env.planEntry s.clock.today i with
  | none => s
  | some y =>
    let ix := 6 * s.clock.today + i
    if y.minute = m ∧ s.clock.fired[ix]? = some false then
      let s := { s with clock := { s.clock with fired := s.clock.fired.setIfInBounds ix true } }
      s.seg! (fun e g => (startRequest e y.program g).2)
    else s

/-- The entries of today whose minute is m, in plan order (R26, R27); what they have made due starts after the last of them
(log 9), so that a program they name twice is dropped as active or queued (R27). -/
def fireMinute (m : Nat) (s : State) : State := settled ((List.range 6).foldl (fun s i => fireEntry m i s) s)

/-- Tell the exemption table a minute (R24, R161); what its target sets finish completes before the next boundary (log 9). -/
def tellMinute (m : Nat) (s : State) : State := s.seg! (fun e g => settle e (expireAt e m g))

/-- A minute boundary is passed (R18, R24, R27). Which of the two is first is a free value (log 17). -/
def boundary (s : State) : State :=
  let m := s.clock.minute
  let first := Config.expiryFirst s.seg.free
  let s := { s with seg := { s.seg with free := s.seg.free + 1 } }
  if first then fireMinute m (tellMinute m s) else tellMinute m (fireMinute m s)

/-- The midnight rollover (R24). -/
def rollover (s : State) : State :=
  let c := s.clock
  let s := { s with clock := { c with yesterday := c.today, today := c.tomorrow, tomorrow := 7
                                      fired := .replicate 48 false } }
  s.seg! (fun e g => settle e (rolloverExemptions e g))

/-- The clock of a state stands at a second. -/
def State.atSecond (t : Nat) (s : State) : State := { s with clock := { s.clock with second := some t } }

/-- The second of day advances by one (R18), the rollover before the boundary (log 18). -/
def secondPasses (s : State) : State :=
  match s.clock.second with
  | none => s
  | some t =>
    let t' := (t + 1) % Config.daySeconds
    let s := s.atSecond t'
    let s := if t' = 0 then rollover s else s
    if t' % 60 = 0 then boundary s else s

/-- n seconds in succession (R20). -/
def secondsPass : Nat → State → State
  | 0, s => s
  | n + 1, s => secondsPass n (secondPasses s)

/-- The phase restarts at 0. -/
def restartPhase (s : State) : State := { s with clock := { s.clock with phase := 0 } }

/-- The tick (R18): it has no effect while the clock is unknown. -/
def tick (s : State) : State := settled (secondPasses (restartPhase s))

/-- Whether a header has just changed the second of day (R22, log 71). -/
def setJustSet (b : Bool) (s : State) : State := { s with clock := { s.clock with justSet := b } }

/-- A header changes the second of day (R18, R22): the phase restarts, and the tick that was due is not taken. -/
def headerRestarts (s : State) : State := setJustSet true (restartPhase s)

/-- A tick that arrives from outside (R18, R22): right behind a header that has changed the second of day it is the tick that was due,
and is not taken (log 71). -/
def tickArrives (s : State) : State := if s.clock.justSet then setJustSet false s else tick s

def setTomorrow (t : Nat) (s : State) : State := { s with clock := { s.clock with tomorrow := t } }

def setDayTypes (today tomorrow : Nat) (s : State) : State :=
  { s with clock := { s.clock with today := today, tomorrow := tomorrow } }

/-- The initial application, at its first moment (R31). -/
def initialApplication (s : State) : State := settled (s.seg! tryInitial)

/-- The first TRACKING header (R17). -/
def firstTracking (h : Header) (s : State) : State :=
  initialApplication (headerRestarts (setDayTypes h.today h.tomorrow (s.atSecond h.second)))

/-- The difference h − c brought into −43,199..43,200 (R19). -/
def clockDifference (h c : Nat) : Int :=
  let d : Int := (h : Int) - (c : Int)
  if 43200 < d then d - 86400 else if d < -43199 then d + 86400 else d

/-- How a TRACKING header stands to the clock (R19). -/
inductive HeaderClass where
  | lagging | agreeing | forward (d : Nat) | step (d : Int)
  deriving DecidableEq, Repr

/-- The day type that today would hold after a step of d (R19). -/
def todayAfter (c d : Nat) (clock : Clock) : Nat :=
  if c + d < Config.daySeconds then clock.today else clock.tomorrow

/-- The classification of a TRACKING header at a clock of second c (R19). -/
def classifyHeader (h : Header) (c : Nat) (clock : Clock) : HeaderClass :=
  let d := clockDifference h.second c
  if d = -1 then .lagging
  else if d = 0 then (if h.today = clock.today then .agreeing else .step d)
  else if 1 ≤ d ∧ d ≤ Config.windowStep then
    if h.today = todayAfter c d.toNat clock then .forward d.toNat else .step d
  else .step d

/-- A forward step in window (R20). -/
def forwardStep (d : Nat) (h : Header) (s : State) : State :=
  headerRestarts (setTomorrow h.tomorrow (secondsPass d s))

/-- A clock step (R21): then the CLOCK_STEP exception, then the exemption table is told (R24, log 37). A day-type change at the same
second restarts the phase and leaves a tick that is due to follow (R22, log 71). The rollover of a step over midnight finds the second
already set (log 75). A backward step over midnight expires what the told minute expires, though R161 also says that no entry passes its
expiry there (log 79). -/
def clockStep (d : Int) (c : Nat) (h : Header) (s : State) : State :=
  let s := s.atSecond h.second
  let s := if d = 0 then restartPhase s else headerRestarts s
  let s := if 0 < d ∧ (Config.daySeconds : Int) ≤ (c : Int) + d then rollover s else s
  let s := setDayTypes h.today h.tomorrow s
  let s := s.seg! (fun e g => listException e none .clockStep none g)
  tellMinute s.clock.minute s

/-- A TRACKING header at the segment clock (R17, R19); the last site command is set from it first (R25, log 36). -/
def trackingHeader (h : Header) (s : State) : State :=
  let s := { s with clock := { s.clock with lastSite := h.site } }
  match s.clock.second with
  | none => firstTracking h s
  | some c =>
    match classifyHeader h c s.clock with
    | .lagging => s
    | .agreeing => setTomorrow h.tomorrow s
    | .forward d => forwardStep d h s
    | .step d => clockStep d c h s

end Sys2Proof.Machine
end

