-- ==== Sys2Proof/Machine/TableStore.lean ====
section
/-! DEFINITION. The table store (11.5): loading, the entry-by-entry store, RESTORE, defective marks and what follows from their
clearing. -/

namespace Sys2Proof.Machine

/-! ## Tables by name -/

/-- The stored tables in the order of their codes (R181). -/
def TableName.all : List TableName := [.segment, .slotmap, .groupmap, .door, .profile, .program, .dayplan]

def TableName.ix : TableName → Fin 7
  | .segment => 0 | .slotmap => 1 | .groupmap => 2 | .door => 3 | .profile => 4 | .program => 5 | .dayplan => 6

/-- The entry count of a stored table (R168). -/
def TableName.count : TableName → Nat
  | .segment => 1 | .slotmap => 8 | .groupmap => 32 | .door => 64 | .profile => 8 | .program => 80 | .dayplan => 48

/-- The stored table of a table code. -/
def TableName.ofCode (n : Nat) : Option TableName := TableName.all[n]?

/-! ## Loading (R175) -/

/-- One entry as it loads (R175). -/
def Stored.load {α : Type} (default : α) : Stored α → Working α
  | .erased => ⟨default, false⟩
  | .readable a => ⟨a, false⟩
  | .correctable a => ⟨a, false⟩
  | .uncorrectable => ⟨default, true⟩

/-- Words of the entry are corrected at its load (R175). -/
def Stored.corrected {α : Type} : Stored α → Bool
  | .correctable _ => true
  | _ => false

/-- Load a table entry by entry. -/
def loadAll {α : Type} {n : Nat} (default : α) (v : Vector (Stored α) n) : Vector (Working α) n :=
  vmap (Stored.load default) v

/-- The value of a used entry without a mark. -/
def Working.used {α : Type} (w : Working (Option α)) : Option α := if w.defective then none else w.value

/-- The used, non-defective entries in index order. -/
def usedEntries {α : Type} {n : Nat} (v : Vector (Working (Option α)) n) : List α :=
  v.toList.filterMap Working.used

/-- A used entry whose key a used entry of lower index holds is defective (R175). -/
def markDuplicates {α : Type} {n : Nat} (key : α → Nat) (v : Vector (Working (Option α)) n) :
    Vector (Working (Option α)) n :=
  vgen n (fun i =>
    match v[i].used with
    | none => v[i]
    | some a =>
      if ((v.toList.take i.val).filterMap Working.used).any (fun b => key b == key a) then ⟨none, true⟩ else v[i])

/-- Place a group map entry in ascending site group. -/
def insertSite (x : GroupMapEntry) : List GroupMapEntry → List GroupMapEntry
  | [] => [x]
  | y :: ys => if x.site ≤ y.site then x :: y :: ys else y :: insertSite x ys

/-- Entries in ascending site group. -/
def sortSites (xs : List GroupMapEntry) : List GroupMapEntry := xs.foldr insertSite []

abbrev GroupMap := Vector (Working (Option GroupMapEntry)) 32

/-- The placement at the end of a load of the group map (R175): defective entries keep their indices. -/
def placeGroupMap (v : GroupMap) : GroupMap :=
  let sorted := sortSites (usedEntries v)
  vgen 32 (fun i =>
    if v[i].defective then v[i]
    else ⟨sorted[((v.toList.take i.val).filter (fun w => !w.defective)).length]?, false⟩)

/-- The sorted group map (R49): the used entries in ascending site group, the rest unused, every mark clear. -/
def sortGroupMap (v : GroupMap) : GroupMap :=
  let sorted := sortSites (usedEntries v)
  vgen 32 (fun i => ⟨sorted[i.val]?, false⟩)

def loadSlotmap (v : Vector (Stored (Option SlotMapEntry)) 8) : Vector (Working (Option SlotMapEntry)) 8 :=
  markDuplicates (fun x => x.slot) (loadAll none v)

def loadGroupmap (v : Vector (Stored (Option GroupMapEntry)) 32) : GroupMap :=
  placeGroupMap (markDuplicates (fun x => x.site) (loadAll none v))

/-- The corrected mark of each table after a load (R175). -/
def StoredTables.correctedMark (st : StoredTables) : TableName → Bool
  | .segment => st.segment.corrected
  | .slotmap => st.slotmap.toList.any (fun x => x.corrected)
  | .groupmap => st.groupmap.toList.any (fun x => x.corrected)
  | .door => st.door.toList.any (fun x => x.corrected)
  | .profile => st.profile.toList.any (fun x => x.corrected)
  | .program => st.program.toList.any (fun x => x.corrected)
  | .dayplan => st.dayplan.toList.any (fun x => x.corrected)

/-- The working tables of a load of every table (R175). -/
def loadTables (st : StoredTables) : Tables :=
  { segment := st.segment.load .default
    slotmap := loadSlotmap st.slotmap
    groupmap := loadGroupmap st.groupmap
    door := loadAll .default st.door
    profile := loadAll .default st.profile
    program := loadAll .default st.program
    dayplan := loadAll none st.dayplan
    corrected := vgen 7 (fun i => TableName.all[i.val]?.any (fun t => st.correctedMark t)) }

/-- One table of `new` in the place of that of `old`, its corrected mark included (R178). -/
def Tables.replace (old new : Tables) (t : TableName) : Tables :=
  let c := old.corrected.set t.ix new.corrected[t.ix]
  match t with
  | .segment => { old with segment := new.segment, corrected := c }
  | .slotmap => { old with slotmap := new.slotmap, corrected := c }
  | .groupmap => { old with groupmap := new.groupmap, corrected := c }
  | .door => { old with door := new.door, corrected := c }
  | .profile => { old with profile := new.profile, corrected := c }
  | .program => { old with program := new.program, corrected := c }
  | .dayplan => { old with dayplan := new.dayplan, corrected := c }

def countMarks {α : Type} {n : Nat} (v : Vector (Working α) n) : Nat :=
  (v.toList.filter (fun w => w.defective)).length

/-- The number of defective entries of a table. -/
def Tables.defects (w : Tables) : TableName → Nat
  | .segment => if w.segment.defective then 1 else 0
  | .slotmap => countMarks w.slotmap
  | .groupmap => countMarks w.groupmap
  | .door => countMarks w.door
  | .profile => countMarks w.profile
  | .program => countMarks w.program
  | .dayplan => countMarks w.dayplan

/-- The number of defective entries of all tables. -/
def Tables.allDefects (w : Tables) : Nat := (TableName.all.map w.defects).sum

/-- Hand n exceptions of one kind without a door. -/
def listMany (e : Env) (k : Kind) : Nat → Segment → Segment
  | 0, g => g
  | n + 1, g => listMany e k n (listException e none k none g)

/-! ## Storing (R177) -/

/-- Write entry i of a table from its working copy (R177); a STORE of GROUPMAP writes from a sorted working copy (R48). -/
def StoredTables.writeEntry (st : StoredTables) (w : Tables) (t : TableName) (i : Nat) : StoredTables :=
  match t with
  | .segment => { st with segment := .readable w.segment.value }
  | .slotmap => match w.slotmap[i]? with
    | some x => { st with slotmap := st.slotmap.setIfInBounds i (.readable x.value) }
    | none => st
  | .groupmap => match (sortGroupMap w.groupmap)[i]? with
    | some x => { st with groupmap := st.groupmap.setIfInBounds i (.readable x.value) }
    | none => st
  | .door => match w.door[i]? with
    | some x => { st with door := st.door.setIfInBounds i (.readable x.value) }
    | none => st
  | .profile => match w.profile[i]? with
    | some x => { st with profile := st.profile.setIfInBounds i (.readable x.value) }
    | none => st
  | .program => match w.program[i]? with
    | some x => { st with program := st.program.setIfInBounds i (.readable x.value) }
    | none => st
  | .dayplan => match w.dayplan[i]? with
    | some x => { st with dayplan := st.dayplan.setIfInBounds i (.readable x.value) }
    | none => st

/-- Entry i of a table loads as defective from now on (R177, log 13). -/
def StoredTables.spoilEntry (st : StoredTables) (t : TableName) (i : Nat) : StoredTables :=
  match t with
  | .segment => { st with segment := .uncorrectable }
  | .slotmap => { st with slotmap := st.slotmap.setIfInBounds i .uncorrectable }
  | .groupmap => { st with groupmap := st.groupmap.setIfInBounds i .uncorrectable }
  | .door => { st with door := st.door.setIfInBounds i .uncorrectable }
  | .profile => { st with profile := st.profile.setIfInBounds i .uncorrectable }
  | .program => { st with program := st.program.setIfInBounds i .uncorrectable }
  | .dayplan => { st with dayplan := st.dayplan.setIfInBounds i .uncorrectable }

def StoreState.idle : StoreState := ⟨none, 0⟩

/-- A store write is abandoned (R177): the entry under way is old, new or defective, a free value (log 13). -/
def abandonStore (s : State) : State :=
  match s.store.writing with
  | none => s
  | some (t, i) =>
    let stored := match Config.tornWrite s.seg.free with
      | 0 => s.stored
      | 1 => s.stored.writeEntry s.work t i
      | 2 => s.stored.spoilEntry t i
    { s with stored := stored, store := .idle, seg := { s.seg with free := s.seg.free + 1 } }

def clearMarks {α : Type} {n : Nat} (v : Vector (Working α) n) : Vector (Working α) n :=
  vmap (fun w => { w with defective := false }) v

/-- The table's corrected mark and its entries' defective marks are clear (R177). The group map takes the sorted form that was
written, so that its used entries stand before the unused ones (R48, log 38). -/
def Tables.clean (w : Tables) (t : TableName) : Tables :=
  let c := w.corrected.set t.ix false
  match t with
  | .segment => { w with segment := { w.segment with defective := false }, corrected := c }
  | .slotmap => { w with slotmap := clearMarks w.slotmap, corrected := c }
  | .groupmap => { w with groupmap := sortGroupMap w.groupmap, corrected := c }
  | .door => { w with door := clearMarks w.door, corrected := c }
  | .profile => { w with profile := clearMarks w.profile, corrected := c }
  | .program => { w with program := clearMarks w.program, corrected := c }
  | .dayplan => { w with dayplan := clearMarks w.dayplan, corrected := c }

/-! ## What a change of tables does to doors (R33, R34, R38) -/

/-- The supervision counts of a door become 0 (R104). -/
def clearSupervision (d : DoorNo) (g : Segment) : Segment := g.putDoor d { g.door d with sup := ⟨0, 0⟩ }

/-- The drive request of a door in a state, under a lock kind it takes over there (R36, R111): OFF for MOTOR, R111's in SECURED and
RELEASED, as it stands elsewhere. -/
def Engine.driveUnder (k : LockKind) (x : Engine) : Bool :=
  match k, x.state with
  | .motor, _ => false
  | k, .secured => restingDrive k .secured
  | k, .released => restingDrive k .released
  | _, _ => x.drive

/-- The lock kind of a door's profile has changed under it, which only a RESTORE brings about (R178): its drive request becomes that
of its state under the new kind (R36, R111). A request that goes OFF is a drive-off of the lock it drove till then; one that goes
ON draws no run and asks for no grant (log 48). -/
def rekindDoor (old e : Env) (d : DoorNo) (g : Segment) : Segment :=
  let x := g.door d
  let on := x.eng.driveUnder (e.profile d).lockKind
  if (old.profile d).lockKind = (e.profile d).lockKind ∨ x.eng.drive = on then g
  else if on then updEng e d (fun x => { x with drive := true }) g
  else
    consider e (updEng e d (fun x => { x with drive := false })
      (setCharge d (x.afterDriveOff (old.profile d)) g))

/-- The door of a changed entry becomes fitted, ceases to be, or reads another profile, and is then held against its profile's
mark (R33, R34, R38). Another profile clears the supervision counts (R34) and may change the lock kind and the enable (R68).
`old` is what stood before. -/
def doorChanged (old e : Env) (d : DoorNo) (g : Segment) : Segment :=
  let g := syncFitted e (old.fitted d) d g
  reconcileProfile e d
    (if (old.doorEntry d).profile == (e.doorEntry d).profile then g
     else reenable e d (rekindDoor old e d (clearSupervision d g)))

/-- Every door of changed door entries (R178), in ascending number, an order of the model (log 62). -/
def doorsChanged (old e : Env) (g : Segment) : Segment := forDoors allDoors (doorChanged old e) g

/-- A profile whose functions or polarities differ (R178). -/
def ProfileEntry.remapped (p q : ProfileEntry) : Bool := p.functions != q.functions || p.inverted != q.inverted

/-- A door's reference becomes CLEAR (R46, R58). -/
def clearReference (e : Env) (d : DoorNo) (g : Segment) : Segment :=
  g.upd e d (fun x => { x with drop := { x.drop with reference := false } })

/-- A function or polarity of the door's profile has changed (R46, R68, R104): the reference is CLEAR, the supervision counts
are 0 where LOCK_DRIVE goes off by it, and the enable is evaluated. Whether LOCK_DRIVE goes off where a RESTORE takes its terminal away is
not said: the model has it so in HOLDING alone, by the held level; in every other state the level stays the drive request and the counts
stand (log 83). The monitor position stands, though the next reply may read another POSITION and raises no event: R67 does not name the
case, and it is the model's choice (log 77). -/
def remapDoor (old e : Env) (d : DoorNo) (g : Segment) : Segment :=
  let x := g.door d
  let off := x.lockLevel g.fire.latch (old.profile d) && !x.lockLevel g.fire.latch (e.profile d)
  let g := if off then clearSupervision d g else g
  reenable e d (clearReference e d g)

/-- The entry of the door's profile changes under it (R36, R38, R46, R178). -/
def profileChanged (old e : Env) (d : DoorNo) (g : Segment) : Segment :=
  let g := rekindDoor old e d g
  let g := if (old.profile d).remapped (e.profile d) then remapDoor old e d g else g
  reconcileProfile e d g

/-- Changed profile entries. R38, R176 and R178 order no doors: the model takes every door in ascending number, across the profiles whose
marks clear together (log 62). -/
def profilesChanged (old e : Env) (g : Segment) : Segment := forDoors allDoors (profileChanged old e) g

/-- The working tables of a state change; `f` gives their effect on the segment, from what stood before and what stands
now. -/
def changeTables (w : Tables) (f : Env → Env → Segment → Segment) (s : State) : State :=
  let old := s.env
  let s := { s with work := w }
  { s with seg := f old s.env s.seg }

/-- What the completion of a STORE gives a table's readers (R176, R177). -/
def storedEffect : TableName → Env → Env → Segment → Segment
  | .door => doorsChanged
  | .profile => profilesChanged
  | _ => fun _ _ g => g

/-- The write of one entry completes (R177); with the last one the store state is IDLE and the marks are clear. -/
def storeEntryDone (s : State) : State :=
  match s.store.writing with
  | none => s
  | some (t, i) =>
    let s := { s with stored := s.stored.writeEntry s.work t i }
    if i + 1 < t.count then { s with store := ⟨some (t, i + 1), 0⟩ }
    else settled (changeTables (s.work.clean t) (storedEffect t) { s with store := .idle })

/-! ## RESTORE (R178) -/

/-- The fired marks after a RESTORE of the day plan (R28): an entry whose content changes loses its mark. -/
def restoredFired (old new : Tables) (fired : Vector Bool 48) : Vector Bool 48 :=
  vgen 48 (fun i => fired[i] && old.dayplan[i].value == new.dayplan[i].value)

/-- The effect of a changed SEGMENT entry (R89, R164): the queue is considered where the capacity changes, and FIRE_IN is
judged by the polarity. -/
def segmentChanged (high : Bool) (old e : Env) (g : Segment) : Segment :=
  let g := if old.work.segment.value.capacity = e.work.segment.value.capacity then g else consider e g
  judgeFireIn (fireReading e high) g

/-- The effect of a restored table (R178). -/
def restoredEffect (high : Bool) : TableName → Env → Env → Segment → Segment
  | .segment => segmentChanged high
  | .door => doorsChanged
  | .profile => profilesChanged
  | _ => fun _ _ g => g

/-- Reload a table (R178): the marks set anew, a STORE_DEFECT for each defective entry, then the effects of the changed
entries. -/
def restoreTable (t : TableName) (s : State) : State :=
  let w := s.work.replace (loadTables s.stored) t
  let fired := if t = .dayplan then restoredFired s.work w s.clock.fired else s.clock.fired
  let s := { s with clock := { s.clock with fired := fired } }
  settled (changeTables w (fun old e g =>
    restoredEffect s.fireInHigh t old e (listMany e .storeDefect (w.defects t) g)) s)

end Sys2Proof.Machine
end

