-- ==== Sys2Proof/Machine/Branch.lean ====
section
/-! DEFINITION. The branch pollers (04_branch_polling_and_drop_modules.md): slots, commands, replies, presence, pulses and the
line monitor, with the drive supervisor (07_drive_supervision.md), which judges the current of each reply. -/

namespace Sys2Proof.Machine

def Segment.branch (g : Segment) (b : BranchNo) : Branch := g.branches[b]

def Segment.putBranch (g : Segment) (b : BranchNo) (x : Branch) : Segment := { g with branches := g.branches.set b x }

/-- Change a branch. -/
def updBranch (b : BranchNo) (f : Branch → Branch) (g : Segment) : Segment := g.putBranch b (f (g.branch b))

/-! ## The order of visits (R50, R51) -/

/-- The drop has a place in slot order: fitted, or ceased to be fitted with its last visit to come (R33, R51). -/
def polled (e : Env) (d : DoorNo) (g : Segment) : Bool := e.fitted d || (g.door d).drop.leaving != .no

/-- The lowest polled drop of the branch. -/
def lowestDrop (e : Env) (b : BranchNo) (g : Segment) : Option DropNo :=
  allDrops.find? (fun k => polled e (doorAt b k) g)

/-- The drop after drop k: the lowest polled one above it, or the lowest of the branch (R50). -/
def dropAfter (e : Env) (b : BranchNo) (k : DropNo) (g : Segment) : Option DropNo :=
  match allDrops.find? (fun j => k.val < j.val && polled e (doorAt b j) g) with
  | some j => some j
  | none => lowestDrop e b g

/-! ## The command (R42 to R45, R52, R63) -/

/-- The pulse kind and sequence sent (R63). -/
def Drop.pulseFields (x : Drop) : BitVec 2 × BitVec 2 :=
  match x.pulse with
  | .none => (0, x.pulseSeq)
  | .outstanding k => (BitVec.ofNat 2 k.code, x.pulseSeq)
  | .held _ => (0, x.pulseSeq - 1)
  | .cancelled _ => (0, x.pulseSeq)

/-- Apply (R52): SET with held levels, the fire latch set, OUT_OF_SERVICE, or a last visit. -/
def applySet (latch : Bool) (x : Door) : Bool :=
  x.drop.held.isSome || latch || x.eng.state == .outOfService || x.drop.leaving != .no

/-- The LOCK_DRIVE level of a HOLDING door without held levels is not given: a free value where Apply is CLEAR (log 16), off
where Apply is SET (R52). -/
def openLevel (latch : Bool) (x : Door) : Bool :=
  x.eng.state == .holding && x.drop.held.isNone && !applySet latch x

/-- The active state of each output terminal as the command sends it, T1 at bit 0; `lock` is the LOCK_DRIVE level. -/
def sentStates (latch flash lock : Bool) (p : ProfileEntry) (x : Door) : BitVec 6 :=
  bits6 (fun k =>
    let f := p.functions[k]
    f.isOutput && (if f = .lockDrive then lock else x.outputOn latch flash p f))

/-- The electrical levels of the output terminals; input terminals are sent low (R52). -/
def levelsOf (p : ProfileEntry) (states : BitVec 6) : BitVec 6 :=
  bits6 (fun k => p.functions[k].isOutput && p.polar k (states.getLsbD k.val))

/-- The directions of the terminals (R39). -/
def directions (p : ProfileEntry) : BitVec 6 := bits6 (fun k => p.functions[k].isOutput)

/-- What a slot's command sends to a door (R52). -/
structure SlotCommand where
  record : BranchRecord
  apply : Bool
  lock : Bool
  states : BitVec 6
  deriving DecidableEq, Repr

/-- Compose the command record of a visit (R52, R63); `free` is the level to take where none is given. -/
def composeCommand (e : Env) (d : DoorNo) (free : Bool) (g : Segment) : SlotCommand :=
  let p := e.profile d
  let x := g.door d
  let apply := applySet g.fire.latch x
  let lock := p.assigns .lockDrive && (if openLevel g.fire.latch x then free else x.lockLevel g.fire.latch p)
  let states := sentStates g.fire.latch g.flash.on lock p x
  let pf := x.drop.pulseFields
  let run := if pf.1 = 0 then p.runTime else x.eng.pulseRunTime
  { record := branchCommand (dropOf d) pf.2 pf.1 apply (directions p) (levelsOf p states) run
    apply := apply, lock := lock, states := states }

/-- A visit begins (R42, R51, R52): the command goes out; with Apply SET the held levels are the levels sent; a drop that awaits
its last visit is in it. -/
def beginVisit (e : Env) (b : BranchNo) (k : DropNo) (g : Segment) : Segment :=
  let d := doorAt b k
  let free := Config.unheldDrive g.free
  let c := composeCommand e d free g
  let g := if openLevel g.fire.latch (g.door d) then { g with free := g.free + 1 } else g
  let g := g.upd e d (fun x =>
    { x with drop := { x.drop with
        held := if c.apply then some c.states else x.drop.held
        leaving := if x.drop.leaving = .awaiting then .lastVisit else x.drop.leaving } })
  updBranch b (fun y =>
    { y with visiting := some k, next := none, spoiled := y.lineFault, sent := some c.record, sentApply := c.apply
             sentLock := c.lock }) g

/-- A branch slot opens (R50, R52): the drop chosen, or the lowest one where the branch had none. No effect within a slot or on
a branch with no drop to poll. -/
def slotStart (e : Env) (b : BranchNo) (g : Segment) : Segment :=
  let y := g.branch b
  if y.visiting.isSome then g
  else
    match (match y.next with
      | some k => some k
      | none => lowestDrop e b g) with
    | some k => beginVisit e b k g
    | none => g

/-! ## Drive supervision (R100 to R103, R108) -/

/-- The reply is compared (R100). -/
def compared (e : Env) (d : DoorNo) (apply lock : Bool) (g : Segment) : Bool :=
  let p := e.profile d
  p.lockKind != .motor && p.assigns .lockDrive && apply && lock && (g.door d).lockLevel g.fire.latch p

/-- The over-limit count after a reading (R101). -/
def overCount (p : ProfileEntry) (current count : Nat) : Nat :=
  if p.overLimit < current then count + 1 else if current ≤ p.overLimit - p.hysteresis then 0 else count

/-- The under-limit count after a reading (R102). -/
def underCount (p : ProfileEntry) (current count : Nat) : Nat :=
  if current < p.underLimit then count + 1 else if p.underLimit + p.hysteresis ≤ current then 0 else count

def setSupervision (d : DoorNo) (c : Supervision) (g : Segment) : Segment :=
  g.putDoor d { g.door d with sup := c }

/-- A fault arises only at a reading that increases the count to the persistence or above (R103). -/
def faultArises (p : ProfileEntry) (before after : Nat) : Bool := before < after && p.persistence ≤ after

/-- One compared reply (R103, R108). A reading that raises OVERCURRENT leaves the under-limit side as it stands, the OPEN_CIRCUIT live
flag included, though R108's first sentence would clear that flag at or above the under-limit plus hysteresis (log 60). -/
def superviseCompared (e : Env) (d : DoorNo) (current : Nat) (g : Segment) : Segment :=
  let p := e.profile d
  let c := (g.door d).sup
  let overNow := overCount p current c.overCount
  let g := if current ≤ p.overLimit - p.hysteresis then clearLive e d [.overcurrent] g else g
  if faultArises p c.overCount overNow then supervisionFault e d .overcurrent (setSupervision d ⟨0, 0⟩ g)
  else if (g.door d).eng.state = .driving then setSupervision d ⟨overNow, c.underCount⟩ g
  else
    let underNow := underCount p current c.underCount
    let g := if p.underLimit + p.hysteresis ≤ current then clearLive e d [.openCircuit] g else g
    if faultArises p c.underCount underNow then supervisionFault e d .openCircuit (setSupervision d ⟨0, 0⟩ g)
    else setSupervision d ⟨overNow, underNow⟩ g

/-- The drive current of a taken reply at the drive supervisor (R100). -/
def supervise (e : Env) (d : DoorNo) (apply lock : Bool) (current : Nat) (g : Segment) : Segment :=
  if compared e d apply lock g then superviseCompared e d current g else g

/-! ## Taking a good reply (R46, R58, R59, R64) -/

/-- The active state of a function's terminal in six reported levels; none where it is not assigned. -/
def ProfileEntry.readAs (p : ProfileEntry) (f : TermFn) (levels : BitVec 6) : Option Bool :=
  (p.terminalOf f).map (fun k => p.polar k (levels.getLsbD k.val))

/-- The named inputs of a reply (R46); the reported drive is OFF where LOCK_DRIVE is not assigned. -/
def namedInputs (p : ProfileEntry) (r : Reply) : Inputs :=
  { position := p.readAs .position r.inputs
    bolt := p.readAs .bolt r.inputs
    exitRequest := p.readAs .exitRequest r.inputs
    tamper := p.readAs .tamper r.inputs
    reportedDrive := some ((p.readAs .lockDrive r.outputs).getD false)
    current := some r.current
    inputLevels := some r.inputs
    outputLevels := some r.outputs }

/-- The held levels a first reply teaches: the applied output levels read through polarity (R42). -/
def learnedLevels (p : ProfileEntry) (r : Reply) : BitVec 6 :=
  bits6 (fun k => p.functions[k].isOutput && p.polar k (r.outputs.getLsbD k.val))

/-- Step 2 of R58: the first reply seen; a door that no visit has commanded takes its held levels from it (R42, R52, log 39), and
a fitted door's charge is learned. In the last visit of a door no longer fitted none is, a case R33 and R97 leave open (log 86). -/
def takeFirstReply (e : Env) (d : DoorNo) (r : Reply) (g : Segment) : Segment :=
  if (g.door d).drop.firstReply then g
  else
    let g := g.upd e d (fun x =>
      { x with drop := { x.drop with
          firstReply := true
          held := match x.drop.held with
            | some h => some h
            | none => some (learnedLevels (e.profile d) r) } })
    if e.fitted d then learn e d g else g

/-- Step 3 of R58: the module condition (R59). LOCAL_FAULT begins raises TAMPER; at LOCAL_FAULT ends the TAMPER flag clears where the
input, as step 1 has read it, is not ACTIVE (R112). -/
def takeCondition (e : Env) (d : DoorNo) (r : Reply) (g : Segment) : Segment :=
  let was := (g.door d).drop.lastLocalFault
  let g := g.upd e d (fun x => { x with drop := { x.drop with lastLocalFault := r.localFault } })
  if r.localFault == was then g
  else if r.localFault then tamperBegins e d .localFault g
  else tamperCheck e d g

/-- A POSITION terminal event: the monitor, its watch, then the door engine (R59, R82). -/
def positionEvent (e : Env) (d : DoorNo) (isOpen : Bool) (g : Segment) : Segment :=
  if isOpen then positionOpen e d (evaluateWatch e d (monitorOpen e d g))
  else positionClosed e d (evaluateWatch e d (monitorClose e d g))

/-- A named input that is known both before and now, and has changed, gives its new value (R59). One that was not assigned at the
previous good reply has no value there to compare with and gives no event, the reference being SET or CLEAR (log 54). -/
def changedInput (was now : Option Bool) : Option Bool :=
  match was, now with
  | some a, some b => if a == b then none else some b
  | _, _ => none

/-- Step 4 of R58: terminal events in the order POSITION, BOLT, EXIT_REQUEST, TAMPER (R59). BOLT events and EXIT_REQUEST
INACTIVE change nothing (R126); TAMPER INACTIVE is answered by `takeEvents`. -/
def terminalEvents (e : Env) (d : DoorNo) (was now : Inputs) (g : Segment) : Segment :=
  let g := match changedInput was.position now.position with
    | some b => positionEvent e d b g
    | none => g
  let g := if changedInput was.exitRequest now.exitRequest = some true then exitRequested e d g else g
  if changedInput was.tamper now.tamper = some true then tamperBegins e d .terminal g else g

/-- Step 4 of R58 with the reference: terminal events where it is SET, else it becomes SET. Last of them comes TAMPER INACTIVE, where
the flag clears (R112); a reply that raises no events has the flag judged at the same place (log 26). -/
def takeEvents (e : Env) (d : DoorNo) (was now : Inputs) (g : Segment) : Segment :=
  tamperCheck e d
    (if (g.door d).drop.reference then terminalEvents e d was now g
     else g.upd e d (fun x => { x with drop := { x.drop with reference := true } }))

/-- The pulse state after a reply that reports a sequence, and whether it is an acknowledgment (R64). -/
def PulseState.settleAgainst (same : Bool) : PulseState → PulseState × Bool
  | .none => (.none, false)
  | .outstanding k => if same then (.none, true) else (.outstanding k, false)
  | .cancelled k => if same then (.none, false) else (.cancelled k, false)
  | .held k => if same then (.held k, false) else (.outstanding k, false)

/-- Step 6 of R58: the last reported sequence, and the pulse settled against it (R64). -/
def takePulse (e : Env) (d : DoorNo) (r : Reply) (g : Segment) : Segment :=
  let x := (g.door d).drop
  let y := x.pulse.settleAgainst (r.seq == x.pulseSeq)
  let g := g.upd e d (fun x => { x with drop := { x.drop with lastSeq := r.seq, pulse := y.1 } })
  if y.2 then pulseAcknowledged e d g else g

/-- A door granted before its drop's first good reply, in DRIVING or lost from it and not abandoned, waits for its pulse
(R66, log 49). -/
def Door.awaitsPulse (p : ProfileEntry) (x : Door) : Bool :=
  !x.drop.firstReply && p.lockKind == .motor
    && (x.eng.state == .driving || (x.eng.state == .lost && x.eng.lostFrom == .driving && !x.eng.abandoned))

/-- Post the pulse that a door has waited with till its drop's first good reply (R66, log 49). -/
def postWithheld (e : Env) (d : DoorNo) (waited : Bool) (g : Segment) : Segment :=
  if waited then postPulse e d (pulseFor (g.door d).eng.target) g else g

/-- A good reply is taken (R58): its six steps, the pulse that waited for a first reply (R66), then the enable and, for a FOUND reply, the
FOUND notice; the reading of a VERIFYING door comes last (log 26). A door whose grant the reply itself brings about, at the end of
learning, has posted its pulse with that grant (R62), and waits for none. -/
def takeReply (e : Env) (d : DoorNo) (apply lock found : Bool) (r : Reply) (g : Segment) : Segment :=
  let was := (g.door d).inputs
  let waited := (g.door d).awaitsPulse (e.profile d)
  let now := namedInputs (e.profile d) r
  let g := g.upd e d (fun x => { x with inputs := now })
  let g := takeEvents e d was now (takeCondition e d r (takeFirstReply e d r g))
  let g := takePulse e d r (supervise e d apply lock r.current g)
  let g := reenable e d (postWithheld e d waited g)
  let g := if found then foundNotice e d g else g
  readVerifying e d g

/-! ## Counts and presence (R56, R57) -/

/-- The drop becomes LOST (R56): its reference is CLEAR, the LOST notice is handed on, and the enable is evaluated, so that LOST goes
before the PROPPED ends of R70, an order the spec leaves open (log 57). `first` says whether its first reply had been seen. -/
def becomeLost (e : Env) (d : DoorNo) (g : Segment) : Segment :=
  let first := (g.door d).drop.firstReply
  let g := g.upd e d (fun x => { x with drop := { x.drop with lost := true, reference := false } })
  let g := reenable e d (lostNotice e d g)
  if first then g else testLearning e g

/-- A miss (R56). -/
def missReply (e : Env) (d : DoorNo) (g : Segment) : Segment :=
  let g := g.upd e d (fun x =>
    { x with drop := { x.drop with missCount := min 4 (x.drop.missCount + 1), goodCount := 0 } })
  let x := (g.door d).drop
  if !x.lost && x.missCount == 4 then becomeLost e d g else g

/-- A good reply (R56, R57). -/
def goodReply (e : Env) (d : DoorNo) (apply lock : Bool) (r : Reply) (g : Segment) : Segment :=
  let was := (g.door d).drop.lost
  let g := g.upd e d (fun x =>
    { x with drop := { x.drop with missCount := 0, goodCount := min 8 (x.drop.goodCount + 1) } })
  if !was then takeReply e d apply lock false r g
  else if (g.door d).drop.goodCount = 8 then
    takeReply e d apply lock true r
      (g.upd e d (fun x => { x with drop := { x.drop with lost := false, reference := false } }))
  else g

/-- The good reply of a slot, where there is one (R54): the first thing received decides. R54 says so of two records, and lists a code
violation as a miss without saying what it is beside a record that passes its check: that it decides like a record where it comes first,
and is disregarded where it comes second, is the model's choice (log 91). -/
def classifySlot (spoiled : Bool) (k : DropNo) (received : List Reception) : Option Reply :=
  match received with
  | .record r :: _ =>
    let x := replyOf r
    if !spoiled && branchPasses r && x.echo == BitVec.ofNat 4 k.val then some x else none
  | _ => none

/-- The last visit ends (R33, R51). -/
def endVisit (e : Env) (b : BranchNo) (k : DropNo) (g : Segment) : Segment :=
  let d := doorAt b k
  let g := if (g.door d).drop.leaving = .lastVisit then endLastVisit e d g else g
  let next := dropAfter e b k g
  updBranch b (fun y => { y with visiting := none, next := next }) g

/-- The reply window of a slot ends (R54): the slot is classified, the drop record updated, the next drop chosen. No effect
outside a slot. -/
def replyEnd (e : Env) (b : BranchNo) (received : List Reception) (g : Segment) : Segment :=
  let y := g.branch b
  match y.visiting with
  | none => g
  | some k =>
    let d := doorAt b k
    let g := match classifySlot (y.spoiled || y.lineFault) k received with
      | some r => goodReply e d y.sentApply y.sentLock r g
      | none => missReply e d g
    endVisit e b k g

/-! ## The line monitor (R60, R61) -/

/-- What LINE_FAULT does to one polled drop (R60). A PRESENT drop becomes LOST just before its own notice, when the drops above it
still stand as they were (log 53). -/
def faultDrop (e : Env) (d : DoorNo) (g : Segment) : Segment :=
  if polled e d g then
    let g := g.upd e d (fun x => { x with drop := { x.drop with goodCount := 0, reference := false } })
    if (g.door d).drop.lost then g else becomeLost e d g
  else g

/-- The line condition becomes LINE_FAULT (R60); a slot in progress is a miss (R61). No effect while it stands. R60 orders neither the
losses against the notices nor what a notice leads to (the end of learning with the initial application, R31; the falling test of
R90) against the notices that follow: the model takes each drop to its end, in ascending number (log 53). -/
def lineFaults (e : Env) (b : BranchNo) (g : Segment) : Segment :=
  if (g.branch b).lineFault then g
  else
    forDoors (allDrops.map (doorAt b)) (faultDrop e)
      (updBranch b (fun y => { y with lineFault := true, spoiled := true }) g)

/-- The line condition returns to NORMAL (R61); a slot in progress stays a miss. -/
def lineReturns (b : BranchNo) (g : Segment) : Segment := updBranch b (fun y => { y with lineFault := false }) g

end Sys2Proof.Machine
end

