-- ==== Sys2Proof/Machine/DropModule.lean ====
section
/-! DEFINITION. The duties of a drop module toward the controller (R53, R66). A module is outside the controller: it is no part of
`State`, and what it answers reaches the controller as the operand of REPLY_WINDOW_END (log 35). -/

namespace Sys2Proof.Machine

/-- What a module keeps: its drop number, the directions and output levels it applies, its last executed sequence (none at its own
power-up) and the pulse it carries out. -/
structure DropModule where
  drop : BitVec 4
  dirs : BitVec 6
  outputs : BitVec 6
  lastSeq : Option (BitVec 2)
  /-- The pulse running, with the ticks of 100 ms left of its run time. -/
  running : Option (PulseKind × BitVec 6)
  deriving DecidableEq, Repr

/-- What the module finds at its terminals when it answers. -/
structure ModuleSense where
  inputs : BitVec 6
  current : Nat
  localFault : Bool
  deriving DecidableEq, Repr

/-- The pulse of a commanded kind; code 3 is carried out as NONE (12.3). -/
def pulseOfCode (k : BitVec 2) : Option PulseKind :=
  if k = 1#2 then some .throw else if k = 2#2 then some .withdraw else none

/-- The pulse fields of a command (R66). -/
def DropModule.pulse (m : DropModule) (c : BranchCommand) : DropModule :=
  match m.lastSeq with
  | none => { m with lastSeq := some c.seq }
  | some n =>
    if c.seq = n then m
    else
      { m with
        lastSeq := some c.seq
        running := match pulseOfCode c.kind with
          | some k => some (k, c.runTime)
          | none => m.running }

/-- Whether the module carries out a pulse at a command (R66). -/
def DropModule.carriesOut (m : DropModule) (c : BranchCommand) : Bool :=
  m.lastSeq.isSome && m.lastSeq != some c.seq && (pulseOfCode c.kind).isSome

/-- Directions and levels of a command with Apply SET (R53). -/
def DropModule.apply (m : DropModule) (c : BranchCommand) : DropModule :=
  if c.apply then { m with dirs := c.dirs, outputs := c.levels &&& c.dirs } else m

/-- A tick of 100 ms of a running pulse: at the end of its run time it has run (R66). -/
def DropModule.tick (m : DropModule) : DropModule :=
  { m with running := match m.running with
      | some (k, n) => if n.toNat ≤ 1 then none else some (k, n - 1)
      | none => none }

/-- The reply of the module as it stands (R53). -/
def DropModule.reply (m : DropModule) (x : ModuleSense) : Reply :=
  { echo := m.drop, seq := m.lastSeq.getD 0, localFault := x.localFault, inputs := x.inputs, outputs := m.outputs
    current := min 255 x.current }

/-- A command record at the module: acted on and answered where it passes its check and carries the module's address (R53). -/
def DropModule.receive (m : DropModule) (x : ModuleSense) (r : BranchRecord) : DropModule × List Reception :=
  let c := branchCommandOf r
  if branchPasses r && c.drop == m.drop then
    let m := (m.apply c).pulse c
    (m, [.record (replyRecord (m.reply x))])
  else (m, [])

end Sys2Proof.Machine
end

