-- ==== Sys2Proof/Machine/Read.lean ====
section
/-! DEFINITION. READ (R169): the fields of every table in the order of their numbers (R182, log 27, log 28). A field that does not
exist at an index has no place or reads as no field. -/

namespace Sys2Proof.Machine

/-! ## Stored tables -/

def paramFields (p : Params) : List Nat := [p.threshold, p.deferralLimit, p.policy.code, p.warning]

def segmentFields (x : SegmentEntry) : List Nat :=
  [x.capacity, x.windowLength, if x.fireActiveHigh then 0 else 1] ++ paramFields x.params

def slotmapFields : Option SlotMapEntry → List Nat
  | none => [Config.noneCode, Config.noneCode]
  | some x => [x.slot, x.role.code]

def groupmapFields : Option GroupMapEntry → List Nat
  | none => [Config.noneCode, Config.noneCode]
  | some x => [x.site, x.localGroup.val]

def doorFields (x : DoorEntry) : List Nat :=
  [flagCode x.fitted, x.profile.val, x.groups.toNat, x.rank, x.defaultPosture.code]

def profileFields (x : ProfileEntry) : List Nat :=
  [x.lockKind.code] ++ x.functions.toList.map TermFn.code ++ x.inverted.toList.map flagCode
    ++ [x.runUnits, x.holdUnits, x.runTime, x.verifyTime, x.retryLimit, x.settleTime, x.bounceLimit, x.proppedLimit,
        x.overLimit, x.underLimit, x.persistence, x.hysteresis, flagCode x.faultLatch, x.exitShuntTime]

def programFields (x : ProgramEntry) : List Nat :=
  [x.kind.code, x.stepCount, x.localGroup.val, x.startMode.code, x.offset] ++ paramFields x.params

def dayplanFields : Option DayPlanEntry → List Nat
  | none => [Config.noneCode, Config.noneCode]
  | some x => [x.minute, x.program.val]

/-! ## DOORSTATE -/

/-- A timer reads its remaining units while it counts, else none (log 27). -/
def Timer.reading (t : Timer) : Nat := if t.running then t.remaining else Config.noneCode

/-- The deferral of R110 in two fields: its state in the order listed there, and the remaining seconds while COUNTING (log 28). A
waived one is EXPIRED (R121). -/
def Deferral.fields : Deferral → List Nat
  | .none => [Config.noneCode, Config.noneCode]
  | .counting n => [1, n]
  | .expired | .waived => [2, Config.noneCode]

def pendingFields : Option PendingTarget → List Nat
  | none => List.replicate 6 Config.noneCode
  | some p => [p.posture.code] ++ paramFields p.params ++ [optCode p.owed]

def liveFields (l : Live) : List Nat :=
  [l.notSecured, l.notReleased, l.propped, l.overcurrent, l.openCircuit, l.lost, l.tamper].map flagCode

def stickyFields (x : Sticky) : List Nat :=
  [x.notSecured, x.notReleased, x.propped, x.overcurrent, x.openCircuit, x.lost, x.tamper, x.forcedOpen,
    x.leftReleased, x.budget].map flagCode

/-- The door record (R110). -/
def engineFields (x : Engine) : List Nat :=
  [x.state.code, flagCode (!x.inService), optPosture x.target] ++ paramFields x.params
    ++ [x.fallback.code, optCode x.owed] ++ pendingFields x.pendingTarget
    ++ [flagCode x.drive, x.retry, flagCode x.force] ++ x.deferral.fields
    ++ [flagCode x.pulseInAttempt, x.lastSettled.code, x.timer.reading, flagCode x.exitWindow, x.openingMark.code]
    ++ liveFields x.live ++ stickyFields x.sticky

/-- The level of terminal k (R46): the level read of an input, the level applied of an output. A reply carries both levels for every
terminal (R53), and R46 has "the level of every terminal" readable without saying which of the two an output's is: that it is the level
applied, and that the profile as it stands at the READ says which terminal is an output, is the model's choice (log 90). -/
def terminalLevel (p : ProfileEntry) (x : Inputs) (k : Fin 6) : Nat :=
  let v := if p.functions[k].isOutput then x.outputLevels else x.inputLevels
  optFlag (v.map (fun b => b.getLsbD k.val))

/-- The named inputs and the terminal levels (R46). An input that is not assigned reads 65,535 like an unknown one: R182 names only none,
unused and unknown (log 69). -/
def inputFields (p : ProfileEntry) (x : Door) : List Nat :=
  [optFlag x.inputs.position, optFlag x.inputs.bolt, optFlag x.inputs.exitRequest, optFlag x.inputs.tamper,
    if x.inputs.current.isNone then Config.noneCode else optFlag (x.reported p), optCode x.inputs.current]
    ++ allTerms.map (terminalLevel p x.inputs)

/-- The pulse state, and its kind (R55). -/
def PulseState.fields : PulseState → List Nat
  | .none => [Config.noneCode, Config.noneCode]
  | .outstanding k => [1, k.code]
  | .held k => [2, k.code]
  | .cancelled k => [3, k.code]

/-- The readable items of the drop record (R55). -/
def dropFields (x : Drop) : List Nat :=
  [x.missCount, x.goodCount, flagCode x.lost, x.pulseSeq.toNat] ++ x.pulse.fields
    ++ [x.lastSeq.toNat, flagCode x.lastLocalFault]

/-- The halves of the passage counter (R74, R182). -/
def passageLow (c : BitVec 24) : Nat := c.toNat % 65536
def passageHigh (c : BitVec 24) : Nat := c.toNat / 65536

/-- The monitor items (R67). The quiet watch is read as two fields, its threshold and its force flag, both none without a watch; the
window clock, which R67 has readable here and R182 does not list for DOORSTATE, is one field after it, its elapsed whole seconds
(log 72). -/
def monitorFields (w : WindowClock) (m : Monitor) : List Nat :=
  [flagCode m.enable, flagCode m.isOpen, m.dwell, m.latchedBounce, m.latchedPropped, m.lastOpen,
    passageLow m.passages, passageHigh m.passages, m.windowCount, m.activity, optCode m.sinceClose, flagCode m.propped,
    optCode (m.watch.map (fun x => x.threshold)), optFlag (m.watch.map (fun x => x.force)), w.elapsedMs / 1000]

/-- The place of a door in the actuation queue, 0 for the head (R84). -/
def queuePlace (g : Segment) (d : DoorNo) : Option Nat := g.queue.findIdx? (fun q => q.door == d)

/-- The charge items (R84). -/
def chargeFields (g : Segment) (d : DoorNo) : List Nat :=
  let c := (g.door d).charge
  [c.units, c.basis.code, c.tail, optCode (queuePlace g d)]

/-- Every field of DOORSTATE (R182). -/
def doorstateFields (e : Env) (g : Segment) (d : DoorNo) : List Nat :=
  let x := g.door d
  let p := e.profile d
  engineFields x.eng ++ inputFields p x ++ [optPosture (x.sensed p)] ++ dropFields x.drop
    ++ monitorFields g.window x.mon ++ chargeFields g d ++ [x.sup.overCount, x.sup.underCount]
    ++ [optPosture (expectedPosture e g.exemptions d)]

/-- The fields of the two halves of the passage counter (R74). -/
def passageLowField : Nat := 69
def passageHighField : Nat := 70

/-! ## EXEMPTION and EXCEPTION -/

/-- KEEP_RELEASED is listed before KEEP_SECURED (R159). -/
def keepCode : Posture → Nat
  | .released => 0 | .secured => 1

def exemptionFields (g : Segment) (i : Nat) : List Nat :=
  match g.exemptions.find? (fun x => x.group.val == i) with
  | none => List.replicate 4 Config.noneCode
  | some x => [x.group.val, keepCode x.keep, x.expiry, x.dayCount]

def exceptionFields (g : Segment) (i : Nat) : List Nat :=
  match g.exceptions[i]? with
  | none => List.replicate 7 Config.noneCode
  | some x =>
    [optCode (x.door.map (fun d => d.val)), x.kind.code, optCode (x.subReason.map SubReason.code), x.firstMinute, x.lastMinute,
      x.occurrences, flagCode (x.active g)]

/-! ## STATUS -/

/-- The second of day as two numbers; 86,400 while the clock is unknown (R16, R182). -/
def secondFields (c : Clock) : List Nat :=
  let t := c.second.getD Config.daySeconds
  [t % 65536, t / 65536]

/-- The clock items of STATUS (R16). -/
def clockFields (c : Clock) : List Nat := secondFields c ++ [c.today, c.tomorrow, c.yesterday, c.lastSite.code]

/-- The fire items (R163). -/
def fireFields (x : Fire) : List Nat :=
  [flagCode x.latch, optCode (x.cause.map LatchCause.code), flagCode x.reading, x.persistence, flagCode x.lastEmergency]

/-- The defective mark of each entry of a table, in index order. -/
def Tables.marks (w : Tables) : TableName → List Bool
  | .segment => [w.segment.defective]
  | .slotmap => w.slotmap.toList.map Working.defective
  | .groupmap => w.groupmap.toList.map Working.defective
  | .door => w.door.toList.map Working.defective
  | .profile => w.profile.toList.map Working.defective
  | .program => w.program.toList.map Working.defective
  | .dayplan => w.dayplan.toList.map Working.defective

/-- Marks as one number, the first at bit 0. -/
def markWord (ms : List Bool) : Nat := ms.foldr (fun b n => flagCode b + 2 * n) 0

/-- The fields that hold the marks of a table's entries: the mark of entry 16 w + b stands at bit b of its field w (log 61). -/
def Tables.markFields (w : Tables) (t : TableName) : List Nat :=
  (List.range ((t.count + 15) / 16)).map (fun i => markWord (((w.marks t).drop (16 * i)).take 16))

/-- The store state and the marks (R175, logs 27, 61): IDLE or WRITING, its table and next index; the corrected mark of each table; the
defective mark of each entry of each table. -/
def storeFields (s : State) : List Nat :=
  let w := s.store.writing
  [flagCode w.isSome, optCode (w.map (fun x => x.1.ix.val)), optCode (w.map (fun x => x.2))]
    ++ s.work.corrected.toList.map flagCode ++ TableName.all.flatMap s.work.markFields

/-- The step and the door of a selector (R182). -/
def selectedStep (v : Value) : Nat := (v.extractLsb' 8 8).toNat
def selectedDoor (v : Value) : Nat := (v.extractLsb' 0 8).toNat

/-- The record of the selected step of the active run, if there is one. -/
def chosenStep (g : Segment) (v : Value) : Option StepRecord :=
  match g.seqr.run with
  | none => none
  | some r => if selectedStep v = 0 then none else r.step (selectedStep v)

/-- How many members are marked as following (R155). -/
def StepRecord.following (s : StepRecord) : Nat :=
  (s.members.filter (fun m => match m.mark with
    | .following _ => true
    | _ => false)).length

/-- The items kept per step (R155). They disregard the door of the selector (log 70). -/
def stepFields : Option StepRecord → List Nat
  | none => List.replicate 17 Config.noneCode
  | some s =>
    [s.state.code, flagCode s.baseReached, s.remaining, optCode s.startMinute, optCode s.doneMinute, s.members.length]
      ++ DoorOutcome.all.map s.countOf ++ [s.following]

/-- The mark of a member. -/
def Mark.outcomeCode : Mark → Nat
  | .outcome o => o.code
  | _ => Config.noneCode

def Mark.followingCode : Mark → Nat
  | .following k => k
  | _ => Config.noneCode

/-- The items kept per step and door (R155): whether the door is a member, its outcome, the step it follows. "Its outcome or following
mark" is read as two fields beside the membership, of which one at most is not none (log 67). A door 0..63 that is no member of the step,
in another step or in none, reads membership 0 (log 70). -/
def memberFields (s : Option StepRecord) (door : Nat) : List Nat :=
  match s with
  | none => List.replicate 3 Config.noneCode
  | some s =>
    if door < 64 then
      match s.members.find? (fun m => m.door.val == door) with
      | some m => [1, m.mark.outcomeCode, m.mark.followingCode]
      | none => [0, Config.noneCode, Config.noneCode]
    else List.replicate 3 Config.noneCode

/-- The last-run summary (R154). -/
def summaryFields : Option Summary → List Nat
  | none => List.replicate 15 Config.noneCode
  | some x => [x.program.val, x.ending.code, x.startMinute, x.endMinute, x.stepsStarted] ++ x.counts

/-- The last dropped request (R138). -/
def droppedFields : Option DroppedRequest → List Nat
  | none => List.replicate 3 Config.noneCode
  | some x => [x.program.val, x.reason.code, x.minute]

/-- The sequencer items (R155). -/
def sequencerFields (g : Segment) (v : Value) : List Nat :=
  let q := g.seqr
  [optCode (q.run.map (fun r => r.program.val)), optCode (q.run.map (fun r => r.startMinute))]
    ++ stepFields (chosenStep g v) ++ memberFields (chosenStep g v) (selectedDoor v)
    ++ (List.range Config.maxRunQueue).map (fun i => optCode ((q.queue[i]?).map (fun p => p.val)))
    ++ summaryFields q.summary ++ droppedFields q.dropped

/-- The segment condition of the state (R14). -/
def State.condition (s : State) : Condition :=
  segmentCondition s.seg.fire.latch s.trunk.address s.work s.trunk.state

/-- Every field of STATUS (R182). -/
def statusFields (s : State) (v : Value) : List Nat :=
  [s.trunk.state.code, s.trunk.count, s.trunk.sinceHeader, s.condition.code]
    ++ s.seg.branches.toList.map (fun b => flagCode b.lineFault) ++ clockFields s.clock
    ++ [s.work.segment.value.capacity, s.seg.load, flagCode s.seg.learning, s.seg.window.elapsedMs / 1000]
    ++ fireFields s.seg.fire ++ storeFields s ++ sequencerFields s.seg v

/-! ## READ -/

/-- The fields of an entry; none where the table has no such index. `table` is a table code (R181). -/
def entryFields (s : State) (table index : Nat) (v : Value) : Option (List Nat) :=
  match table with
  | 0 => if index = 0 then some (segmentFields s.work.segment.value) else none
  | 1 => (s.work.slotmap[index]?).map (fun w => slotmapFields w.value)
  | 2 => (s.work.groupmap[index]?).map (fun w => groupmapFields w.value)
  | 3 => (s.work.door[index]?).map (fun w => doorFields w.value)
  | 4 => (s.work.profile[index]?).map (fun w => profileFields w.value)
  | 5 => (s.work.program[index]?).map (fun w => programFields w.value)
  | 6 => (s.work.dayplan[index]?).map (fun w => dayplanFields w.value)
  | 7 => if h : index < 64 then some (doorstateFields s.env s.seg ⟨index, h⟩) else none
  | 8 => if index < 16 then some (exemptionFields s.seg index) else none
  | 9 => if index < 32 then some (exceptionFields s.seg index) else none
  | 10 => if index = 0 then some (statusFields s v) else none
  | _ => none

/-- The program fields of R136: kind and step count exist at a step 1 entry only. -/
def fieldAbsent (table index field : Nat) : Bool := table == 5 && index % 10 != 0 && field < 2

/-- A field, or the result of the first test it fails (R169, and the first three lines of R170). -/
def lookupField (s : State) (table index field : Nat) (v : Value) : Except Result Nat :=
  if 10 < table then .error .badTable
  else
    match entryFields s table index v with
    | none => .error .badIndex
    | some fs =>
      match fs[field]? with
      | none => .error .badField
      | some x => if fieldAbsent table index field then .error .badField else .ok x

end Sys2Proof.Machine
end

