-- ==== Sys2Proof/Machine/Management.lean ====
section
/-! DEFINITION. The management responder (11.1 to 11.3, 11.5): writes table by table, door service requests, CLEAR_EXCEPTION, STORE,
RESTORE and RESTART. Each request gives a result, a response value and the state after it. -/

namespace Sys2Proof.Machine

/-- What the responder gives (R168). -/
structure Served where
  result : Result
  value : Value
  state : State

/-- A request that is not carried out: no state changes, value 0 (R168). -/
def refuseWith (res : Result) (s : State) : Served := ⟨res, 0, s⟩

def answerDone (v : Nat) (s : State) : Served := ⟨.done, toValue v, s⟩

/-- DONE where no rule gives the response value: a free value (log 40). -/
def answerOpen (s : State) : Served :=
  ⟨.done, Config.openResponse s.seg.free, { s with seg := { s.seg with free := s.seg.free + 1 } }⟩

/-! ## Numeric fields (R170) -/

/-- The value stored, and whether it was clamped to lo..hi. -/
structure Clamped where
  value : Nat
  result : Result
  deriving DecidableEq, Repr

/-- The nearest limit of a range (R170). -/
def clamp (lo hi v : Nat) : Clamped :=
  if v < lo then ⟨lo, .clamped⟩ else if hi < v then ⟨hi, .clamped⟩ else ⟨v, .done⟩

/-- What a write makes of an entry: the new content with its result and response value, or a refusal. -/
structure Written (α : Type) where
  entry : α
  result : Result
  value : Nat
  deriving DecidableEq, Repr

/-- A clamped number stored by `put`. -/
def putNumber {α : Type} (c : Clamped) (put : Nat → α) : Except Result (Written α) := .ok ⟨put c.value, c.result, c.value⟩

/-- An enumeration stored by `put`; a code naming no value is BAD_VALUE. -/
def putCode {α β : Type} (code : Nat) (x : Option β) (put : β → α) : Except Result (Written α) :=
  match x with
  | none => .error .badValue
  | some b => .ok ⟨put b, .done, code⟩

/-- A two-valued field (R182). -/
def flagOfCode : Nat → Option Bool
  | 0 => some false
  | 1 => some true
  | _ => none

/-- A number 0..n-1. -/
def finOfCode (n v : Nat) : Option (Fin n) := if h : v < n then some ⟨v, h⟩ else none

/-- The four parameters of a step or of the catch-up settings, by position (R135, R171). -/
def writeParams (p : Params) (field v : Nat) : Except Result (Written Params) :=
  match field with
  | 0 => putNumber (clamp 0 32640 v) (fun n => { p with threshold := n })
  | 1 => putNumber (clamp 0 7200 v) (fun n => { p with deferralLimit := n })
  | 2 => putCode v (LatePolicy.ofCode v) (fun x => { p with policy := x })
  | 3 => putNumber (clamp 0 120 v) (fun n => { p with warning := n })
  | _ => .error .badField

/-- Put the entry of a write into something larger. -/
def liftWrite {α β : Type} (put : α → β) (w : Except Result (Written α)) : Except Result (Written β) :=
  match w with
  | .error r => .error r
  | .ok x => .ok ⟨put x.entry, x.result, x.value⟩

/-! ## SEGMENT (R171) -/

/-- The window lengths (R171). -/
def windowLengths : List Nat := [10, 30, 60, 120]

/-- A write of a SEGMENT field (R171). -/
def writeSegmentField (x : SegmentEntry) (field v : Nat) : Except Result (Written SegmentEntry) :=
  match field with
  | 0 => putNumber (clamp 0 4095 v) (fun n => { x with capacity := n })
  | 1 => if windowLengths.contains v then .ok ⟨{ x with windowLength := v }, .done, v⟩ else .error .badValue
  | 2 => putCode v (flagOfCode v) (fun b => { x with fireActiveHigh := !b })
  | n + 3 => liftWrite (fun p => { x with params := p }) (writeParams x.params n v)

/-- The write of the capacity has the queue considered, whatever its value was (R89); FIRE_IN is judged by the polarity
(R164). -/
def segmentWritten (high : Bool) (field : Nat) (_old e : Env) (g : Segment) : Segment :=
  let g := if field = 0 then consider e g else g
  judgeFireIn (fireReading e high) g

/-- WRITE to SEGMENT. -/
def serveWriteSegment (field v : Nat) (s : State) : Served :=
  match writeSegmentField s.work.segment.value field v with
  | .error r => refuseWith r s
  | .ok w =>
    ⟨w.result, toValue w.value,
      settled (changeTables { s.work with segment := ⟨w.entry, false⟩ } (segmentWritten s.fireInHigh field) s)⟩

/-! ## SLOTMAP (R9) -/

abbrev SlotMap := Vector (Working (Option SlotMapEntry)) 8

/-- Another entry of the slot map is used with this slot number. -/
def slotTaken (v : SlotMap) (i n : Nat) : Bool :=
  v.toList.zipIdx.any (fun x => x.2 != i && x.1.value.any (fun y => y.slot == n))

/-- A write of a SLOTMAP field to entry i (R9, R170). A role code that names no role is BAD_VALUE at an unused entry too: R170 tests
BAD_VALUE and BAD_INDEX in one line, and the model takes BAD_VALUE first (log 51). Slot number 0 is answered with the value 0 as written,
where the entry it makes unused reads 65,535: R170's "value as stored" can be either, and the choice is the model's (log 84). -/
def writeSlotmapField (v : SlotMap) (i : Nat) (x : Option SlotMapEntry) (field n : Nat) :
    Except Result (Written (Option SlotMapEntry)) :=
  match field with
  | 0 =>
    if 63 < n then .error .badValue
    else if n = 0 then .ok ⟨none, .done, 0⟩
    else if slotTaken v i n then .error .badValue
    else .ok ⟨some ⟨n, (x.map (fun y => y.role)).getD .command⟩, .done, n⟩
  | 1 =>
    match Role.ofCode n, x with
    | none, _ => .error .badValue
    | some _, none => .error .badIndex
    | some r, some y => .ok ⟨some { y with role := r }, .done, n⟩
  | _ => .error .badField

/-- WRITE to SLOTMAP: the entry's defective mark stays (R176). -/
def serveWriteSlotmap (i field v : Nat) (s : State) : Served :=
  match s.work.slotmap[i]? with
  | none => refuseWith .badIndex s
  | some x =>
    match writeSlotmapField s.work.slotmap i x.value field v with
    | .error r => refuseWith r s
    | .ok w =>
      ⟨w.result, toValue w.value,
        { s with work := { s.work with slotmap := s.work.slotmap.setIfInBounds i { x with value := w.entry } } }⟩

/-! ## GROUPMAP (R49) -/

/-- Another used entry holds the site group. -/
def siteTaken (v : GroupMap) (i n : Nat) : Bool :=
  v.toList.zipIdx.any (fun x => x.2 != i && x.1.used.any (fun y => y.site == n))

/-- The index at which a site group stands. -/
def siteIndex (v : GroupMap) (n : Nat) : Nat := v.toList.findIdx (fun x => x.used.any (fun y => y.site == n))

/-- A write to the group map at index i, entry x (R49). Site group 255 to an unused index clears that entry's mark (R170, R176)
and changes no site group; the used entries then stand at the lowest indices without a mark (R48, log 38). -/
def writeGroupmapField (v : GroupMap) (i : Nat) (x : Working (Option GroupMapEntry)) (field n : Nat) :
    Except Result (Written GroupMap) :=
  match field with
  | 0 =>
    if 255 < n then .error .badValue
    else if n = 255 then
      if x.used.isSome then
        let w := sortGroupMap (v.setIfInBounds i ⟨none, false⟩)
        .ok ⟨w, .done, (usedEntries w).length⟩
      else .ok ⟨placeGroupMap (v.setIfInBounds i ⟨none, false⟩), .done, (usedEntries v).length⟩
    else if siteTaken v i n then .error .badValue
    else
      let w := sortGroupMap (v.setIfInBounds i ⟨some ⟨n, (x.used.map (fun y => y.localGroup)).getD 0⟩, false⟩)
      .ok ⟨w, .done, siteIndex w n⟩
  | 1 =>
    match finOfCode 16 n, x.used with
    | none, _ => .error .badValue
    | some _, none => .error .badIndex
    | some g, some y => .ok ⟨v.setIfInBounds i ⟨some { y with localGroup := g }, false⟩, .done, i⟩
  | _ => .error .badField

/-- WRITE to GROUPMAP. -/
def serveWriteGroupmap (i field v : Nat) (s : State) : Served :=
  match s.work.groupmap[i]? with
  | none => refuseWith .badIndex s
  | some x =>
    match writeGroupmapField s.work.groupmap i x field v with
    | .error r => refuseWith r s
    | .ok w => ⟨w.result, toValue w.value, { s with work := { s.work with groupmap := w.entry } }⟩

/-! ## DOOR (R32 to R34) -/

/-- The state conditions of a DOOR write (R33, R34). -/
def doorWriteRefusal (x : Engine) (field : Nat) : Option Result :=
  match field with
  | 0 => if x.inService then some .refusedState else none
  | 1 =>
    if x.state = .absent ∨ x.state = .outOfService then none
    else if x.state.settled then some .refusedState else some .busy
  | _ => if x.state.settled then none else some .busy

/-- A write of a DOOR field (R32). -/
def writeDoorField (x : DoorEntry) (field v : Nat) : Except Result (Written DoorEntry) :=
  match field with
  | 0 => putCode v (flagOfCode v) (fun b => { x with fitted := b })
  | 1 => putCode v (finOfCode 8 v) (fun p => { x with profile := p })
  | 2 => .ok ⟨{ x with groups := BitVec.ofNat 16 v }, .done, v⟩
  | 3 => putNumber (clamp 0 255 v) (fun n => { x with rank := n })
  | 4 => putCode v (Posture.ofCode v) (fun p => { x with defaultPosture := p })
  | _ => .error .badField

/-- What an accepted DOOR write does to the door (R33, R34, R104): any write of the profile field clears the supervision
counts. -/
def doorWritten (field : Nat) (d : DoorNo) (old e : Env) (g : Segment) : Segment :=
  doorChanged old e d (if field = 1 then clearSupervision d g else g)

/-- WRITE to DOOR. -/
def serveWriteDoor (i field v : Nat) (s : State) : Served :=
  if h : i < 64 then
    let d : DoorNo := ⟨i, h⟩
    match doorWriteRefusal (s.seg.door d).eng field with
    | some r => refuseWith r s
    | none =>
      match writeDoorField s.work.door[d].value field v with
      | .error r => refuseWith r s
      | .ok w =>
        ⟨w.result, toValue w.value,
          settled (changeTables { s.work with door := s.work.door.set d ⟨w.entry, false⟩ } (doorWritten field d) s)⟩
  else refuseWith .badIndex s

/-! ## PROFILE (R35 to R40) -/

/-- The states in which a door keeps its profile from every write (R37). -/
def DoorState.usesProfile : DoorState → Bool
  | .warning | .awaitGrant | .driving | .verifying | .cooling | .exitShunt => true
  | _ => false

/-- The conditions of a PROFILE write (R37). -/
def profileWriteRefusal (e : Env) (p : Fin 8) (field : Nat) (g : Segment) : Option Result :=
  let ds := doorsNaming e p
  if ds.any (fun d => (g.door d).eng.state.usesProfile) then some .busy
  else if field ≤ 12 && ds.any (fun d =>
      (g.door d).eng.state != .absent && (g.door d).eng.state != .outOfService) then some .refusedState
  else none

/-- The terminal other than k on which function f stands (R40). -/
def claimedFrom (x : ProfileEntry) (k : Fin 6) (f : TermFn) : Option (Fin 6) :=
  if f = .generalIn ∨ f = .none then none else allTerms.find? (fun j => j != k && x.functions[j] == f)

/-- A write of function f to terminal k (R40); the response value is the terminal that lost the function, or 0. -/
def claimFunction (x : ProfileEntry) (k : Fin 6) (f : TermFn) : Written ProfileEntry :=
  match claimedFrom x k f with
  | some j => ⟨{ x with functions := (x.functions.set j .generalIn).set k f }, .done, j.val + 1⟩
  | none => ⟨{ x with functions := x.functions.set k f }, .done, 0⟩

/-- A write of the lock kind; MOTOR takes the hold units to 0 (R36). -/
def setLockKind (x : ProfileEntry) (k : LockKind) : ProfileEntry :=
  { x with lockKind := k, holdUnits := if k = .motor then 0 else x.holdUnits }

/-- A write of the hold units: 0 for a MOTOR profile (R36). -/
def writeHoldUnits (x : ProfileEntry) (v : Nat) : Except Result (Written ProfileEntry) :=
  if x.lockKind = .motor then .ok ⟨{ x with holdUnits := 0 }, if v = 0 then .done else .clamped, 0⟩
  else putNumber (clamp 0 255 v) (fun n => { x with holdUnits := n })

/-- A write of a PROFILE field (R35, R36, R40). -/
def writeProfileField (x : ProfileEntry) (field v : Nat) : Except Result (Written ProfileEntry) :=
  match field with
  | 0 => putCode v (LockKind.ofCode v) (setLockKind x)
  | 13 => putNumber (clamp 0 255 v) (fun n => { x with runUnits := n })
  | 14 => writeHoldUnits x v
  | 15 => putNumber (clamp 1 50 v) (fun n => { x with runTime := n })
  | 16 => putNumber (clamp 1 30 v) (fun n => { x with verifyTime := n })
  | 17 => putNumber (clamp 0 3 v) (fun n => { x with retryLimit := n })
  | 18 => putNumber (clamp 0 120 v) (fun n => { x with settleTime := n })
  | 19 => putNumber (clamp 0 50 v) (fun n => { x with bounceLimit := n })
  | 20 => putNumber (clamp 10 3600 v) (fun n => { x with proppedLimit := n })
  | 21 => putNumber (clamp 0 255 v) (fun n => { x with overLimit := n })
  | 22 => putNumber (clamp 0 255 v) (fun n => { x with underLimit := n })
  | 23 => putNumber (clamp 1 8 v) (fun n => { x with persistence := n })
  | 24 => putNumber (clamp 0 63 v) (fun n => { x with hysteresis := n })
  | 25 => putCode v (flagOfCode v) (fun b => { x with faultLatch := b })
  | 26 => putNumber (clamp 1 60 v) (fun n => { x with exitShuntTime := n })
  | n =>
    if h : 1 ≤ n ∧ n ≤ 6 then
      match TermFn.ofCode v with
      | none => .error .badValue
      | some f => .ok (claimFunction x ⟨n - 1, by omega⟩ f)
    else if h : 7 ≤ n ∧ n ≤ 12 then
      putCode v (flagOfCode v) (fun b => { x with inverted := x.inverted.set (n - 7) b (by omega) })
    else .error .badField

/-- A function or polarity field (R46). -/
def isMappingField (field : Nat) : Bool := 1 ≤ field && field ≤ 12

/-- What an accepted PROFILE write does to one door that names it: a new reference and enable (R46, R68), a quiet test at a settle
time (R82), and the return of a door the mark held out (R38). -/
def fieldWritten (field : Nat) (old e : Env) (d : DoorNo) (g : Segment) : Segment :=
  let g := if isMappingField field then remapDoor old e d g else g
  let g := if field = 18 then evaluateWatch e d g else g
  reconcileProfile e d g

/-- What it does to all of them. Neither rule orders the doors that name the profile: the model takes them in ascending door number, for
their return (log 62) and for their watches (log 63). -/
def profileWritten (field : Nat) (p : Fin 8) (old e : Env) (g : Segment) : Segment :=
  forDoors (doorsNaming e p) (fieldWritten field old e) g

/-- WRITE to PROFILE. -/
def serveWriteProfile (i field v : Nat) (s : State) : Served :=
  if h : i < 8 then
    let p : Fin 8 := ⟨i, h⟩
    match profileWriteRefusal s.env p field s.seg with
    | some r => refuseWith r s
    | none =>
      match writeProfileField s.work.profile[p].value field v with
      | .error r => refuseWith r s
      | .ok w =>
        ⟨w.result, toValue w.value,
          settled
            (changeTables { s.work with profile := s.work.profile.set p ⟨w.entry, false⟩ } (profileWritten field p) s)⟩
  else refuseWith .badIndex s

/-! ## PROGRAM (R136) -/

/-- The program is the active run's, or stands in the queue (R136). -/
def programBusy (q : Sequencer) (p : Nat) : Bool :=
  q.run.any (fun r => r.program.val == p) || q.queue.any (fun x => x.val == p)

/-- A write of a PROGRAM field (R135, R136). -/
def writeProgramField (x : ProgramEntry) (field v : Nat) : Except Result (Written ProgramEntry) :=
  match field with
  | 0 => putCode v (ProgramKind.ofCode v) (fun k => { x with kind := k })
  | 1 => putNumber (clamp 0 10 v) (fun n => { x with stepCount := n })
  | 2 => putCode v (finOfCode 16 v) (fun g => { x with localGroup := g })
  | 3 => putCode v (StartMode.ofCode v) (fun m => { x with startMode := m })
  | 4 => putNumber (clamp 0 3600 v) (fun n => { x with offset := n })
  | n + 5 => liftWrite (fun p => { x with params := p }) (writeParams x.params n v)

/-- WRITE to PROGRAM. -/
def serveWriteProgram (i field v : Nat) (s : State) : Served :=
  match s.work.program[i]? with
  | none => refuseWith .badIndex s
  | some x =>
    if programBusy s.seg.seqr (i / 10) then refuseWith .refusedState s
    else
      match writeProgramField x.value field v with
      | .error r => refuseWith r s
      | .ok w =>
        ⟨w.result, toValue w.value,
          { s with work := { s.work with program := s.work.program.setIfInBounds i ⟨w.entry, false⟩ } }⟩

/-! ## DAYPLAN (R26, R28, R182) -/

/-- A write of a DAYPLAN field (R182). -/
def writeDayplanField (x : Option DayPlanEntry) (field v : Nat) : Except Result (Written (Option DayPlanEntry)) :=
  match field with
  | 0 =>
    if v = Config.noneCode then .ok ⟨none, .done, v⟩
    else putNumber (clamp 0 1439 v) (fun n => some ⟨n, (x.map (fun y => y.program)).getD 0⟩)
  | 1 => putCode v (finOfCode 8 v) (fun p => some ⟨(x.map (fun y => y.minute)).getD 0, p⟩)
  | _ => .error .badField

/-- WRITE to DAYPLAN: the entry's fired mark is cleared, whatever is written (R28). -/
def serveWriteDayplan (i field v : Nat) (s : State) : Served :=
  match s.work.dayplan[i]? with
  | none => refuseWith .badIndex s
  | some x =>
    match writeDayplanField x.value field v with
    | .error r => refuseWith r s
    | .ok w =>
      ⟨w.result, toValue w.value,
        { s with
          work := { s.work with dayplan := s.work.dayplan.setIfInBounds i ⟨w.entry, false⟩ }
          clock := { s.clock with fired := s.clock.fired.setIfInBounds i false } }⟩

/-! ## The passage counter (R74) -/

/-- The counter with one half replaced (R74). -/
def putHalf (high : Bool) (n : Nat) (c : BitVec 24) : BitVec 24 :=
  if high then BitVec.ofNat 8 n ++ c.extractLsb' 0 16 else c.extractLsb' 16 8 ++ BitVec.ofNat 16 n

/-- WRITE of a half of the passage counter. -/
def serveWritePassage (i : Nat) (high : Bool) (v : Nat) (s : State) : Served :=
  if h : i < 64 then
    let d : DoorNo := ⟨i, h⟩
    let c := if high then clamp 0 255 v else ⟨v, .done⟩
    ⟨c.result, toValue c.value,
      s.seg! (fun e g => updMon e d (fun m => { m with passages := putHalf high c.value m.passages }) g)⟩
  else refuseWith .badIndex s

/-! ## WRITE (R170) -/

/-- A store write of this table is in progress (R177). -/
def underStore (s : State) (t : TableName) : Bool := s.store.writing.any (fun x => x.1 == t)

/-- A WRITE to a stored table, after the tests of R170 that come first. -/
def writeStored (t : TableName) (i field v : Nat) (s : State) : Served :=
  if underStore s t then refuseWith .storeBusy s
  else
    match t with
    | .segment => serveWriteSegment field v s
    | .slotmap => serveWriteSlotmap i field v s
    | .groupmap => serveWriteGroupmap i field v s
    | .door => serveWriteDoor i field v s
    | .profile => serveWriteProfile i field v s
    | .program => serveWriteProgram i field v s
    | .dayplan => serveWriteDayplan i field v s

/-- A WRITE to a runtime table: READ_ONLY, but for the halves of the passage counter (R170, R74). -/
def writeRuntime (table i field v : Nat) (s : State) : Served :=
  if table = 7 ∧ field = passageLowField then serveWritePassage i false v s
  else if table = 7 ∧ field = passageHighField then serveWritePassage i true v s
  else refuseWith .readOnly s

/-- WRITE (R170): the tests in their order. -/
def serveWrite (table i field : Nat) (v : Value) (s : State) : Served :=
  match lookupField s table i field v with
  | .error r => refuseWith r s
  | .ok _ =>
    match TableName.ofCode table with
    | some t => writeStored t i field v.toNat s
    | none => writeRuntime table i field v.toNat s

/-- READ (R169). -/
def serveRead (table i field : Nat) (v : Value) (s : State) : Served :=
  match lookupField s table i field v with
  | .error r => refuseWith r s
  | .ok x => answerDone x s

/-! ## Door service requests (R172) -/

/-- The code of a door's state, the response value of a service request. -/
def stateCode (d : DoorNo) (s : State) : Nat := (s.seg.door d).eng.state.code

/-- DOOR_SERVICE out of service (R133). -/
def serviceOut (d : DoorNo) (e : Env) (g : Segment) : Segment := takeOutOfService e d (setServiceMark e d false g)

/-- DOOR_SERVICE return to service (R133). -/
def serviceReturn (d : DoorNo) (e : Env) (g : Segment) : Segment := returnToService e d (setServiceMark e d true g)

/-- DOOR_SERVICE (R172): value 0 is out of service, 1 return; the mark already held changes nothing. R172 does not order BAD_INDEX and
BAD_VALUE: the index is tested first (log 68). -/
def serveDoorService (i v : Nat) (s : State) : Served :=
  match finOfCode 64 i, flagOfCode v with
  | none, _ => refuseWith .badIndex s
  | some _, none => refuseWith .badValue s
  | some d, some back =>
    if (s.seg.door d).eng.inService = back then answerDone (stateCode d s) s
    else
      let s := settled (s.seg! (if back then serviceReturn d else serviceOut d))
      answerDone (stateCode d s) s

/-- CLEAR_DOOR_EVENTS (R172). -/
def serveClearEvents (i : Nat) (s : State) : Served :=
  match finOfCode 64 i with
  | none => refuseWith .badIndex s
  | some d => answerOpen (s.seg! (fun e g => updEng e d (fun x => { x with sticky := .clear }) g))

/-- RESET_FAULT (R130, R172). -/
def serveResetFault (i : Nat) (s : State) : Served :=
  match finOfCode 64 i with
  | none => refuseWith .badIndex s
  | some d =>
    let s := settled (s.seg! (fun e g => resetFaultDoor e d g))
    answerDone (stateCode d s) s

/-! ## CLEAR_EXCEPTION (R174) -/

/-- Remove the entry of a door and kind. -/
def clearEntry (door : Option DoorNo) (k : Kind) (s : State) : Served :=
  let out := s.seg.exceptions.any (fun x => x.isFor door k)
  answerDone (if out then 1 else 0)
    { s with seg := { s.seg with exceptions := s.seg.exceptions.filter (fun x => !x.isFor door k) } }

/-- CLEAR_EXCEPTION (R174): index 64 is a door of none. R174 does not order BAD_INDEX and BAD_VALUE: the index is tested first (log 68). -/
def serveClearException (i v : Nat) (s : State) : Served :=
  if 64 < i then refuseWith .badIndex s
  else
    match Kind.ofCode v with
    | none => refuseWith .badValue s
    | some k => clearEntry (finOfCode 64 i) k s

/-! ## STORE, RESTORE, RESTART (R177 to R179) -/

/-- STORE (R177). -/
def serveStore (table : Nat) (s : State) : Served :=
  match TableName.ofCode table with
  | none => refuseWith .badTable s
  | some t =>
    if s.store.writing.isSome then refuseWith .storeBusy s
    else answerDone t.count { s with store := ⟨some (t, 0), 0⟩ }

/-- RESTORE is refused by the state of the segment (R178). -/
def restoreRefused (t : TableName) (s : State) : Bool :=
  s.seg.seqr.run.isSome || !s.seg.seqr.queue.isEmpty
    || ((t == .door || t == .profile) && allDoors.any (fun d => !(s.seg.door d).eng.state.settled))

/-- RESTORE (R178). -/
def serveRestore (table : Nat) (s : State) : Served :=
  match TableName.ofCode table with
  | none => refuseWith .badTable s
  | some t =>
    if s.store.writing.isSome then refuseWith .storeBusy s
    else if restoreRefused t s then refuseWith .refusedState s
    else
      let w := s.work.replace (loadTables s.stored) t
      answerDone (w.defects t) (restoreTable t s)

/-- RESTART (R179): accepted, it begins after the slot has been forwarded. -/
def serveRestart (s : State) : Served :=
  if s.store.writing.isSome then refuseWith .storeBusy s
  else answerOpen { s with trunk := { s.trunk with restartPending := true } }

/-! ## The request kinds (R168) -/

/-- Serve a request; a kind code naming no kind is BAD_TABLE (R181). The table of a CLEAR_EXCEPTION and of a RESTART is disregarded, a code
that names no table too: R172 says so of the door requests alone, R174 and R179 name no table, and R181 has such a code answered BAD_TABLE.
That is the model's choice, and so is that every other part of a request which its rule does not name is disregarded (log 85). -/
def serve (q : Request) (s : State) : Served :=
  let t := q.table.toNat
  let i := q.index.toNat
  let f := q.field.toNat
  match ReqKind.ofCode q.kind with
  | none => refuseWith .badTable s
  | some .read => serveRead t i f q.value s
  | some .write => serveWrite t i f q.value s
  | some .doorService => serveDoorService i q.value.toNat s
  | some .clearDoorEvents => serveClearEvents i s
  | some .resetFault => serveResetFault i s
  | some .clearException => serveClearException i q.value.toNat s
  | some .store => serveStore t s
  | some .restore => serveRestore t s
  | some .restart => serveRestart s

end Sys2Proof.Machine
end

