-- ==== Sys2Proof/Machine/Trunk.lean ====
section
/-! DEFINITION. The trunk port (01_trunk_frames_and_slot_routing.md): frames and forwarding, headers and the trunk state, the routing
of slots, and what each kind of slot does. -/

namespace Sys2Proof.Machine

/-! ## Frames (R1, R2) -/

/-- Change the trunk port. -/
def State.port (s : State) (f : TrunkPort → TrunkPort) : State := { s with trunk := f s.trunk }

/-- The symbols of a held record. -/
def heldSymbols (held : Option TrunkRecord) : List TrunkSymbol :=
  match held with
  | none => []
  | some r => [.record r]

/-- A frame begins (R1); its start marker goes out one record time later, with the header's arrival (R2, log 12). -/
def TrunkPort.open (p : TrunkPort) : TrunkPort :=
  { p with phase := .awaitHeader, headerValid := false, held := none, out := [] }

/-- A frame ends: the record held goes out, then an end marker; a frame cut short before its header is complete sends its start
marker first (R2, log 12). -/
def TrunkPort.close (p : TrunkPort) : TrunkPort :=
  let start := if p.phase = .awaitHeader then [TrunkSymbol.startMarker] else []
  { p with phase := .outside, headerValid := false, held := none, out := start ++ heldSymbols p.held ++ [.endMarker] }

/-- The count of an invalid header (R3, R4). -/
def TrunkPort.invalidHeader (p : TrunkPort) : TrunkPort := { p with count := 0 }

/-- A frame is truncated (R1): before its header is complete it counts as a frame with an invalid header. No effect outside a
frame. -/
def TrunkPort.truncate (p : TrunkPort) : TrunkPort :=
  match p.phase with
  | .outside => p
  | .awaitHeader => p.invalidHeader.close
  | .slots _ => p.close

/-- A start marker after a truncation: the end of the old frame stands on TRUNK_OUT before the new one begins (R1, R2). -/
def TrunkPort.reopen (p : TrunkPort) : TrunkPort :=
  { p with phase := .awaitHeader, headerValid := false, held := none }

/-- A start marker on TRUNK_IN (R1); within a frame it truncates that frame. -/
def TrunkPort.start (p : TrunkPort) : TrunkPort :=
  if p.phase = .outside then p.open else p.truncate.reopen

/-- The cause of a truncation decides whether a new frame begins (R1). -/
def TrunkPort.cut (p : TrunkPort) (c : Truncation) : TrunkPort :=
  match p.phase, c with
  | .outside, _ => p
  | _, .newStart => p.truncate.reopen
  | _, _ => p.truncate

/-- An end marker (R1): after slot 63 the frame is complete, before that it is truncated. -/
def TrunkPort.endMarker (p : TrunkPort) : TrunkPort := p.truncate

/-- The trunk port receives and sends (R15). -/
def State.inserted (s : State) : Bool := s.trunk.inserted

/-! ## Headers (R3, R4) -/

/-- The trunk state after a valid header that leaves the count at n (R4). -/
def TrunkState.afterHeader (t : TrunkState) (n : Nat) : TrunkState :=
  match t with
  | .tracking => .tracking
  | .noTime => if n = 3 then .tracking else .noTime
  | .holdover => if n = 3 then .tracking else .holdover

/-- The count and the state at a valid header (R4). -/
def TrunkPort.validHeader (p : TrunkPort) : TrunkPort :=
  let n := min 3 (p.count + 1)
  { p with count := n, state := p.state.afterHeader n, sinceHeader := 0 }

/-- The header is held and the frame's slots follow (R2). -/
def TrunkPort.holdHeader (r : TrunkRecord) (valid : Bool) (p : TrunkPort) : TrunkPort :=
  { p with phase := .slots 0, headerValid := valid, held := some r, out := [.startMarker] }

/-- A valid header (R3): the count and trunk state, then the segment clock where the state is TRACKING, then the fire release
unit. -/
def validHeaderArrives (r : TrunkRecord) (s : State) : State :=
  let h := headerOf r
  let s := s.port (fun p => (p.validHeader).holdHeader r true)
  let s := if s.trunk.state = .tracking then trackingHeader h s else s
  settled (s.seg! (fun e g => fireHeader e h.site g))

/-- A complete header record (R3). -/
def headerArrives (r : TrunkRecord) (s : State) : State :=
  if headerIsValid r then validHeaderArrives r s else s.port (fun p => p.invalidHeader.holdHeader r false)

/-- The header timeout (R4): in TRACKING the state becomes HOLDOVER and the count 0. -/
def TrunkPort.timeout (p : TrunkPort) : TrunkPort :=
  let p := { p with sinceHeader := Config.headerTimeoutMs }
  if p.state = .tracking then { p with state := .holdover, count := 0 } else p

/-- A header timeout that arrives from outside (R4, R5). At a timer of 0 a valid header has just been taken: the timer has
restarted, and the timeout does not happen (log 47). -/
def TrunkPort.timeoutArrives (p : TrunkPort) : TrunkPort := if p.sinceHeader = 0 then p else p.timeout

/-! ## Slots: forwarding and routing (R2, R8, R9) -/

/-- A slot's record is held, the record held before it goes out, and the next slot follows (R2). -/
def TrunkPort.accept (r : TrunkRecord) (p : TrunkPort) : TrunkPort :=
  { p with
    held := some r, out := heldSymbols p.held
    phase := match p.phase with
      | .slots n => .slots (n + 1)
      | ph => ph }

/-- Where a slot goes (R9). -/
inductive Route where
  | through | management | command | status
  deriving DecidableEq, Repr

/-- The role a used, non-defective slot map entry gives a slot number (R9). -/
def slotRole (w : Tables) (n : Nat) : Option Role :=
  (w.slotmap.toList.findSome? (fun x =>
    match x.used with
    | some y => if y.slot = n then some y.role else none
    | none => none))

/-- The route of slot n (R6, R7, R8, R9). -/
def State.route (s : State) (n : Nat) (passes : Bool) : Route :=
  if !(s.power == .running && s.trunk.headerValid && passes && s.trunk.address.isSome) then .through
  else if n = 0 then .management
  else if listening s.trunk.address s.work then .through
  else
    match slotRole s.work n with
    | some .command => .command
    | some .status => .status
    | none => .through

/-- The slot's record goes on as given. -/
def forward (r : TrunkRecord) (s : State) : State := s.port (TrunkPort.accept r)

/-! ## The management slot (R10) -/

/-- The controller's address; 0 stands for none. -/
def State.addressNo (s : State) : Nat := s.trunk.address.getD 0

/-- Slot 0 holds request q in record r (R10): the request is served where it is addressed to this controller, whose response takes
its place, or to 31. -/
def managementSlot (r : TrunkRecord) (q : Request) (s : State) : State :=
  let a := s.addressNo
  if q.head.target.toNat = a then
    let x := serve q s
    forward (responseRecord a q x.result x.value) x.state
  else if q.head.target.toNat = 31 then forward r (serve q s).state
  else forward r s

/-! ## Command slots (R11) -/

/-- The scope of a site group: the whole segment for 255, a local group where the group map has it (R11, R48). -/
def scopeOf (w : Tables) (site : Nat) : Option Scope :=
  if site = 255 then some .segment
  else (usedEntries w.groupmap).findSome? (fun x => if x.site = site then some (.localGroup x.localGroup) else none)

/-- The group command decoding (R156): whether the command is taken, and the segment after it. -/
def decodeCommand (c : CommandCode) (sc : Scope) (arg : BitVec 12) (e : Env) (g : Segment) : Bool × Segment :=
  match c with
  | .secureGroup => secureGroup e sc g
  | .releaseGroup => releaseGroup e sc g
  | .exemptReleased => exempt e .released sc arg g
  | .exemptSecured => exempt e .secured sc arg g
  | .endExemption => endExemption e sc g
  | .resumeSchedule => resumeSchedule e sc g
  | .startProgram => startProgram e sc arg g
  | .abortRun => abortRun e sc g
  | .fireRestore => fireRestore e sc g

/-- A command slot with record r and its fields (R11): a command handed on and taken gets the controller's bit. -/
def commandSlot (r : TrunkRecord) (c : CommandCode) (x : CommandSlot) (s : State) : State :=
  match scopeOf s.work x.siteGroup.toNat with
  | none => forward r s
  | some sc =>
    let y := decodeCommand c sc x.argument s.env s.seg
    if y.1 then forward (acknowledge s.addressNo r) (settled { s with seg := y.2 }) else forward r { s with seg := y.2 }

/-! ## Status slots (R12, R13) -/

/-- The run state of the report: active, program, the highest-numbered started step (R13). -/
def runByte (q : Sequencer) : Byte :=
  match q.run with
  | none => 0
  | some r =>
    let k := (r.steps.zipIdx.filter (fun x => x.1.state != .delaying)).foldl (fun m x => max m (x.2 + 1)) 0
    1#1 ++ BitVec.ofNat 3 r.program.val ++ BitVec.ofNat 4 k

/-- How many doors are SECURED (R13). -/
def securedCount (g : Segment) : Nat := (allDoors.filter (fun d => (g.door d).eng.state == .secured)).length

/-- The newest exception's door and kind; 255 for none (R13, 12.2). -/
def newestException (g : Segment) : Byte × Byte :=
  match g.exceptions.getLast? with
  | none => (255, 255)
  | some x => ((x.door.map (fun d => byte d.val)).getD 255, byte x.kind.code)

/-- The segment report (R12, R13). -/
def segmentReport (s : State) : TrunkRecord :=
  let n := newestException s.seg
  trunkSeal
    { b0 := BitVec.ofNat 3 s.condition.code ++ BitVec.ofNat 5 s.addressNo, b1 := runByte s.seg.seqr
      b2 := bit s.seg.learning ++ BitVec.ofNat 7 (securedCount s.seg), b3 := byte s.seg.exceptions.length
      b4 := n.1, b5 := n.2, b6 := byte (min 255 (s.seg.load / 16)), b7 := 0 }

/-! ## Any record -/

/-- A slot record of slot n, as its bytes give it (R9 to R12). -/
def slotArrives (n : Nat) (r : TrunkRecord) (s : State) : State :=
  match s.route n (trunkPasses r) with
  | .through => forward r s
  | .management => if isResponse r then forward r s else managementSlot r (requestOf r) s
  | .command =>
    match CommandCode.ofCode r.b0 with
    | none =>
      forward r s
    | some c => commandSlot r c (commandOf r) s
  | .status => forward (segmentReport s) s

/-- A complete record on TRUNK_IN (R1): the header, a slot, or data after slot 63, which ends the frame. Whether an end marker goes out
in that last case R2 does not say: the model sends one (log 74). Outside a frame the record is disregarded, and so is everything while
INSERT is deasserted (R15). -/
def recordArrives (r : TrunkRecord) (s : State) : State :=
  if s.inserted then
    match s.trunk.phase with
    | .outside => s
    | .awaitHeader => headerArrives r s
    | .slots n => if n < 64 then slotArrives n r s else s.port TrunkPort.close
  else s

/-- A management request arrives: in slot 0 of a frame whose slots are acted on by what its row says, elsewhere by the bytes of its
record (log 11). -/
def requestArrives (q : Request) (s : State) : State :=
  let r := requestRecord q
  if s.inserted ∧ s.trunk.phase = .slots 0 ∧ s.route 0 true = .management then managementSlot r q s
  else recordArrives r s

/-- The slot the trunk port awaits, where it is inserted and in a frame. -/
def State.slotNow (s : State) : Option Nat :=
  if s.inserted then
    match s.trunk.phase with
    | .slots n => if n < 64 then some n else none
    | _ => none
  else none

/-- The slot awaited is routed to this role. -/
def State.routesTo (s : State) (x : Route) : Bool := s.slotNow.any (fun n => s.route n true == x)

/-- A command slot arrives: in a slot routed to this controller by what its row says, elsewhere by the bytes of its record
(log 11). -/
def commandArrives (c : CommandCode) (x : CommandSlot) (s : State) : State :=
  let r := commandRecord c.code x
  if s.routesTo .command then commandSlot r c x s else recordArrives r s

end Sys2Proof.Machine
end

