-- ==== Sys2Proof/Machine/Resets.lean ====
section
/-! DEFINITION. Supply, RESET_N and RESTART: what each kind of reset makes of the state, and the end of the table load (R6, R7, R15,
R113, R175, R179). -/

namespace Sys2Proof.Machine

/-- The address of a strap value: 1..24, or none (R7). -/
def addressOf (strap : BitVec 5) : Option Nat :=
  if 1 ≤ strap.toNat ∧ strap.toNat ≤ 24 then some strap.toNat else none

/-- Every block in its power-on state, the strap read and the load begun (R7, R15, R175). A store write in progress is
abandoned. A POWER_ON while RESET_N is held asserted is a case that R15 and R175 leave open: the model takes RESET_N as released by it,
so the load begins and its end asserts INSERT with no RESET_N_RELEASE between (log 80). -/
def powerUp (strap : BitVec 5) (s : State) : State :=
  let s := abandonStore s
  let w := loadTables s.stored
  { s with
    power := .loading, trunk := .initial (addressOf strap), clock := .initial, work := w, store := .idle
    seg := .initial w.segment.value s.seg.free }

/-- RESET_N asserted (R15): a store write is abandoned, INSERT is deasserted, and the controller is held in reset. -/
def holdReset (s : State) : State :=
  let s := abandonStore s
  { s with
    power := .resetHeld, trunk := .initial s.trunk.address, clock := .initial
    seg := .initial s.work.segment.value s.seg.free }

/-- The restart begins (R179): the clock, its day types and fired marks, the trunk state and counts and the address are kept. -/
def beginRestart (s : State) : State :=
  let s := abandonStore s
  let w := loadTables s.stored
  { s with
    power := .reloading, trunk := { s.trunk with restartPending := false }
    clock := { s.clock with lastSite := .normal }, work := w, store := .idle
    seg := .initial w.segment.value s.seg.free }

/-- The state a door enters at the end of the load (R113). -/
def entryState (e : Env) (x : Engine) (d : DoorNo) : DoorState :=
  if !e.fitted d then .absent
  else if e.profileDefective d || !x.inService then .outOfService
  else .holding

/-- Every door takes its entry state (R113), none of which is AWAIT_GRANT: the queue is empty (R87). -/
def enterDoors (e : Env) (g : Segment) : Segment :=
  forDoors allDoors (fun d g => enterState e d (entryState e (g.door d).eng d) g) { g with queue := [] }

/-- Each branch begins with a slot for its lowest fitted drop (R50). -/
def startPollers (e : Env) (g : Segment) : Segment :=
  { g with branches := vgen 4 (fun b => { g.branch b with visiting := none, next := lowestDrop e b g }) }

/-- The window clock and the flash phase start (R45, R76). -/
def startClocks (e : Env) (g : Segment) : Segment :=
  { g with window := ⟨e.work.segment.value.windowLength, 0⟩, flash := ⟨false, 0⟩ }

/-- The exceptions that waited for the end of the load: STORE_DEFECT per defective entry, then RUN_DROPPED per NOT_LOADED drop
(R137, R175, log 15). -/
def listWaiting (e : Env) (g : Segment) : Segment :=
  let g := listMany e .storeDefect e.work.allDefects g
  let n := g.seqr.unlistedDrops
  listMany e .runDropped n { g with seqr := { g.seqr with unlistedDrops := 0 } }

/-- What the end of the load does in the segment (R113, R50, R76, R45, R163, R175, R98), in the order of log 15. -/
def loadEnds (high : Bool) (e : Env) (g : Segment) : Segment :=
  let g := startClocks e (startPollers e (enterDoors e g))
  let g := listWaiting e (judgeFireIn (fireReading e high) g)
  tryInitial e (testLearning e g)

/-- The load is under way. -/
def Power.isLoading : Power → Bool
  | .loading | .reloading => true
  | _ => false

/-- The end of the load (R15, R175). No effect where no load is under way. -/
def completeLoad (s : State) : State :=
  if s.power.isLoading then
    let s := { s with power := .running, trunk := { s.trunk with inserted := true } }
    settled (s.seg! (loadEnds s.fireInHigh))
  else s

end Sys2Proof.Machine
end

