-- ==== Sys2Proof/Machine/Timers.lean ====
section
/-! DEFINITION. The events of the part's own timers, and one millisecond of time, which is the step on an empty queue (log 5). -/

namespace Sys2Proof.Machine

/-- Do `f` while the controller runs. -/
def whenRunning (f : State → State) (s : State) : State := if s.power = .running then f s else s

/-- Do `f` unless the controller is held in reset. -/
def unlessHeld (f : State → State) (s : State) : State := if s.power = .resetHeld then s else f s

/-- Do `f` to the segment of a running controller; what is due then starts (log 9). -/
def runSegment (f : Env → Segment → Segment) (s : State) : State := whenRunning (fun s => settled (s.seg! f)) s

/-! ## The events (each taken on the sender's word, log 7) -/

/-- The flash phase flips (R45). -/
def flipFlash (g : Segment) : Segment := { g with flash := ⟨!g.flash.on, 0⟩ }

/-- PROPPED begins (R80): the dwell stands at the limit at least. No effect where the mark is set or the dwell does not
count. -/
def proppedNow (e : Env) (d : DoorNo) (g : Segment) : Segment :=
  let m := (g.door d).mon
  if m.dwells && !m.propped then
    beginPropped e d (updMon e d (fun m => { m with dwell := max m.dwell m.proppedAt, dwellSub := 0 }) g)
  else g

/-- The deferral of a waiting door reaches 0 (R121); not under SWEEP_HOLD, which lets nothing be counted. -/
def deferralExpires (e : Env) (d : DoorNo) (g : Segment) : Segment :=
  let x := (g.door d).eng
  match x.deferral with
  | .counting _ => if x.state.defers && !e.hold then deferralEnd e d g else g
  | _ => g

/-- The FIRE_IN pin changes (R163, R164); judged while the controller runs. -/
def pinChanges (high : Bool) (s : State) : State :=
  let s := { s with fireInHigh := high }
  whenRunning (fun s => s.seg! (fun e g => judgeFireIn (fireReading e high) g)) s

/-! ## One millisecond -/

/-- The milliseconds of a door's timers that count. -/
def Door.advance (x : Door) : Door :=
  { x with
    eng := { x.eng with
      deferralSub := match x.eng.deferral with
        | .counting _ => if x.eng.state.defers then x.eng.deferralSub + 1 else x.eng.deferralSub
        | _ => x.eng.deferralSub
      timer := if x.eng.timer.running then { x.eng.timer with sub := x.eng.timer.sub + 1 } else x.eng.timer }
    mon := { x.mon with
      dwellSub := if x.mon.dwells then x.mon.dwellSub + 1 else x.mon.dwellSub
      sinceSub := if x.mon.sinceClose.isSome then x.mon.sinceSub + 1 else x.mon.sinceSub }
    charge := if x.charge.basis = .tail then { x.charge with tailSub := x.charge.tailSub + 1 } else x.charge }

/-- The milliseconds of a step's timer (R141). -/
def StepRecord.advance (s : StepRecord) : StepRecord :=
  if s.state = .delaying ∧ s.baseReached then { s with sub := s.sub + 1 } else s

/-- A millisecond at every timer of the doors and of the run, before any of them expires. -/
def Segment.advance (g : Segment) : Segment :=
  { g with
    doors := vmap Door.advance g.doors
    seqr := { g.seqr with run := g.seqr.run.map (fun r => { r with steps := r.steps.map StepRecord.advance }) } }

/-- The event of the state timer, by the state it belongs to (R110). -/
def timerExpires (e : Env) (d : DoorNo) (g : Segment) : Segment :=
  match (g.door d).eng.state with
  | .warning => warningEnd e d g
  | .driving => runTimerEnd e d g
  | .verifying => verifyFailed e d g
  | .exitShunt => shuntEnd e d g
  | .cooling => coolingEnd e d g
  | .secured => exitWindowEnd e d g
  | _ => g

/-- A unit of the state timer has passed. -/
def timerUnit (e : Env) (d : DoorNo) (g : Segment) : Segment :=
  let x := (g.door d).eng
  if x.timer.running ∧ x.state.timerUnit ≤ x.timer.sub then
    if x.timer.remaining ≤ 1 then timerExpires e d g
    else updEng e d (fun x => { x with timer := { x.timer with remaining := x.timer.remaining - 1, sub := 0 } }) g
  else g

/-- A tick of the tail has passed (R95). -/
def tailTick (e : Env) (d : DoorNo) (g : Segment) : Segment :=
  let c := (g.door d).charge
  if c.basis = .tail ∧ 100 ≤ c.tailSub then
    if c.tail ≤ 1 then tailEnd e d g else setCharge d { c with tail := c.tail - 1, tailSub := 0 } g
  else g

/-- The timers of one door that are due, in the order of log 5. -/
def doorExpiries (e : Env) (d : DoorNo) (g : Segment) : Segment :=
  let g := if 100 ≤ (g.door d).mon.dwellSub then dwellStep e d g else g
  let g := if 100 ≤ (g.door d).mon.sinceSub then sinceStep e d g else g
  let g := tailTick e d g
  let g := if 1000 ≤ (g.door d).eng.deferralSub then deferralCount e d g else g
  timerUnit e d g

/-- The step timers that are due. -/
def stepExpiries (e : Env) (g : Segment) : Segment :=
  (List.range 10).foldl (fun g i =>
    match g.seqr.run with
    | none => g
    | some r =>
      match r.step (i + 1) with
      | some s => if 1000 ≤ s.sub then settle e (stepSecond e (i + 1) g) else g
      | none => g) g

/-- A millisecond of the time since the last valid header (R4). -/
def headerMs (s : State) : State :=
  if s.trunk.sinceHeader + 1 < Config.headerTimeoutMs then
    s.port (fun p => { p with sinceHeader := p.sinceHeader + 1 })
  else if s.trunk.sinceHeader < Config.headerTimeoutMs then s.port TrunkPort.timeout
  else s

/-- A millisecond of the clock's phase (R18); a tick from then on is none that was due with a header (R22, log 71). -/
def clockMs (s : State) : State :=
  let s := setJustSet false s
  if s.clock.phase + 1 < 1000 then { s with clock := { s.clock with phase := s.clock.phase + 1 } } else tick s

/-- A millisecond of the persistence timer (R164). -/
def persistenceMs (e : Env) (g : Segment) : Segment :=
  if !g.fire.reading || Config.firePersistenceMs ≤ g.fire.persistence then g
  else if g.fire.persistence + 1 < Config.firePersistenceMs then
    { g with fire := { g.fire with persistence := g.fire.persistence + 1 } }
  else persistenceEnd e g

/-- A millisecond of the flash phase (R45). -/
def flashMsPasses (g : Segment) : Segment :=
  if g.flash.sub + 1 < Config.flashMs then { g with flash := { g.flash with sub := g.flash.sub + 1 } } else flipFlash g

/-- A millisecond of the window clock (R76). -/
def windowMs (e : Env) (g : Segment) : Segment :=
  if g.window.elapsedMs + 1 < 1000 * g.window.length then
    { g with window := { g.window with elapsedMs := g.window.elapsedMs + 1 } }
  else windowEnd e g

/-- A millisecond of a store write (R177). -/
def storeMs (s : State) : State :=
  match s.store.writing with
  | none => s
  | some _ =>
    if s.store.elapsed + 1 < Config.entryWriteMs then { s with store := { s.store with elapsed := s.store.elapsed + 1 } }
    else storeEntryDone s

/-- A millisecond in the segment of a running controller. -/
def segmentMs (e : Env) (g : Segment) : Segment :=
  stepExpiries e (forDoors allDoors (doorExpiries e)
    (windowMs e (flashMsPasses (persistenceMs e g))))

/-- One millisecond (log 5): every timer of the doors and steps advances, then what is due expires. No time counts while the
controller is held in reset. -/
def elapse (s : State) : State :=
  unlessHeld (fun s =>
    let s := if s.power = .running then { s with seg := s.seg.advance } else s
    whenRunning storeMs (runSegment segmentMs (clockMs (headerMs s)))) s

end Sys2Proof.Machine
end

