-- ==== Sys2Proof/Machine/BranchCommands.lean ====
section
/-! DEFINITION. The meanings of the branch commands: slots, replies and line judgments (chapter 4). -/

namespace Sys2Proof.Machine

/-- BRANCH_SLOT_START (R50, R52). -/
def execBranchSlotStart (b : BranchNo) (s : State) : Host.Outcome State Fault Refusal :=
  .next (whenRunning (fun s => s.seg! (fun e g => slotStart e b g)) s)

/-- REPLY_WINDOW_END (R54). -/
def execReplyWindowEnd (b : BranchNo) (received : List Reception) (s : State) : Host.Outcome State Fault Refusal :=
  .next (runSegment (fun e g => replyEnd e b received g) s)

/-- LINE_FAULT (R60). -/
def execLineFault (b : BranchNo) (s : State) : Host.Outcome State Fault Refusal :=
  .next (unlessHeld (fun s => settled (s.seg! (fun e g => lineFaults e b g))) s)

/-- LINE_NORMAL (R61). -/
def execLineNormal (b : BranchNo) (s : State) : Host.Outcome State Fault Refusal :=
  .next (unlessHeld (fun s => s.seg! (fun _ g => lineReturns b g)) s)

end Sys2Proof.Machine
end

