-- ==== Sys2Proof/Machine/FrameCommands.lean ====
section
/-! DEFINITION. The meanings of the trunk frame commands. While INSERT is deasserted the trunk port receives nothing (R15). -/

namespace Sys2Proof.Machine

/-- Change the trunk port where it receives. -/
def whenInserted (f : TrunkPort → TrunkPort) (s : State) : State := if s.inserted then s.port f else s

/-- FRAME_START (R1, R2). -/
def execFrameStart (s : State) : Host.Outcome State Fault Refusal := .next (whenInserted TrunkPort.start s)

/-- FRAME_TRUNCATED (R1, R2, R3). -/
def execFrameTruncated (c : Truncation) (s : State) : Host.Outcome State Fault Refusal :=
  .next (whenInserted (fun p => p.cut c) s)

/-- FRAME_END (R1, R2). -/
def execFrameEnd (s : State) : Host.Outcome State Fault Refusal := .next (whenInserted TrunkPort.endMarker s)

/-- HEADER_RECORD (R3): a complete record, which is the header where one is awaited. -/
def execHeaderRecord (r : TrunkRecord) (s : State) : Host.Outcome State Fault Refusal := .next (recordArrives r s)

/-- SLOT_RECORD (R9): a complete record, routed by where it stands. -/
def execSlotRecord (r : TrunkRecord) (s : State) : Host.Outcome State Fault Refusal := .next (recordArrives r s)

/-- STATUS_SLOT (R12): a complete record, which is overwritten in a slot routed as a status slot. -/
def execStatusSlot (r : TrunkRecord) (s : State) : Host.Outcome State Fault Refusal := .next (recordArrives r s)

/-- HEADER_TIMEOUT (R4). -/
def execHeaderTimeout (s : State) : Host.Outcome State Fault Refusal :=
  .next (unlessHeld (fun s => s.port TrunkPort.timeoutArrives) s)

end Sys2Proof.Machine
end

