-- ==== Sys2Proof/Machine/RequestCommands.lean ====
section
/-! DEFINITION. The meanings of the management requests: each is a request in slot 0 (R10), served by the management responder
(Management.lean). -/

namespace Sys2Proof.Machine

/-- A request that carries a table, an index, a field and a value. -/
def fullRequest (k : ReqKind) (h : ReqHead) (table index field : Byte) (value : Value) : Request :=
  ⟨h, k.code, table, index, field, value⟩

/-- A request that names an index (a door) and a value. The table is disregarded by R172 for the door requests; that it is for
CLEAR_EXCEPTION, and the field for all of them, is the model's choice (log 85). -/
def indexRequest (k : ReqKind) (h : ReqHead) (index : Byte) (value : Value) : Request :=
  ⟨h, k.code, 0, index, 0, value⟩

/-- A request that names a table (R177, R178), or nothing at all (RESTART, R179): what it does not name is disregarded (log 85). -/
def tableRequest (k : ReqKind) (h : ReqHead) (table : Byte) : Request := ⟨h, k.code, table, 0, 0, 0⟩

/-- READ (R169). -/
def execRead (h : ReqHead) (table index field : Byte) (value : Value) (s : State) : Host.Outcome State Fault Refusal :=
  .next (requestArrives (fullRequest .read h table index field value) s)

/-- WRITE (R170). -/
def execWrite (h : ReqHead) (table index field : Byte) (value : Value) (s : State) : Host.Outcome State Fault Refusal :=
  .next (requestArrives (fullRequest .write h table index field value) s)

/-- WRITE to SLOTMAP (R9). -/
def execWriteSlotmap (h : ReqHead) (index field : Byte) (value : Value) (s : State) :
    Host.Outcome State Fault Refusal :=
  .next (requestArrives (fullRequest .write h 1 index field value) s)

/-- WRITE to GROUPMAP (R49). -/
def execWriteGroupmap (h : ReqHead) (index field : Byte) (value : Value) (s : State) :
    Host.Outcome State Fault Refusal :=
  .next (requestArrives (fullRequest .write h 2 index field value) s)

/-- WRITE to DOOR (R34). -/
def execWriteDoor (h : ReqHead) (index field : Byte) (value : Value) (s : State) : Host.Outcome State Fault Refusal :=
  .next (requestArrives (fullRequest .write h 3 index field value) s)

/-- WRITE to PROFILE (R37). -/
def execWriteProfile (h : ReqHead) (index field : Byte) (value : Value) (s : State) :
    Host.Outcome State Fault Refusal :=
  .next (requestArrives (fullRequest .write h 4 index field value) s)

/-- WRITE to PROGRAM (R136). -/
def execWriteProgram (h : ReqHead) (index field : Byte) (value : Value) (s : State) :
    Host.Outcome State Fault Refusal :=
  .next (requestArrives (fullRequest .write h 5 index field value) s)

/-- WRITE to DAYPLAN (R26). -/
def execWriteDayplan (h : ReqHead) (index field : Byte) (value : Value) (s : State) :
    Host.Outcome State Fault Refusal :=
  .next (requestArrives (fullRequest .write h 6 index field value) s)

/-- WRITE to SEGMENT (R171). -/
def execWriteSegment (h : ReqHead) (index field : Byte) (value : Value) (s : State) :
    Host.Outcome State Fault Refusal :=
  .next (requestArrives (fullRequest .write h 0 index field value) s)

/-- WRITE of the passage counter through DOORSTATE (R74). -/
def execWritePassageCounter (h : ReqHead) (index field : Byte) (value : Value) (s : State) :
    Host.Outcome State Fault Refusal :=
  .next (requestArrives (fullRequest .write h 7 index field value) s)

/-- DOOR_SERVICE with value 0 (R133, R172). -/
def execDoorServiceOut (h : ReqHead) (index : Byte) (s : State) : Host.Outcome State Fault Refusal :=
  .next (requestArrives (indexRequest .doorService h index 0) s)

/-- DOOR_SERVICE with value 1 (R133, R172). -/
def execDoorServiceReturn (h : ReqHead) (index : Byte) (s : State) : Host.Outcome State Fault Refusal :=
  .next (requestArrives (indexRequest .doorService h index 1) s)

/-- CLEAR_DOOR_EVENTS (R172). -/
def execClearDoorEvents (h : ReqHead) (index : Byte) (s : State) : Host.Outcome State Fault Refusal :=
  .next (requestArrives (indexRequest .clearDoorEvents h index 0) s)

/-- RESET_FAULT (R130, R172). -/
def execResetFault (h : ReqHead) (index : Byte) (s : State) : Host.Outcome State Fault Refusal :=
  .next (requestArrives (indexRequest .resetFault h index 0) s)

/-- CLEAR_EXCEPTION (R174). -/
def execClearException (h : ReqHead) (index : Byte) (value : Value) (s : State) :
    Host.Outcome State Fault Refusal :=
  .next (requestArrives (indexRequest .clearException h index value) s)

/-- STORE (R177). -/
def execStore (h : ReqHead) (table : Byte) (s : State) : Host.Outcome State Fault Refusal :=
  .next (requestArrives (tableRequest .store h table) s)

/-- RESTORE (R178). -/
def execRestore (h : ReqHead) (table : Byte) (s : State) : Host.Outcome State Fault Refusal :=
  .next (requestArrives (tableRequest .restore h table) s)

/-- RESTART (R179). -/
def execRestart (h : ReqHead) (s : State) : Host.Outcome State Fault Refusal :=
  .next (requestArrives (tableRequest .restart h 0) s)

/-- A request kind that names no kind (R168, R181). -/
def execUnknownRequestKind (h : ReqHead) (kind : BitVec 4) (table index field : Byte) (value : Value) (s : State) :
    Host.Outcome State Fault Refusal :=
  .next (requestArrives ⟨h, kind, table, index, field, value⟩ s)

end Sys2Proof.Machine
end

