-- ==== Sys2Proof/Machine/SlotCommands.lean ====
section
/-! DEFINITION. The meanings of the group commands: each is a command slot (R11), answered by the group command decoding
(GroupCommands.lean). -/

namespace Sys2Proof.Machine

/-- SECURE_GROUP (R157). -/
def execSecureGroup (c : CommandSlot) (s : State) : Host.Outcome State Fault Refusal :=
  .next (commandArrives .secureGroup c s)

/-- RELEASE_GROUP (R157). -/
def execReleaseGroup (c : CommandSlot) (s : State) : Host.Outcome State Fault Refusal :=
  .next (commandArrives .releaseGroup c s)

/-- RESUME_SCHEDULE (R157). -/
def execResumeSchedule (c : CommandSlot) (s : State) : Host.Outcome State Fault Refusal :=
  .next (commandArrives .resumeSchedule c s)

/-- EXEMPT_RELEASED (R160). -/
def execExemptReleased (c : CommandSlot) (s : State) : Host.Outcome State Fault Refusal :=
  .next (commandArrives .exemptReleased c s)

/-- EXEMPT_SECURED (R160). -/
def execExemptSecured (c : CommandSlot) (s : State) : Host.Outcome State Fault Refusal :=
  .next (commandArrives .exemptSecured c s)

/-- END_EXEMPTION (R161). -/
def execEndExemption (c : CommandSlot) (s : State) : Host.Outcome State Fault Refusal :=
  .next (commandArrives .endExemption c s)

/-- START_PROGRAM (R158). -/
def execStartProgram (c : CommandSlot) (s : State) : Host.Outcome State Fault Refusal :=
  .next (commandArrives .startProgram c s)

/-- ABORT_RUN (R150). -/
def execAbortRun (c : CommandSlot) (s : State) : Host.Outcome State Fault Refusal := .next (commandArrives .abortRun c s)

/-- FIRE_RESTORE (R166, R167). -/
def execFireRestore (c : CommandSlot) (s : State) : Host.Outcome State Fault Refusal :=
  .next (commandArrives .fireRestore c s)

end Sys2Proof.Machine
end

