-- ==== Sys2Proof/Machine/SupplyCommands.lean ====
section
/-! DEFINITION. The meanings of the supply and reset commands. -/

namespace Sys2Proof.Machine

/-- POWER_ON (R15, R7, R175). RESET_N is taken as released by it, the model's choice (log 80). -/
def execPowerOn (strap : BitVec 5) (s : State) : Host.Outcome State Fault Refusal := .next (powerUp strap s)

/-- RESET_N_ASSERT (R15, R177). -/
def execResetNAssert (s : State) : Host.Outcome State Fault Refusal := .next (holdReset s)

/-- RESET_N_RELEASE (R7): the same effect as power-on. -/
def execResetNRelease (strap : BitVec 5) (s : State) : Host.Outcome State Fault Refusal := .next (powerUp strap s)

/-- TABLE_LOAD_COMPLETE (R175, R15, R113). -/
def execTableLoadComplete (s : State) : Host.Outcome State Fault Refusal := .next (completeLoad s)

/-- RESTART_BEGIN (R179): a restart that has been accepted begins. -/
def execRestartBegin (s : State) : Host.Outcome State Fault Refusal :=
  .next (whenRunning (fun s => if s.trunk.restartPending then beginRestart s else s) s)

end Sys2Proof.Machine
end

