-- ==== Sys2Proof/Machine/TimerCommands.lean ====
section
/-! DEFINITION. The meanings of the clock, fire input and timer commands. A timer's event is taken on the sender's word wherever the
state has that timer (log 7); elsewhere it changes nothing. -/

namespace Sys2Proof.Machine

/-- CLOCK_TICK (R18, R22). -/
def execClockTick (s : State) : Host.Outcome State Fault Refusal := .next (unlessHeld tickArrives s)

/-- FIRE_IN_CHANGE (R163, R164). -/
def execFireInChange (high : Bool) (s : State) : Host.Outcome State Fault Refusal := .next (pinChanges high s)

/-- FIRE_PERSISTENCE_EXPIRY (R164, R165). -/
def execFirePersistenceExpiry (s : State) : Host.Outcome State Fault Refusal := .next (runSegment persistenceEnd s)

/-- STORE_ENTRY_COMPLETE (R177). -/
def execStoreEntryComplete (s : State) : Host.Outcome State Fault Refusal := .next (whenRunning storeEntryDone s)

/-- FLASH_PHASE_FLIP (R45). -/
def execFlashPhaseFlip (s : State) : Host.Outcome State Fault Refusal :=
  .next (whenRunning (fun s => s.seg! (fun _ g => flipFlash g)) s)

/-- DWELL_TICK (R72). -/
def execDwellTick (d : DoorNo) (s : State) : Host.Outcome State Fault Refusal :=
  .next (runSegment (fun e g => dwellStep e d g) s)

/-- PROPPED_BEGINS (R80). -/
def execProppedBegins (d : DoorNo) (s : State) : Host.Outcome State Fault Refusal :=
  .next (runSegment (fun e g => proppedNow e d g) s)

/-- TIME_SINCE_CLOSE_TICK (R75, R82). -/
def execTimeSinceCloseTick (d : DoorNo) (s : State) : Host.Outcome State Fault Refusal :=
  .next (runSegment (fun e g => sinceStep e d g) s)

/-- WINDOW_EXPIRY (R76, R77). -/
def execWindowExpiry (s : State) : Host.Outcome State Fault Refusal := .next (runSegment windowEnd s)

/-- TAIL_EXPIRY (R95). -/
def execTailExpiry (d : DoorNo) (s : State) : Host.Outcome State Fault Refusal :=
  .next (runSegment (fun e g => tailEnd e d g) s)

/-- DEFERRAL_SECOND (R121). -/
def execDeferralSecond (d : DoorNo) (s : State) : Host.Outcome State Fault Refusal :=
  .next (runSegment (fun e g => deferralCount e d g) s)

/-- DEFERRAL_EXPIRY (R121). -/
def execDeferralExpiry (d : DoorNo) (s : State) : Host.Outcome State Fault Refusal :=
  .next (runSegment (fun e g => deferralExpires e d g) s)

/-- WARNING_EXPIRY (R122). -/
def execWarningExpiry (d : DoorNo) (s : State) : Host.Outcome State Fault Refusal :=
  .next (runSegment (fun e g => warningEnd e d g) s)

/-- RUN_TIMER_EXPIRY (R124). -/
def execRunTimerExpiry (d : DoorNo) (s : State) : Host.Outcome State Fault Refusal :=
  .next (runSegment (fun e g => runTimerEnd e d g) s)

/-- VERIFY_EXPIRY (R125). -/
def execVerifyExpiry (d : DoorNo) (s : State) : Host.Outcome State Fault Refusal :=
  .next (runSegment (fun e g => verifyFailed e d g) s)

/-- EXIT_SHUNT_EXPIRY (R126). -/
def execExitShuntExpiry (d : DoorNo) (s : State) : Host.Outcome State Fault Refusal :=
  .next (runSegment (fun e g => shuntEnd e d g) s)

/-- EXIT_WINDOW_EXPIRY (R127). -/
def execExitWindowExpiry (d : DoorNo) (s : State) : Host.Outcome State Fault Refusal :=
  .next (runSegment (fun e g => exitWindowEnd e d g) s)

/-- COOLING_EXPIRY (R129). -/
def execCoolingExpiry (d : DoorNo) (s : State) : Host.Outcome State Fault Refusal :=
  .next (runSegment (fun e g => coolingEnd e d g) s)

/-- STEP_OFFSET_SECOND (R141). -/
def execStepOffsetSecond (step : Nat) (s : State) : Host.Outcome State Fault Refusal :=
  .next (runSegment (fun e g => stepSecond e step g) s)

/-- STEP_START (R141, R142). -/
def execStepStart (step : Nat) (s : State) : Host.Outcome State Fault Refusal :=
  .next (runSegment (fun e g => stepDue e step g) s)

end Sys2Proof.Machine
end

