-- ==== Sys2Proof/Machine/Dispatch.lean ====
section
/-! DEFINITION. The dispatch: one arm per command. -/

namespace Sys2Proof.Machine

def exec (i : Instr) (s : State) : Host.Outcome State Fault Refusal :=
  match i with
  | .powerOn strap => Sys2Proof.Machine.execPowerOn strap s
  | .resetNAssert => Sys2Proof.Machine.execResetNAssert s
  | .resetNRelease strap => Sys2Proof.Machine.execResetNRelease strap s
  | .tableLoadComplete => Sys2Proof.Machine.execTableLoadComplete s
  | .frameStart => Sys2Proof.Machine.execFrameStart s
  | .frameTruncated cause => Sys2Proof.Machine.execFrameTruncated cause s
  | .frameEnd => Sys2Proof.Machine.execFrameEnd s
  | .headerRecord r => Sys2Proof.Machine.execHeaderRecord r s
  | .headerTimeout => Sys2Proof.Machine.execHeaderTimeout s
  | .slotRecord r => Sys2Proof.Machine.execSlotRecord r s
  | .statusSlot r => Sys2Proof.Machine.execStatusSlot r s
  | .read h table index field value => Sys2Proof.Machine.execRead h table index field value s
  | .write h table index field value => Sys2Proof.Machine.execWrite h table index field value s
  | .writeSlotmap h index field value => Sys2Proof.Machine.execWriteSlotmap h index field value s
  | .writeGroupmap h index field value => Sys2Proof.Machine.execWriteGroupmap h index field value s
  | .writeDoor h index field value => Sys2Proof.Machine.execWriteDoor h index field value s
  | .writeProfile h index field value => Sys2Proof.Machine.execWriteProfile h index field value s
  | .writeProgram h index field value => Sys2Proof.Machine.execWriteProgram h index field value s
  | .writeDayplan h index field value => Sys2Proof.Machine.execWriteDayplan h index field value s
  | .writeSegment h index field value => Sys2Proof.Machine.execWriteSegment h index field value s
  | .writePassageCounter h index field value => Sys2Proof.Machine.execWritePassageCounter h index field value s
  | .doorServiceOut h index => Sys2Proof.Machine.execDoorServiceOut h index s
  | .doorServiceReturn h index => Sys2Proof.Machine.execDoorServiceReturn h index s
  | .clearDoorEvents h index => Sys2Proof.Machine.execClearDoorEvents h index s
  | .resetFault h index => Sys2Proof.Machine.execResetFault h index s
  | .clearException h index value => Sys2Proof.Machine.execClearException h index value s
  | .store h table => Sys2Proof.Machine.execStore h table s
  | .storeEntryComplete => Sys2Proof.Machine.execStoreEntryComplete s
  | .restore h table => Sys2Proof.Machine.execRestore h table s
  | .restart h => Sys2Proof.Machine.execRestart h s
  | .restartBegin => Sys2Proof.Machine.execRestartBegin s
  | .secureGroup c => Sys2Proof.Machine.execSecureGroup c s
  | .releaseGroup c => Sys2Proof.Machine.execReleaseGroup c s
  | .resumeSchedule c => Sys2Proof.Machine.execResumeSchedule c s
  | .exemptReleased c => Sys2Proof.Machine.execExemptReleased c s
  | .exemptSecured c => Sys2Proof.Machine.execExemptSecured c s
  | .endExemption c => Sys2Proof.Machine.execEndExemption c s
  | .startProgram c => Sys2Proof.Machine.execStartProgram c s
  | .abortRun c => Sys2Proof.Machine.execAbortRun c s
  | .fireRestore c => Sys2Proof.Machine.execFireRestore c s
  | .clockTick => Sys2Proof.Machine.execClockTick s
  | .fireInChange high => Sys2Proof.Machine.execFireInChange high s
  | .firePersistenceExpiry => Sys2Proof.Machine.execFirePersistenceExpiry s
  | .branchSlotStart b => Sys2Proof.Machine.execBranchSlotStart b s
  | .replyWindowEnd b received => Sys2Proof.Machine.execReplyWindowEnd b received s
  | .lineFault b => Sys2Proof.Machine.execLineFault b s
  | .lineNormal b => Sys2Proof.Machine.execLineNormal b s
  | .flashPhaseFlip => Sys2Proof.Machine.execFlashPhaseFlip s
  | .dwellTick d => Sys2Proof.Machine.execDwellTick d s
  | .proppedBegins d => Sys2Proof.Machine.execProppedBegins d s
  | .timeSinceCloseTick d => Sys2Proof.Machine.execTimeSinceCloseTick d s
  | .windowExpiry => Sys2Proof.Machine.execWindowExpiry s
  | .tailExpiry d => Sys2Proof.Machine.execTailExpiry d s
  | .deferralSecond d => Sys2Proof.Machine.execDeferralSecond d s
  | .deferralExpiry d => Sys2Proof.Machine.execDeferralExpiry d s
  | .warningExpiry d => Sys2Proof.Machine.execWarningExpiry d s
  | .runTimerExpiry d => Sys2Proof.Machine.execRunTimerExpiry d s
  | .verifyExpiry d => Sys2Proof.Machine.execVerifyExpiry d s
  | .exitShuntExpiry d => Sys2Proof.Machine.execExitShuntExpiry d s
  | .exitWindowExpiry d => Sys2Proof.Machine.execExitWindowExpiry d s
  | .coolingExpiry d => Sys2Proof.Machine.execCoolingExpiry d s
  | .stepOffsetSecond step => Sys2Proof.Machine.execStepOffsetSecond step s
  | .stepStart step => Sys2Proof.Machine.execStepStart step s
  | .unknownRequestKind h kind table index field value => Sys2Proof.Machine.execUnknownRequestKind h kind table index field value s

end Sys2Proof.Machine
end

