-- ==== Sys2Proof/Machine/Step.lean ====
section
/-! DEFINITION. One step: the command at the front of the queue, or a millisecond of time on an empty queue. -/

namespace Sys2Proof.Machine

/-- Take the command at the front of the queue and run it with the queue's rest; on an empty queue one millisecond passes
(log 5). -/
def step (s : State) : Host.Outcome State Fault Refusal :=
  match s.pending with
  | [] => .next (elapse s)
  | c :: rest => exec c { s with pending := rest }

/-- A command put at the front of the queue. -/
def State.push (s : State) (c : Instr) : State := { s with pending := c :: s.pending }

/-- The state with the command a word spells at the front of its queue. The opcode table gives no row any bits, so no word
spells one. -/
def State.withFetchWord (s : State) (nbits w : Nat) : State :=
  match decodeTableWord nbits w with
  | some c => s.push c
  | none => s

end Sys2Proof.Machine
end

