-- ==== Sys2Proof/Safety.lean ====
section
/-! DEFINITION. Predicates on states: the invariants the rules give the part, and the readiness conditions under which a command
that arrives in a slot is acted on. -/

namespace Sys2Proof.Machine

/-! ## Collections of the segment -/

/-- The exception list's bounds (R173): at most 32 entries, at most one per door and kind. -/
def Listed (xs : List ExceptionEntry) : Prop :=
  xs.length ≤ Config.maxExceptions ∧ (xs.map (fun x => (x.door, x.kind))).Nodup

/-- The exemption table's bounds (R159): at most 16 entries, at most one per local group; the model keeps them in ascending
group (log 46). -/
def ExemptionsOk (xs : List Exemption) : Prop :=
  xs.length ≤ Config.maxExemptions ∧ xs.Pairwise (fun a b => a.group < b.group)

/-- The run queue's bounds (R139): at most 4 programs, none twice, none the active run's; without an active run it is empty. -/
structure RunQueueOk (q : Sequencer) : Prop where
  atMostFour : q.queue.length ≤ Config.maxRunQueue
  noneTwice : q.queue.Nodup
  notActive : ∀ r, q.run = some r → r.program ∉ q.queue
  idle : q.run = none → q.queue = []

/-- The actuation queue stands in the order of R87. -/
def InRankOrder (xs : List QueueEntry) : Prop := xs.Pairwise (fun a b => a.before b = true)

/-- The bounded collections of the segment stand as R87, R139, R159 and R173 give. -/
structure SegmentOk (g : Segment) : Prop where
  exceptions : Listed g.exceptions
  exemptions : ExemptionsOk g.exemptions
  runQueue : RunQueueOk g.seqr
  actuation : InRankOrder g.queue

/-- R87: a door is in the actuation queue exactly when its state is AWAIT_GRANT, and never more than once. -/
structure QueueOk (g : Segment) : Prop where
  awaits : ∀ d, (∃ q ∈ g.queue, q.door = d) ↔ (g.door d).eng.state = .awaitGrant
  once : (g.queue.map (fun q => q.door)).Nodup

/-! ## Trunk port and clock -/

/-- The next slot awaited is at most 64 (R1). -/
def FramePhase.ok : FramePhase → Prop
  | .slots n => n ≤ 64
  | _ => True

/-- The trunk port's quantities (R4, R7, R1): count 0..3, time since the last valid header 0..2,000 ms, an address 1..24 or none;
without INSERT no frame is under way (R15). -/
structure PortOk (p : TrunkPort) : Prop where
  count : p.count ≤ 3
  sinceHeader : p.sinceHeader ≤ Config.headerTimeoutMs
  address : ∀ a, p.address = some a → 1 ≤ a ∧ a ≤ 24
  phase : p.phase.ok
  idle : p.inserted = false → p.phase = .outside

/-- The segment clock (R16): the second of day lies below 86,400, the phase below 1,000 ms, the day types in 0..7. -/
structure ClockOk (c : Clock) : Prop where
  second : ∀ t, c.second = some t → t < Config.daySeconds
  phase : c.phase < 1000
  today : c.today ≤ 7
  tomorrow : c.tomorrow ≤ 7
  yesterday : c.yesterday ≤ 7

/-- The trunk port and the clock agree (R16): the clock is known exactly while the trunk state is TRACKING or HOLDOVER; INSERT
is asserted exactly while the controller runs or reloads (R15). -/
structure TimeOk (s : State) : Prop where
  port : PortOk s.trunk
  clock : ClockOk s.clock
  known : s.clock.second.isSome = true ↔ s.trunk.state ≠ .noTime
  insert : s.trunk.inserted = true ↔ s.power = .running ∨ s.power = .reloading

/-! ## When a command in a slot is acted on -/

/-- The trunk port is in a frame with a valid header whose slots are acted on (R3, R6, R7). -/
structure InFrame (s : State) : Prop where
  running : s.power = .running
  inserted : s.trunk.inserted = true
  header : s.trunk.headerValid = true
  address : s.trunk.address.isSome = true

/-- Slot 0 is awaited in such a frame, and the request is addressed to this controller (R10). -/
structure Addressed (h : ReqHead) (s : State) : Prop where
  frame : InFrame s
  slot : s.trunk.phase = .slots 0
  target : s.trunk.address = some h.target.toNat

/-- A slot of the given route is awaited in such a frame, outside LISTEN (R8, R9). -/
structure Awaits (role : Role) (s : State) : Prop where
  frame : InFrame s
  listen : listening s.trunk.address s.work = false
  slot : ∃ n, 1 ≤ n ∧ n < 64 ∧ s.trunk.phase = .slots n ∧ slotRole s.work n = some role

/-- A command for a site group that the segment knows, in a command slot (R11). -/
structure Commanded (c : CommandSlot) (sc : Scope) (s : State) : Prop where
  awaits : Awaits .command s
  scope : scopeOf s.work c.siteGroup.toNat = some sc

/-- A running controller hears the good reply record r in the slot of drop k on branch b (R54). -/
structure GoodReply (b : BranchNo) (k : DropNo) (r : BranchRecord) (s : State) : Prop where
  running : s.power = .running
  visiting : (s.seg.branch b).visiting = some k
  clean : (s.seg.branch b).spoiled = false
  line : (s.seg.branch b).lineFault = false
  passes : branchPasses r = true
  echo : (replyOf r).echo = BitVec.ofNat 4 k.val

/-- Such a reply from the PRESENT drop of a fitted door, whose first reply has been seen and whose reference is SET: what has changed
gives terminal events (R58, R59). -/
structure Heard (b : BranchNo) (k : DropNo) (r : BranchRecord) (s : State) : Prop where
  good : GoodReply b k r s
  fitted : s.env.fitted (doorAt b k) = true
  present : (s.seg.door (doorAt b k)).drop.lost = false
  seen : (s.seg.door (doorAt b k)).drop.firstReply = true
  reference : (s.seg.door (doorAt b k)).drop.reference = true
  stays : (s.seg.door (doorAt b k)).drop.leaving = .no

/-- Such a reply at a door that stands in no queue. -/
structure HeardAgain (b : BranchNo) (k : DropNo) (r : BranchRecord) (s : State) : Prop extends Heard b k r s where
  unqueued : ∀ q ∈ s.seg.queue, q.door ≠ doorAt b k

/-- The reply's drive current lies within the limits of the profile, so that no supervision fault arises from it (R101, R102). -/
def SoundCurrent (p : ProfileEntry) (r : BranchRecord) : Prop :=
  p.underLimit ≤ (replyOf r).current ∧ (replyOf r).current ≤ p.overLimit

/-- What stands on TRUNK_OUT and in the trunk port after a slot goes on as record `r` (R2). -/
structure Forwards (s t : State) (r : TrunkRecord) : Prop where
  held : t.trunk.held = some r
  out : t.trunk.out = heldSymbols s.trunk.held

/-- The state and its successor differ in the trunk port at most. -/
structure OnlyTrunk (s t : State) : Prop where
  power : t.power = s.power
  clock : t.clock = s.clock
  work : t.work = s.work
  stored : t.stored = s.stored
  store : t.store = s.store
  seg : t.seg = s.seg

/-- The tables, their stored copies and the store state are unchanged. -/
structure KeepsTables (s t : State) : Prop where
  work : t.work = s.work
  stored : t.stored = s.stored
  store : t.store = s.store

/-- One change of a door: every other door is as before. -/
def OnlyDoor (d : DoorNo) (g h : Segment) : Prop := ∀ j, j ≠ d → h.door j = g.door j

/-- What no command of a door, a run or the arbiter changes: the exemption table, the fire release unit, the branches, the window
clock and the flash phase. -/
structure KeepsSides (g h : Segment) : Prop where
  exemptions : h.exemptions = g.exemptions
  fire : h.fire = g.fire
  branches : h.branches = g.branches
  window : h.window = g.window
  flash : h.flash = g.flash

/-- The load is under way in the segment a reset leaves, apart from what headers and start requests may have changed meanwhile. -/
structure FreshLoad (s : State) : Prop where
  loading : s.power = .loading ∨ s.power = .reloading
  doors : ∃ p, ∀ d, s.seg.door d = Door.initial p
  queue : s.seg.queue = []
  learning : s.seg.learning = true
  initial : s.seg.initialDone = false
  run : s.seg.seqr.run = none

/-- The table is not under a store write (R177). -/
def Unstored (t : TableName) (s : State) : Prop := ∀ x, s.store.writing = some x → x.1 ≠ t

/-- The slot awaited goes on with record r in it; nothing else changes (R2). -/
def passing (r : TrunkRecord) (s : State) : State := { s with trunk := s.trunk.accept r }

/-- The response record of a request at this controller (R10). -/
def replyTo (q : Request) (res : Result) (v : Nat) (s : State) : TrunkRecord :=
  responseRecord s.addressNo q res (toValue v)

/-- The programs of today's day-plan entries of minute m whose fired marks are clear, in plan order (R27). -/
def duePrograms (m : Nat) (s : State) : List (Fin 8) :=
  (List.range 6).filterMap (fun i =>
    match s.env.planEntry s.clock.today i with
    | some y => if y.minute = m ∧ s.clock.fired[6 * s.clock.today + i]? = some false then some y.program else none
    | none => none)

/-! ## Groups of commands -/

end Sys2Proof.Machine

namespace Sys2Proof

open Sys2Proof.Machine

/-- The request a management command carries; none for every other command. -/
def Instr.asRequest : Instr → Option Request
  | .read h t i f v => some (fullRequest .read h t i f v)
  | .write h t i f v => some (fullRequest .write h t i f v)
  | .writeSegment h i f v => some (fullRequest .write h 0 i f v)
  | .writeSlotmap h i f v => some (fullRequest .write h 1 i f v)
  | .writeGroupmap h i f v => some (fullRequest .write h 2 i f v)
  | .writeDoor h i f v => some (fullRequest .write h 3 i f v)
  | .writeProfile h i f v => some (fullRequest .write h 4 i f v)
  | .writeProgram h i f v => some (fullRequest .write h 5 i f v)
  | .writeDayplan h i f v => some (fullRequest .write h 6 i f v)
  | .writePassageCounter h i f v => some (fullRequest .write h 7 i f v)
  | .doorServiceOut h i => some (indexRequest .doorService h i 0)
  | .doorServiceReturn h i => some (indexRequest .doorService h i 1)
  | .clearDoorEvents h i => some (indexRequest .clearDoorEvents h i 0)
  | .resetFault h i => some (indexRequest .resetFault h i 0)
  | .clearException h i v => some (indexRequest .clearException h i v)
  | .store h t => some (tableRequest .store h t)
  | .restore h t => some (tableRequest .restore h t)
  | .restart h => some (tableRequest .restart h 0)
  | .unknownRequestKind h k t i f v => some ⟨h, k, t, i, f, v⟩
  | _ => none

/-- The group command a command slot carries; none for every other command. -/
def Instr.asCommand : Instr → Option (CommandCode × CommandSlot)
  | .secureGroup c => some (.secureGroup, c)
  | .releaseGroup c => some (.releaseGroup, c)
  | .resumeSchedule c => some (.resumeSchedule, c)
  | .exemptReleased c => some (.exemptReleased, c)
  | .exemptSecured c => some (.exemptSecured, c)
  | .endExemption c => some (.endExemption, c)
  | .startProgram c => some (.startProgram, c)
  | .abortRun c => some (.abortRun, c)
  | .fireRestore c => some (.fireRestore, c)
  | _ => none

/-- A complete record as such on TRUNK_IN. -/
def Instr.asRecord : Instr → Option TrunkRecord
  | .headerRecord r => some r
  | .slotRecord r => some r
  | .statusSlot r => some r
  | _ => none

/-- Frame marks on TRUNK_IN. -/
def Instr.isMark : Instr → Bool
  | .frameStart | .frameTruncated _ | .frameEnd => true
  | _ => false

/-- Everything that arrives on TRUNK_IN. -/
def Instr.onTrunk (c : Instr) : Bool :=
  c.isMark || c.asRecord.isSome || c.asRequest.isSome || c.asCommand.isSome

/-- Events of timers, branches and the fire input's persistence that only a running controller has. -/
def Instr.needsRunning : Instr → Bool
  | .restartBegin | .storeEntryComplete | .firePersistenceExpiry | .branchSlotStart _ | .replyWindowEnd _ _ | .flashPhaseFlip
  | .dwellTick _ | .proppedBegins _ | .timeSinceCloseTick _ | .windowExpiry | .tailExpiry _ | .deferralSecond _
  | .deferralExpiry _ | .warningExpiry _ | .runTimerExpiry _ | .verifyExpiry _ | .exitShuntExpiry _ | .exitWindowExpiry _
  | .coolingExpiry _ | .stepOffsetSecond _ | .stepStart _ => true
  | _ => false

end Sys2Proof
end

