-- ==== Sys2Proof/Certificates/Slice0/Obligations.lean ====
section
/-! DEFINITION. The statements about the part, for the provers. Each follows the rules of spec/ it names. Where a statement rests on
a choice of the model, its docstring names the log entry. -/

open Sys2Proof Sys2Proof.Machine

/-! ## The whole -/

/-- What power-on leaves before the load has ended (R6, R16, R55, R67, R84, R99, R110, R137, R159, R163, R173, R175). The model's
choices among it: no strap (log 1), erased tables (log 2), FIRE_IN high (log 3). -/
def Obligations.ResetState : Prop :=
  State.reset.pending = [] ∧ State.reset.power = .loading ∧ State.reset.fireInHigh = true
  ∧ (State.reset.trunk.inserted = false ∧ State.reset.trunk.address = none ∧ State.reset.trunk.state = .noTime
      ∧ State.reset.trunk.count = 0 ∧ State.reset.trunk.sinceHeader = 0 ∧ State.reset.trunk.phase = .outside)
  ∧ (State.reset.clock.second = none ∧ State.reset.clock.phase = 0 ∧ State.reset.clock.today = 7
      ∧ State.reset.clock.tomorrow = 7 ∧ State.reset.clock.yesterday = 7 ∧ State.reset.clock.lastSite = .normal
      ∧ ∀ i : Fin 48, State.reset.clock.fired[i] = false)
  ∧ (State.reset.work = loadTables State.reset.stored ∧ State.reset.store.writing = none
      ∧ State.reset.work.segment.value = ⟨1000, 30, false, ⟨32, 600, .force, 15⟩⟩)
  ∧ (∀ d, (State.reset.seg.door d).eng = Engine.initial ⟨32, 600, .force, 15⟩
      ∧ (State.reset.seg.door d).drop = Drop.initial ∧ (State.reset.seg.door d).inputs = Inputs.unknown
      ∧ (State.reset.seg.door d).mon = Monitor.initial ∧ (State.reset.seg.door d).charge = ⟨0, .none, 0, 0⟩
      ∧ (State.reset.seg.door d).sup = ⟨0, 0⟩)
  ∧ (∀ b, (State.reset.seg.branch b).lineFault = false)
  ∧ (State.reset.seg.learning = true ∧ State.reset.seg.initialDone = false ∧ State.reset.seg.queue = []
      ∧ State.reset.seg.exceptions = [] ∧ State.reset.seg.exemptions = []
      ∧ State.reset.seg.fire = ⟨false, none, false, 0, false⟩ ∧ State.reset.seg.seqr = ⟨none, [], none, none, 0⟩)

/-- The invariants hold at reset (R87, R139, R159, R173, R16, R4). -/
def Obligations.ResetMeetsInvariants : Prop :=
  SegmentOk State.reset.seg ∧ QueueOk State.reset.seg ∧ TimeOk State.reset

/-- A step takes the command at the front of the queue and runs it with the queue's rest (the model's queue, log 8). -/
def Obligations.StepTakesFrontCommand : Prop :=
  ∀ (c : Instr) (rest : List Instr) (s : State), s.pending = c :: rest → step s = exec c { s with pending := rest }

/-- Every command answers a next state, in every state, and leaves the queue of waiting commands alone. The queue is the model's own
(log 8). That no command stops the part is read from the rules as a whole: a request that is not carried out is answered with a
result all the same (R168), and every other command has an effect or none. -/
def Obligations.EveryCommandCompletes : Prop :=
  ∀ (c : Instr) (s : State), ∃ t, exec c s = .next t ∧ t.pending = s.pending

/-- The bounded collections stay as R87, R139, R159 and R173 give, through every step. That the exemption table stands in ascending
group is the model's choice (log 46). -/
def Obligations.CollectionsStayBounded : Prop :=
  ∀ s t : State, SegmentOk s.seg → step s = .next t → SegmentOk t.seg

/-- R87: a door is in the actuation queue exactly when its state is AWAIT_GRANT, and never more than once, through every step. -/
def Obligations.QueueHoldsAwaitGrant : Prop :=
  ∀ s t : State, QueueOk s.seg → step s = .next t → QueueOk t.seg

/-- R16, R4, R15: the clock is known exactly while the trunk state is not NO_TIME, every quantity of clock and trunk port stays in
its range, and INSERT is asserted exactly while the controller runs or reloads, through every step. -/
def Obligations.TimeStaysKnown : Prop :=
  ∀ s t : State, TimeOk s → step s = .next t → TimeOk t

/-- 12.2, 12.3, R180: what is put into a request, a command slot, a reply or a branch command is read from it again; the bytes of a
response; the bits an acknowledgment adds to a command slot and those it keeps; and each record the part writes (the response, the
acknowledged slot, the segment report, the branch command) passes its check. StatusSlotReport states the bytes of the report. The check
is R180's, bit by bit: the register from all ones, each byte from bit 7 down, the pattern 01001101. -/
def Obligations.RecordFieldsSurvive : Prop :=
  (∀ q : Request, requestOf (requestRecord q) = q ∧ trunkPasses (requestRecord q) = true ∧ isResponse (requestRecord q) = false)
  ∧ (∀ (code : Byte) (c : CommandSlot), commandOf (commandRecord code c) = c ∧ (commandRecord code c).b0 = code
      ∧ trunkPasses (commandRecord code c) = true)
  ∧ (∀ (a : Nat) (q : Request) (res : Result) (v : Value),
      let r := responseRecord a q res v
      isResponse r = true ∧ trunkPasses r = true ∧ (a ≤ 24 → r.b0.toNat = 128 + a)
      ∧ r.b1.toNat = 16 * q.head.tag.toNat + q.kind.toNat ∧ r.b2 = res.code ∧ r.b3 = q.table ∧ r.b4 = q.index
      ∧ 256 * r.b5.toNat + r.b6.toNat = v.toNat)
  ∧ (∀ (a : Nat) (r : TrunkRecord), trunkPasses (acknowledge a r) = true ∧ (acknowledge a r).b0 = r.b0
      ∧ (acknowledge a r).b1 = r.b1 ∧ (acknowledge a r).b2 = r.b2 ∧ (acknowledge a r).b3 = r.b3
      ∧ (commandOf (acknowledge a r)).mask = (commandOf r).mask ||| 1#24 <<< (a - 1))
  ∧ (∀ s : State, trunkPasses (segmentReport s) = true)
  ∧ (∀ x : Reply, x.current < 256 → replyOf (replyRecord x) = x ∧ branchPasses (replyRecord x) = true)
  ∧ (∀ (k : DropNo) (seq kind : BitVec 2) (apply : Bool) (dirs levels : BitVec 6) (run : Nat), run < 64 →
      branchCommandOf (branchCommand k seq kind apply dirs levels run)
        = ⟨BitVec.ofNat 4 k.val, seq, kind, apply, dirs, levels, BitVec.ofNat 6 run⟩
      ∧ branchPasses (branchCommand k seq kind apply dirs levels run) = true)
  ∧ (let feed (reg : Byte) (bit : Bool) : Byte := if reg.getLsbD 7 = bit then reg <<< 1 else (reg <<< 1) ^^^ 0b01001101#8
    let check (bytes : List Byte) : Byte := (bytes.flatMap (fun b => [b.getLsbD 7, b.getLsbD 6, b.getLsbD 5, b.getLsbD 4,
      b.getLsbD 3, b.getLsbD 2, b.getLsbD 1, b.getLsbD 0])).foldl feed 0b11111111#8
    (∀ r : TrunkRecord, trunkPasses r = true ↔ r.b7 = check [r.b0, r.b1, r.b2, r.b3, r.b4, r.b5, r.b6])
    ∧ (∀ r : BranchRecord, branchPasses r = true ↔ r.b4 = check [r.b0, r.b1, r.b2, r.b3]))

/-! ## Supply, RESET_N, RESTART -/

/-- POWER_ON and RESET_N_RELEASE (R6, R7, R15, R16, R175, R177), and RESET_N_ASSERT (R15, R177): INSERT deasserted, the trunk port, the
clock and the segment at their power-on values, the strap read at the first two alone, a store write abandoned. While RESET_N is held the
working tables stand until the release reloads them (log 42). That a POWER_ON while RESET_N is held takes it as released, so that the load
begins, is the model's choice, and so is that a RESET_N_RELEASE without an assertion acts as any other (log 80). -/
def Obligations.SupplyResets : Prop :=
  ∀ (c : Instr) (strap : BitVec 5) (s : State),
    c = .powerOn strap ∨ c = .resetNRelease strap ∨ c = .resetNAssert →
    ∃ t, exec c s = .next t
      ∧ t.power = (if c = .resetNAssert then .resetHeld else .loading)
      ∧ t.trunk = { inserted := false, phase := .outside, headerValid := false, held := none, out := [], state := .noTime
                    count := 0, sinceHeader := 0, restartPending := false
                    address := if c = .resetNAssert then s.trunk.address
                      else if 1 ≤ strap.toNat ∧ strap.toNat ≤ 24 then some strap.toNat else none }
      ∧ t.clock = ⟨none, 0, false, 7, 7, 7, .replicate 48 false, .normal⟩
      ∧ t.work = (if c = .resetNAssert then s.work else loadTables t.stored)
      ∧ t.seg = Segment.initial t.work.segment.value t.seg.free
      ∧ t.store.writing = none ∧ t.pending = s.pending ∧ t.fireInHigh = s.fireInHigh
      ∧ (s.store.writing = none → t.stored = s.stored)
      ∧ (∀ tb i, s.store.writing = some (tb, i) →
          t.stored = s.stored ∨ t.stored = s.stored.writeEntry s.work tb i ∨ t.stored = s.stored.spoilEntry tb i)

/-- TABLE_LOAD_COMPLETE (R15, R45, R76, R98, R113): INSERT is asserted, every door takes its entry state, the pollers begin at the
lowest fitted drop, the window clock and the flash phase start, and learning ends at once with no fitted door. A door's service mark
is IN_SERVICE then. FIRE_IN is judged by the loaded polarity (R163, R164), and the exceptions that have waited are listed: a STORE_DEFECT
for each defective entry (R175), then a RUN_DROPPED for each start request dropped as NOT_LOADED (R137; their order is log 15). That
TABLE_LOAD_COMPLETE without a load under way changes nothing, RESET_N held included, is the model's choice (logs 7 and 80). -/
def Obligations.LoadCompletes : Prop :=
  ∀ s : State,
    (FreshLoad s → ∃ t, exec .tableLoadComplete s = .next t
      ∧ t.power = .running ∧ t.trunk = { s.trunk with inserted := true } ∧ t.clock = s.clock ∧ KeepsTables s t
      ∧ (∀ d : DoorNo, (t.seg.door d).eng.state =
          if s.work.door[d].defective || !s.work.door[d].value.fitted then .absent
          else if s.work.profile[s.work.door[d].value.profile].defective then .outOfService else .holding)
      ∧ (∀ d : DoorNo, (t.seg.door d).eng.target = none ∧ (t.seg.door d).eng.drive = false)
      ∧ (t.seg.learning = true ↔ ∃ d, t.env.fitted d = true)
      ∧ (∀ b : BranchNo, (t.seg.branch b).visiting = none
          ∧ (t.seg.branch b).next = allDrops.find? (fun k => t.env.fitted (doorAt b k)))
      ∧ t.seg.window = ⟨s.work.segment.value.windowLength, 0⟩ ∧ t.seg.flash.on = false
      ∧ (let active := s.fireInHigh == s.work.segment.value.fireActiveHigh
        t.seg.fire = { s.seg.fire with
          reading := active, persistence := if active = s.seg.fire.reading then s.seg.fire.persistence else 0 })
      ∧ (s.seg.exceptions = [] →
        let w := s.work
        let m := s.clock.minute
        let defects := (if w.segment.defective then 1 else 0) + w.slotmap.toList.countP (fun x => x.defective)
          + w.groupmap.toList.countP (fun x => x.defective) + w.door.toList.countP (fun x => x.defective)
          + w.profile.toList.countP (fun x => x.defective) + w.program.toList.countP (fun x => x.defective)
          + w.dayplan.toList.countP (fun x => x.defective)
        let listed (k : Kind) (n : Nat) : List ExceptionEntry := if n = 0 then [] else [⟨none, k, none, m, m, min 255 n⟩]
        t.seg.exceptions = listed .storeDefect defects ++ listed .runDropped s.seg.seqr.unlistedDrops))
    ∧ (s.power = .running ∨ s.power = .resetHeld → exec .tableLoadComplete s = .next s)

/-- RESTART and RESTART_BEGIN (R179): STORE_BUSY while a store write is in progress; otherwise DONE, with a response value that no
rule gives (log 40), and the restart is pending. At its begin the clock, its day types and fired marks, the trunk port and the
address are kept, the tables are reloaded and the segment starts anew; the last site command is NORMAL (R16). That RESTART_BEGIN with no
RESTART answered DONE changes nothing is the model's choice (logs 7 and 80). -/
def Obligations.RestartKeepsClockAndTrunk : Prop :=
  ∀ s : State,
    (∀ (h : ReqHead), Addressed h s → s.store.writing.isSome = true →
      exec (.restart h) s = .next (passing (replyTo (tableRequest .restart h 0) .storeBusy 0 s) s))
    ∧ (∀ (h : ReqHead), Addressed h s → s.store.writing = none →
      ∃ (t : State) (v : Value), exec (.restart h) s = .next t
        ∧ t.trunk = { s.trunk.accept (responseRecord s.addressNo (tableRequest .restart h 0) .done v) with
                      restartPending := true }
        ∧ t.power = s.power ∧ t.clock = s.clock ∧ KeepsTables s t ∧ t.seg = { s.seg with free := t.seg.free })
    ∧ (s.power = .running → s.trunk.restartPending = true →
      ∃ t, exec .restartBegin s = .next t
        ∧ t.power = .reloading ∧ t.trunk = { s.trunk with restartPending := false }
        ∧ t.clock = { s.clock with lastSite := .normal } ∧ t.work = loadTables t.stored
        ∧ t.seg = Segment.initial t.work.segment.value t.seg.free ∧ t.store.writing = none
        ∧ (s.store.writing = none → t.stored = s.stored))
    ∧ (s.power = .running → s.trunk.restartPending = false → exec .restartBegin s = .next s)

/-- Without INSERT the trunk port receives nothing (R15). The events of the timers, the branches, the store and the restart change
nothing while the controller does not run: the flash phase, the pollers, the window clock and the fire release unit start at the end
of the load (R45, R50, R76, R163); that an event given at another time has no effect is the model's choice (log 7). -/
def Obligations.NothingWithoutInsertOrRunning : Prop :=
  ∀ (c : Instr) (s : State),
    (c.onTrunk = true → s.trunk.inserted = false → exec c s = .next s)
    ∧ (c.needsRunning = true → s.power ≠ .running → exec c s = .next s)

/-! ## Frames, headers, slots -/

/-- FRAME_START, FRAME_TRUNCATED, FRAME_END (R1, R2, R3): a frame begins; it ends complete or truncated with the record held and an
end marker; before its header is complete it counts as a frame with an invalid header. What TRUNK_OUT shows of one event is the
model's (log 12). -/
def Obligations.FrameEvents : Prop :=
  ∀ s : State, s.trunk.inserted = true →
    let closing := (if s.trunk.phase = .awaitHeader then [TrunkSymbol.startMarker] else [])
      ++ heldSymbols s.trunk.held ++ [.endMarker]
    let count := if s.trunk.phase = .awaitHeader then 0 else s.trunk.count
    exec .frameStart s = .next { s with trunk := { s.trunk with
        phase := .awaitHeader, headerValid := false, held := none, count := count
        out := if s.trunk.phase = .outside then [] else closing } }
    ∧ (∀ c, c = .frameEnd ∨ (∃ x, x ≠ .newStart ∧ c = .frameTruncated x) →
        exec c s = .next (if s.trunk.phase = .outside then s else { s with trunk := { s.trunk with
          phase := .outside, headerValid := false, held := none, count := count, out := closing } }))
    ∧ exec (.frameTruncated .newStart) s = (if s.trunk.phase = .outside then .next s else exec .frameStart s)

/-- HEADER_RECORD with an invalid header (R3), and HEADER_TIMEOUT (R4), by command (log 7) or by the model's millisecond (log 5). A
timeout given right behind a valid header finds the timer restarted and does not happen (R5, header taken first; log 47). Any complete
record is the header where one is awaited (log 11). -/
def Obligations.InvalidHeaderAndTimeout : Prop :=
  ∀ s : State,
    (∀ c r, c.asRecord = some r → s.trunk.inserted = true → s.trunk.phase = .awaitHeader → headerIsValid r = false →
      exec c s = .next { s with trunk := { s.trunk with
        count := 0, phase := .slots 0, headerValid := false, held := some r, out := [.startMarker] } })
    ∧ (s.power ≠ .resetHeld → s.trunk.sinceHeader = 0 → exec .headerTimeout s = .next s)
    ∧ (s.power ≠ .resetHeld → s.trunk.sinceHeader ≠ 0 → exec .headerTimeout s = .next { s with trunk := { s.trunk with
        sinceHeader := 2000
        state := if s.trunk.state = .tracking then .holdover else s.trunk.state
        count := if s.trunk.state = .tracking then 0 else s.trunk.count } })
    ∧ (s.power = .resetHeld → exec .headerTimeout s = .next s)
    ∧ (s.pending = [] → s.power ≠ .resetHeld → s.trunk.sinceHeader ≤ 2000 → ∃ t, step s = .next t
      ∧ t.trunk = { s.trunk with
          sinceHeader := min 2000 (s.trunk.sinceHeader + 1)
          state := if s.trunk.sinceHeader = 1999 ∧ s.trunk.state = .tracking then .holdover else s.trunk.state
          count := if s.trunk.sinceHeader = 1999 ∧ s.trunk.state = .tracking then 0 else s.trunk.count })

/-- HEADER_RECORD with a valid header (R3, R4, R25, R164): the count and the trunk state, the timer, the last site command in
TRACKING alone, the last header emergency in every trunk state, and the fire latch at EMERGENCY_RELEASE. -/
def Obligations.ValidHeader : Prop :=
  ∀ (c : Instr) (r : TrunkRecord) (s : State), c.asRecord = some r → s.trunk.inserted = true →
    s.trunk.phase = .awaitHeader → headerIsValid r = true →
    ∃ t, exec c s = .next t
      ∧ t.trunk = { s.trunk with
          phase := .slots 0, headerValid := true, held := some r, out := [.startMarker], sinceHeader := 0
          count := min 3 (s.trunk.count + 1)
          state := if s.trunk.state = .tracking ∨ 3 ≤ s.trunk.count + 1 then .tracking else s.trunk.state }
      ∧ (t.trunk.state ≠ .tracking → t.clock = s.clock)
      ∧ (t.trunk.state = .tracking → t.clock.lastSite = siteOfCode r.b6)
      ∧ t.seg.fire.lastEmergency = (siteOfCode r.b6 == .emergencyRelease)
      ∧ t.seg.fire.latch = (s.seg.fire.latch || siteOfCode r.b6 == .emergencyRelease)
      ∧ t.seg.fire.cause = (if !s.seg.fire.latch && siteOfCode r.b6 == .emergencyRelease then some .header
          else s.seg.fire.cause)
      ∧ t.power = s.power ∧ KeepsTables s t

/-- A complete record that the controller does not act on (R1, R2, R6, R7, R8, R9), a command slot whose record carries NONE or a code
above 9 among them (R11, R156, R181): the record held goes out, the record is held and goes on unchanged, and nothing else changes. After
slot 63 the frame ends, where the model sends an end marker (log 74); outside a frame the record is disregarded. -/
def Obligations.UnactedSlotForwarded : Prop :=
  ∀ (c : Instr) (r : TrunkRecord) (s : State), c.asRecord = some r → s.trunk.inserted = true →
    (∀ n, s.trunk.phase = .slots n → n < 64 →
      s.power ≠ .running ∨ s.trunk.headerValid = false ∨ s.trunk.address = none ∨ trunkPasses r = false
        ∨ (1 ≤ n ∧ (listening s.trunk.address s.work = true ∨ slotRole s.work n = none))
        ∨ (1 ≤ n ∧ slotRole s.work n = some .command ∧ (r.b0 = 0 ∨ 9 < r.b0.toNat))
        ∨ (n = 0 ∧ isResponse r = true) →
      exec c s = .next { s with trunk := { s.trunk with
        held := some r, out := heldSymbols s.trunk.held, phase := .slots (n + 1) } })
    ∧ (∀ n, s.trunk.phase = .slots n → 64 ≤ n →
      exec c s = .next { s with trunk := { s.trunk with
        held := none, out := heldSymbols s.trunk.held ++ [.endMarker], phase := .outside, headerValid := false } })
    ∧ (s.trunk.phase = .outside → exec c s = .next s)

/-- A status slot (R12, R13, R14, 12.2): the record goes on as the segment report, with a check that passes, and nothing else
changes. Addresses are 1..24 (R7), the list holds at most 32 entries (R173), a program has at most ten steps (R135). -/
def Obligations.StatusSlotReport : Prop :=
  ∀ (c : Instr) (r : TrunkRecord) (s : State) (a n : Nat), c.asRecord = some r → trunkPasses r = true →
    Awaits .status s → s.trunk.phase = .slots n → s.trunk.address = some a → a ≤ 24 →
    s.seg.exceptions.length ≤ 32 → (∀ x, s.seg.seqr.run = some x → x.steps.length ≤ 10) →
    ∃ rep, exec c s = .next { s with trunk := { s.trunk with
        held := some rep, out := heldSymbols s.trunk.held, phase := .slots (n + 1) } }
      ∧ trunkPasses rep = true
      ∧ rep.b0.toNat = 32 * s.condition.code + a
      ∧ (s.seg.seqr.run = none → rep.b1 = 0)
      ∧ (∀ x, s.seg.seqr.run = some x → ∃ k, k ≤ x.steps.length ∧ rep.b1.toNat = 128 + 16 * x.program.val + k
          ∧ (∀ j y, x.steps[j]? = some y → y.state ≠ .delaying → j < k)
          ∧ (0 < k → ∃ y, x.steps[k - 1]? = some y ∧ y.state ≠ .delaying))
      ∧ rep.b2.toNat = (if s.seg.learning then 128 else 0)
          + (allDoors.filter (fun d => (s.seg.door d).eng.state == .secured)).length
      ∧ rep.b3.toNat = s.seg.exceptions.length
      ∧ (s.seg.exceptions = [] → rep.b4 = 255 ∧ rep.b5 = 255)
      ∧ (∀ x, s.seg.exceptions.getLast? = some x →
          rep.b4.toNat = (match x.door with
            | some d => d.val
            | none => 255)
          ∧ rep.b5.toNat = x.kind.code)
      ∧ rep.b6.toNat = min 255 (s.seg.load / 16)

/-- The segment condition by R14's table, and the same value as field 3 of STATUS; that it is field 3 is read from the order in which
R182 lists the fields (log 27). -/
def Obligations.SegmentConditionTable : Prop :=
  ∀ (s : State) (v : Value),
    s.condition =
      (if s.seg.fire.latch = true then .fire
      else if s.trunk.address = none ∨ ∃ i : Fin 8, s.work.slotmap[i].defective = true then .listen
      else if s.trunk.state = .noTime then .noTime
      else if s.trunk.state = .holdover then .holdover
      else .normal)
    ∧ (entryFields s 10 0 v).bind (fun xs => xs[3]?) = some s.condition.code

/-! ## Management requests -/

/-- READ (R169): the tests in their order, then DONE with the field as it stands; a read changes nothing but the slot. And the fields of
every table (R182): those of the stored tables, EXEMPTION and EXCEPTION by the numbers that R182 lists, those of DOORSTATE and STATUS
numbered, as the model chooses, in the order of the items (log 27), with what is none at 65,535 (logs 28, 69), the level of an output
terminal the level applied (log 90), the marks sixteen to a field (log 61), the selected step and member (logs 67, 70) and an item of
several values in a field for each (log 72); then the codes, in the order in which each rule lists the
values, from 1 where the first is none (log 28). -/
def Obligations.ReadAnswers : Prop :=
  (∀ (h : ReqHead) (table index field : Byte) (value : Value) (s : State), Addressed h s →
    let q := fullRequest .read h table index field value
    let counts : List Nat := [1, 8, 32, 64, 8, 80, 48, 64, 16, 32, 1]
    (11 ≤ table.toNat → exec (.read h table index field value) s = .next (passing (replyTo q .badTable 0 s) s))
    ∧ (∀ n, counts[table.toNat]? = some n → n ≤ index.toNat →
        exec (.read h table index field value) s = .next (passing (replyTo q .badIndex 0 s) s))
    ∧ (∀ n, counts[table.toNat]? = some n → index.toNat < n →
        ∃ fs, entryFields s table.toNat index.toNat value = some fs
          ∧ (fs.length ≤ field.toNat ∨ fieldAbsent table.toNat index.toNat field.toNat = true →
              exec (.read h table index field value) s = .next (passing (replyTo q .badField 0 s) s))
          ∧ (∀ x, fs[field.toNat]? = some x → fieldAbsent table.toNat index.toNat field.toNat = false →
              exec (.read h table index field value) s = .next (passing (replyTo q .done x s) s))))
  ∧ (∀ (s : State) (v : Value),
    let flag (b : Bool) : Nat := if b = true then 1 else 0
    let opt (n : Option Nat) : Nat := n.getD 65535
    let optFlag (b : Option Bool) : Nat := opt (b.map flag)
    let params (y : Params) : List Nat := [y.threshold, y.deferralLimit, y.policy.code, y.warning]
    let x := s.work.segment.value
    entryFields s 0 0 v = some ([x.capacity, x.windowLength, if x.fireActiveHigh = true then 0 else 1] ++ params x.params)
    ∧ (∀ i : Fin 8, entryFields s 1 i.val v = some (match s.work.slotmap[i].value with
      | none => [65535, 65535]
      | some y => [y.slot, y.role.code]))
    ∧ (∀ i : Fin 32, entryFields s 2 i.val v = some (match s.work.groupmap[i].value with
      | none => [65535, 65535]
      | some y => [y.site, y.localGroup.val]))
    ∧ (∀ d : DoorNo, let y := s.work.door[d].value
      entryFields s 3 d.val v = some [flag y.fitted, y.profile.val, y.groups.toNat, y.rank, y.defaultPosture.code])
    ∧ (∀ i : Fin 8, let y := s.work.profile[i].value
      entryFields s 4 i.val v = some ([y.lockKind.code] ++ (List.finRange 6).map (fun k => y.functions[k].code)
        ++ (List.finRange 6).map (fun k => flag y.inverted[k])
        ++ [y.runUnits, y.holdUnits, y.runTime, y.verifyTime, y.retryLimit, y.settleTime, y.bounceLimit, y.proppedLimit,
            y.overLimit, y.underLimit, y.persistence, y.hysteresis, flag y.faultLatch, y.exitShuntTime]))
    ∧ (∀ i : Fin 80, let y := s.work.program[i].value
      entryFields s 5 i.val v
        = some ([y.kind.code, y.stepCount, y.localGroup.val, y.startMode.code, y.offset] ++ params y.params))
    ∧ (∀ i : Fin 48, entryFields s 6 i.val v = some (match s.work.dayplan[i].value with
      | none => [65535, 65535]
      | some y => [y.minute, y.program.val]))
    ∧ (∀ i : Fin 16, entryFields s 8 i.val v = some (match s.seg.exemptions.find? (fun y => y.group == i) with
      | none => [65535, 65535, 65535, 65535]
      | some y => [y.group.val, if y.keep = .released then 0 else 1, y.expiry, y.dayCount]))
    ∧ (∀ i : Fin 32, entryFields s 9 i.val v = some (match s.seg.exceptions[i.val]? with
      | none => List.replicate 7 65535
      | some y => [opt (y.door.map (fun d => d.val)), y.kind.code, opt (y.subReason.map SubReason.code), y.firstMinute,
          y.lastMinute, y.occurrences, flag (y.active s.seg)]))
    ∧ (∀ d : DoorNo,
      let x := s.seg.door d
      let p := s.env.profile d
      let y := x.eng
      let m := x.mon
      let pending : List Nat := match y.pendingTarget with
        | none => List.replicate 6 65535
        | some q => [q.posture.code] ++ params q.params ++ [opt q.owed]
      let deferral : List Nat := match y.deferral with
        | .none => [65535, 65535]
        | .counting n => [1, n]
        | _ => [2, 65535]
      let pulse : List Nat := match x.drop.pulse with
        | .none => [65535, 65535]
        | .outstanding k => [1, k.code]
        | .held k => [2, k.code]
        | .cancelled k => [3, k.code]
      let reported : Nat := if x.inputs.current = none then 65535
        else if p.assigns .lockDrive = true then optFlag x.inputs.reportedDrive else 0
      entryFields s 7 d.val v = some (
        [y.state.code, flag (!y.inService), opt (y.target.map Posture.code)] ++ params y.params ++ [y.fallback.code, opt y.owed]
        ++ pending ++ [flag y.drive, y.retry, flag y.force] ++ deferral
        ++ [flag y.pulseInAttempt, y.lastSettled.code, if y.timer.running = true then y.timer.remaining else 65535,
            flag y.exitWindow, y.openingMark.code]
        ++ [flag y.live.notSecured, flag y.live.notReleased, flag y.live.propped, flag y.live.overcurrent,
            flag y.live.openCircuit, flag y.live.lost, flag y.live.tamper]
        ++ [flag y.sticky.notSecured, flag y.sticky.notReleased, flag y.sticky.propped, flag y.sticky.overcurrent,
            flag y.sticky.openCircuit, flag y.sticky.lost, flag y.sticky.tamper, flag y.sticky.forcedOpen,
            flag y.sticky.leftReleased, flag y.sticky.budget]
        ++ [optFlag x.inputs.position, optFlag x.inputs.bolt, optFlag x.inputs.exitRequest, optFlag x.inputs.tamper, reported,
            opt x.inputs.current]
        ++ (List.finRange 6).map (fun k => optFlag
            ((if p.functions[k].isOutput = true then x.inputs.outputLevels else x.inputs.inputLevels).map (fun b => b.getLsbD k.val)))
        ++ [opt ((x.sensed p).map Posture.code)]
        ++ [x.drop.missCount, x.drop.goodCount, flag x.drop.lost, x.drop.pulseSeq.toNat] ++ pulse
        ++ [x.drop.lastSeq.toNat, flag x.drop.lastLocalFault]
        ++ [flag m.enable, flag m.isOpen, m.dwell, m.latchedBounce, m.latchedPropped, m.lastOpen, m.passages.toNat % 65536,
            m.passages.toNat / 65536, m.windowCount, m.activity, opt m.sinceClose, flag m.propped,
            opt (m.watch.map (fun w => w.threshold)), optFlag (m.watch.map (fun w => w.force)), s.seg.window.elapsedMs / 1000]
        ++ [x.charge.units, x.charge.basis.code, x.charge.tail, opt (s.seg.queue.findIdx? (fun q => q.door == d))]
        ++ [x.sup.overCount, x.sup.underCount]
        ++ [opt ((expectedPosture s.env s.seg.exemptions d).map Posture.code)]))
    ∧ (let c := s.clock
      let t := c.second.getD 86400
      let f := s.seg.fire
      let q := s.seg.seqr
      let marks (ms : List Bool) : List Nat := (List.range ((ms.length + 15) / 16)).map (fun w =>
        ((List.range 16).map (fun b => if ms.getD (16 * w + b) false = true then 2 ^ b else 0)).sum)
      let k := v.toNat / 256
      let chosen : Option StepRecord := q.run.bind (fun r => if k = 0 then none else r.steps[k - 1]?)
      let step : List Nat := match chosen with
        | none => List.replicate 17 65535
        | some z => [z.state.code, flag z.baseReached, z.remaining, opt z.startMinute, opt z.doneMinute, z.members.length]
          ++ [DoorOutcome.done, .already, .exempt, .absent, .lost, .leftReleased, .proppedLate, .failed, .budget, .overridden].map
              (fun o => z.members.countP (fun m => m.mark == .outcome o))
          ++ [z.members.countP (fun m => match m.mark with
              | .following _ => true
              | _ => false)]
      let member : List Nat := match chosen with
        | none => [65535, 65535, 65535]
        | some z => if 64 ≤ v.toNat % 256 then [65535, 65535, 65535] else
          match z.members.find? (fun m => m.door.val == v.toNat % 256) with
          | none => [0, 65535, 65535]
          | some m => [1] ++ (match m.mark with
            | .nothing => [65535, 65535]
            | .outcome o => [o.code, 65535]
            | .following j => [65535, j])
      let summary : List Nat := match q.summary with
        | none => List.replicate 15 65535
        | some y => [y.program.val, y.ending.code, y.startMinute, y.endMinute, y.stepsStarted] ++ y.counts
      let dropped : List Nat := match q.dropped with
        | none => [65535, 65535, 65535]
        | some y => [y.program.val, y.reason.code, y.minute]
      entryFields s 10 0 v = some (
        [s.trunk.state.code, s.trunk.count, s.trunk.sinceHeader, s.condition.code]
        ++ (List.finRange 4).map (fun b => flag (s.seg.branch b).lineFault)
        ++ [t % 65536, t / 65536, c.today, c.tomorrow, c.yesterday, c.lastSite.code]
        ++ [s.work.segment.value.capacity, s.seg.load, flag s.seg.learning, s.seg.window.elapsedMs / 1000]
        ++ [flag f.latch, opt (f.cause.map LatchCause.code), flag f.reading, f.persistence, flag f.lastEmergency]
        ++ [flag s.store.writing.isSome, opt (s.store.writing.map (fun y => y.1.ix.val)), opt (s.store.writing.map (fun y => y.2))]
        ++ (List.finRange 7).map (fun i => flag s.work.corrected[i])
        ++ marks [s.work.segment.defective] ++ marks (s.work.slotmap.toList.map (fun w => w.defective))
        ++ marks (s.work.groupmap.toList.map (fun w => w.defective)) ++ marks (s.work.door.toList.map (fun w => w.defective))
        ++ marks (s.work.profile.toList.map (fun w => w.defective)) ++ marks (s.work.program.toList.map (fun w => w.defective))
        ++ marks (s.work.dayplan.toList.map (fun w => w.defective))
        ++ [opt (q.run.map (fun r => r.program.val)), opt (q.run.map (fun r => r.startMinute))] ++ step ++ member
        ++ (List.range 4).map (fun i => opt ((q.queue[i]?).map (fun p => p.val))) ++ summary ++ dropped)))
  ∧ ([LatePolicy.force, .leave].map LatePolicy.code = [0, 1] ∧ [LockKind.magnetic, .strike, .motor].map LockKind.code = [0, 1, 2]
    ∧ [TermFn.position, .bolt, .exitRequest, .tamper, .lockDrive, .sounder, .indicator, .generalIn, .none].map TermFn.code
      = List.range 9
    ∧ [Role.command, .status].map Role.code = [0, 1] ∧ [ProgramKind.lockup, .release].map ProgramKind.code = [0, 1]
    ∧ [StartMode.withPrevious, .afterPrevious].map StartMode.code = [0, 1]
    ∧ [Posture.secured, .released].map Posture.code = [0, 1]
    ∧ [SiteCommand.normal, .sweepHold, .emergencyRelease].map SiteCommand.code = [0, 1, 2]
    ∧ [TrunkState.noTime, .tracking, .holdover].map TrunkState.code = [0, 1, 2]
    ∧ [Condition.normal, .noTime, .holdover, .fire, .listen].map Condition.code = List.range 5
    ∧ [DoorState.absent, .holding, .released, .secured, .quietWait, .warning, .awaitGrant, .driving, .verifying, .exitShunt, .cooling,
        .faulted, .lost, .egress, .outOfService].map DoorState.code = List.range 15
    ∧ [Kind.notSecured, .notReleased, .propped, .forcedOpen, .overcurrent, .openCircuit, .lost, .tamper, .leftReleased, .budget,
        .storeDefect, .runDropped, .clockStep].map Kind.code = List.range 13
    ∧ [SubReason.terminal, .localFault].map SubReason.code = [0, 1]
    ∧ [DoorOutcome.done, .already, .exempt, .absent, .lost, .leftReleased, .proppedLate, .failed, .budget, .overridden].map
        DoorOutcome.code = List.range 10
    ∧ [StepState.delaying, .active, .done].map StepState.code = [0, 1, 2]
    ∧ [Ending.completed, .aborted, .fire].map Ending.code = [0, 1, 2]
    ∧ [DropReason.notLoaded, .fire, .defective, .disabled, .active, .queued, .full].map DropReason.code = List.range 7
    ∧ [PulseKind.throw, .withdraw].map PulseKind.code = [1, 2] ∧ [LatchCause.fireIn, .header].map LatchCause.code = [1, 2]
    ∧ [Basis.none, .hold, .run, .tail].map Basis.code = [65535, 1, 2, 3]
    ∧ [Fallback.none, .secured, .released, .faulted].map Fallback.code = [65535, 1, 2, 3]
    ∧ [OpeningMark.none, .inWindow, .forced].map OpeningMark.code = [65535, 1, 2])

/-- Slot 0 with a request (R10): a request to another address goes on unchanged; one to 31 is carried out and goes on unchanged; one to
this controller is carried out and goes on as the response, with its result and value; the same request given as a record does the
same. -/
def Obligations.RequestSlot : Prop :=
  ∀ (c : Instr) (q : Request) (s : State) (a : Nat), c.asRequest = some q → InFrame s → s.trunk.phase = .slots 0 →
    s.trunk.address = some a → a ≤ 24 →
    (q.head.target.toNat ≠ a → q.head.target.toNat ≠ 31 → exec c s = .next (passing (requestRecord q) s))
    ∧ (q.head.target.toNat = 31 → exec c s = .next (passing (requestRecord q) (serve q s).state))
    ∧ (q.head.target.toNat = a →
        exec c s = .next (passing (responseRecord a q (serve q s).result (serve q s).value) (serve q s).state))
    ∧ exec (.slotRecord (requestRecord q)) s = exec c s

/-- WRITE where no write row of its own applies, and an unknown request kind (R168, R170, R181): BAD_TABLE for an unknown table and for an
unknown kind; in the runtime tables BAD_INDEX for an index that does not exist, then BAD_FIELD for such a field, then READ_ONLY for every
field but the halves of the passage counter; nothing changes. A WRITE that names a table with a row of its own is that row's command. In
the rows of GROUPMAP, DOOR, PROFILE, PROGRAM and DAYPLAN the index is tested first (BAD_INDEX), then the field (BAD_FIELD, in PROGRAM for
kind and step count at an index that is no step 1 too), and a table under a store write answers STORE_BUSY, at every index and field that
exist. The number of fields of DOORSTATE and STATUS is the model's (log 27). -/
def Obligations.WriteElsewhereRefused : Prop :=
  (∀ (h : ReqHead) (table index field : Byte) (value : Value) (s : State), Addressed h s →
    let q := fullRequest .write h table index field value
    (11 ≤ table.toNat → exec (.write h table index field value) s = .next (passing (replyTo q .badTable 0 s) s))
    ∧ (∀ n, (table.toNat, n) ∈ [(7, 64), (8, 16), (9, 32), (10, 1)] →
      (n ≤ index.toNat → exec (.write h table index field value) s = .next (passing (replyTo q .badIndex 0 s) s))
      ∧ (index.toNat < n → ∃ fs, entryFields s table.toNat index.toNat value = some fs
        ∧ (fs.length ≤ field.toNat → exec (.write h table index field value) s = .next (passing (replyTo q .badField 0 s) s))
        ∧ (field.toNat < fs.length →
          ¬(table.toNat = 7 ∧ (field.toNat = passageLowField ∨ field.toNat = passageHighField)) →
          exec (.write h table index field value) s = .next (passing (replyTo q .readOnly 0 s) s)))))
  ∧ (∀ (h : ReqHead) (kind : BitVec 4) (table index field : Byte) (value : Value) (s : State), Addressed h s →
    9 ≤ kind.toNat → exec (.unknownRequestKind h kind table index field value) s
      = .next (passing (replyTo ⟨h, kind, table, index, field, value⟩ .badTable 0 s) s))
  ∧ (∀ (h : ReqHead) (i f : Byte) (v : Value) (s : State),
    exec (.write h 0 i f v) s = exec (.writeSegment h i f v) s ∧ exec (.write h 1 i f v) s = exec (.writeSlotmap h i f v) s
    ∧ exec (.write h 2 i f v) s = exec (.writeGroupmap h i f v) s ∧ exec (.write h 3 i f v) s = exec (.writeDoor h i f v) s
    ∧ exec (.write h 4 i f v) s = exec (.writeProfile h i f v) s ∧ exec (.write h 5 i f v) s = exec (.writeProgram h i f v) s
    ∧ exec (.write h 6 i f v) s = exec (.writeDayplan h i f v) s
    ∧ exec (.write h 7 i f v) s = exec (.writePassageCounter h i f v) s)
  ∧ (∀ (h : ReqHead) (index field : Byte) (value : Value) (s : State), Addressed h s → ∀ c tb n m,
    (c, tb, n, m) ∈ [(Instr.writeGroupmap h index field value, TableName.groupmap, 32, 2),
      (.writeDoor h index field value, .door, 64, 5), (.writeProfile h index field value, .profile, 8, 27),
      (.writeProgram h index field value, .program, 80, 9), (.writeDayplan h index field value, .dayplan, 48, 2)] →
    let q := fullRequest .write h tb.ix.val index field value
    let refuses (res : Result) : Prop := exec c s = .next (passing (replyTo q res 0 s) s)
    (n ≤ index.toNat → refuses .badIndex)
    ∧ (index.toNat < n → m ≤ field.toNat → refuses .badField)
    ∧ (tb = .program → index.toNat < n → index.toNat % 10 ≠ 0 → field.toNat < 2 → refuses .badField)
    ∧ (index.toNat < n → field.toNat < m → (tb = .program → index.toNat % 10 = 0 ∨ 2 ≤ field.toNat) → ¬ Unstored tb s →
        refuses .storeBusy))

/-- WRITE to SEGMENT (R85, R89, R164, R170, R171). The seven fields read back as before but for the one written; a capacity has the
queue considered, and FIRE_IN is judged by the polarity. -/
def Obligations.WriteSegment : Prop :=
  ∀ (h : ReqHead) (index field : Byte) (value : Value) (s : State), Addressed h s →
    let q := fullRequest .write h 0 index field value
    let v := value.toNat
    let c := Instr.writeSegment h index field value
    let old := segmentFields s.work.segment.value
    let stores (res : Result) (x : Nat) : Prop :=
      ∃ t e, exec c s = .next t ∧ t.work = { s.work with segment := ⟨e, false⟩ }
        ∧ segmentFields e = old.set field.toNat x
        ∧ t.trunk = s.trunk.accept (replyTo q res x s)
        ∧ t.power = s.power ∧ t.clock = s.clock ∧ t.stored = s.stored ∧ t.store = s.store
        ∧ t.seg = settle t.env (judgeFireIn (s.fireInHigh == e.fireActiveHigh)
            (if field = 0 then consider t.env s.seg else s.seg))
    let refuses (res : Result) : Prop := exec c s = .next (passing (replyTo q res 0 s) s)
    (index ≠ 0 → refuses .badIndex)
    ∧ (index = 0 → 7 ≤ field.toNat → refuses .badField)
    ∧ (index = 0 → field.toNat < 7 → ¬ Unstored .segment s → refuses .storeBusy)
    ∧ (index = 0 → Unstored .segment s →
        (∀ hi, (field, hi) ∈ [((0 : Byte), 4095), (3, 32640), (4, 7200), (6, 120)] →
          (v ≤ hi → stores .done v) ∧ (hi < v → stores .clamped hi))
        ∧ (field = 1 → if v ∈ [10, 30, 60, 120] then stores .done v else refuses .badValue)
        ∧ (field = 2 ∨ field = 5 → if v ≤ 1 then stores .done v else refuses .badValue))

/-- WRITE to SLOTMAP (R9, R170, R176): a slot number is taken unless another used entry holds it, 0 makes the entry unused, a role is taken
by a used entry; the defective mark stays. A slot number above 63 names no value (log 29). That a role code of 2 or above is BAD_VALUE at an
unused entry too, where R9 has BAD_INDEX for any role, is the model's choice (log 51), and so is that the response value of slot number 0 is
0, where the entry then reads 65,535 (log 84). -/
def Obligations.WriteSlotmap : Prop :=
  ∀ (h : ReqHead) (index field : Byte) (value : Value) (s : State), Addressed h s →
    let q := fullRequest .write h 1 index field value
    let v := value.toNat
    let c := Instr.writeSlotmap h index field value
    let refuses (res : Result) : Prop := exec c s = .next (passing (replyTo q res 0 s) s)
    (8 ≤ index.toNat → refuses .badIndex)
    ∧ (∀ i : Fin 8, i.val = index.toNat →
      let stores (x : Option SlotMapEntry) : Prop :=
        exec c s = .next (passing (replyTo q .done v s)
          { s with work := { s.work with slotmap := s.work.slotmap.set i ⟨x, s.work.slotmap[i].defective⟩ } })
      let taken : Prop := ∃ j : Fin 8, j ≠ i ∧ ∃ y, s.work.slotmap[j].value = some y ∧ y.slot = v
      (2 ≤ field.toNat → refuses .badField)
      ∧ (field.toNat < 2 → ¬ Unstored .slotmap s → refuses .storeBusy)
      ∧ (Unstored .slotmap s →
        (field = 0 → 63 < v → refuses .badValue)
        ∧ (field = 0 → v = 0 → stores none)
        ∧ (field = 0 → 1 ≤ v → v ≤ 63 → taken → refuses .badValue)
        ∧ (field = 0 → 1 ≤ v → v ≤ 63 → ¬ taken →
            (s.work.slotmap[i].value = none → stores (some ⟨v, .command⟩))
            ∧ (∀ y, s.work.slotmap[i].value = some y → stores (some { y with slot := v })))
        ∧ (field = 1 → 2 ≤ v → refuses .badValue)
        ∧ (field = 1 → v < 2 → s.work.slotmap[i].value = none → refuses .badIndex)
        ∧ (field = 1 → ∀ y, s.work.slotmap[i].value = some y →
            (v = 0 → stores (some { y with role := .command })) ∧ (v = 1 → stores (some { y with role := .status })))))

/-- WRITE to GROUPMAP (R48, R49, R176): every line of the rule's table, and the sorting. An accepted write to an entry clears its mark,
at an unused index too (log 30); site group 255 to an unused index leaves the site groups as they are, with no used entry behind an
unused one (log 38). That a site group above 255, for which the rule's table has no line, is BAD_VALUE is read from R170 (log 29). -/
def Obligations.WriteGroupmap : Prop :=
  ∀ (h : ReqHead) (index field : Byte) (value : Value) (s : State), Addressed h s → Unstored .groupmap s →
    let q := fullRequest .write h 2 index field value
    let v := value.toNat
    let c := Instr.writeGroupmap h index field value
    let refuses (res : Result) : Prop := exec c s = .next (passing (replyTo q res 0 s) s)
    let stores (m : GroupMap) (x : Nat) : Prop :=
      exec c s = .next (passing (replyTo q .done x s) { s with work := { s.work with groupmap := m } })
    let sorted (m old : GroupMap) : Prop :=
      (∀ j : Fin 32, m[j].defective = false)
      ∧ (usedEntries m).Perm (usedEntries old) ∧ (usedEntries m).Pairwise (fun a b => a.site ≤ b.site)
      ∧ (∀ j : Fin 32, m[j].value.isSome = true ↔ j.val < (usedEntries m).length)
    (32 ≤ index.toNat → refuses .badIndex)
    ∧ (∀ i : Fin 32, i.val = index.toNat →
      let x := s.work.groupmap[i]
      let taken : Prop := ∃ j : Fin 32, j ≠ i ∧ ∃ y, s.work.groupmap[j].used = some y ∧ y.site = v
      let put (g : Option GroupMapEntry) : GroupMap := s.work.groupmap.set i ⟨g, false⟩
      (field = 0 → 255 < v → refuses .badValue)
      ∧ (field = 0 → v ≤ 254 → taken → refuses .badValue)
      ∧ (field = 0 → v ≤ 254 → ¬ taken → ∃ (m : GroupMap) (k : Fin 32), stores m k.val
          ∧ sorted m (put (some ⟨v, (x.used.map (fun y => y.localGroup)).getD 0⟩))
          ∧ ∃ y, m[k].value = some y ∧ y.site = v)
      ∧ (field = 0 → v = 255 → x.used.isSome = true →
          ∃ m : GroupMap, stores m (usedEntries m).length ∧ sorted m (put none))
      ∧ (field = 0 → v = 255 → x.used = none → ∃ m : GroupMap, stores m (usedEntries s.work.groupmap).length
          ∧ (usedEntries m).Perm (usedEntries s.work.groupmap) ∧ (usedEntries m).Pairwise (fun a b => a.site ≤ b.site)
          ∧ (∀ j : Fin 32, m[j].defective = (j != i && s.work.groupmap[j].defective))
          ∧ (∀ j k : Fin 32, j < k → m[j].defective = false → m[k].used.isSome = true → m[j].used.isSome = true))
      ∧ (field = 1 → 16 ≤ v → refuses .badValue)
      ∧ (field = 1 → v < 16 → x.used = none → refuses .badIndex)
      ∧ (field = 1 → ∀ (g : Fin 16) (y : GroupMapEntry), g.val = v → x.used = some y →
          stores (put (some { y with localGroup := g })) i.val))

/-- WRITE to DOOR (R32, R33, R34, R170, R176): the state conditions, then the value, then the entry stored with its mark clear and only
the field written changed. A WRITE of fitted YES to a door that was not fitted puts it in OUT_OF_SERVICE with every other value as at
power-on; a WRITE of NO to one that was fitted takes its charge to 0, puts it in OUT_OF_SERVICE and leaves its last visit to come; a WRITE
that changes neither leaves an OUT_OF_SERVICE door as it is (R33, R84, R99, R110, R133). Every accepted WRITE hands the door its changed
entry, a WRITE of the profile field with its supervision counts at 0. And what a changed entry does to a door, at a RESTORE of DOOR too
(R178): becoming fitted, with another profile too, and ceasing to be, another profile (its drive request: log 48), and the profile's mark
(WriteProfile; the order of several doors: log 62). That a door which ceases to be fitted keeps its service mark, at a RESTORE while
IN_SERVICE too, is the model's (log 22), and so is what becomes of a last visit that has not ended (log 76). An index of 64 or above is
BAD_INDEX, and a DOOR table under a store write STORE_BUSY. -/
def Obligations.WriteDoor : Prop :=
  (∀ (h : ReqHead) (index field : Byte) (value : Value) (s : State) (d : DoorNo), Addressed h s → d.val = index.toNat →
    Unstored .door s →
    let q := fullRequest .write h 3 index field value
    let v := value.toNat
    let c := Instr.writeDoor h index field value
    let x := (s.seg.door d).eng
    let refuses (res : Result) : Prop := exec c s = .next (passing (replyTo q res 0 s) s)
    let stores (res : Result) (n : Nat) : Prop :=
      ∃ t e, exec c s = .next t ∧ t.work = { s.work with door := s.work.door.set d ⟨e, false⟩ }
        ∧ doorFields e = (doorFields s.work.door[d].value).set field.toNat n
        ∧ t.trunk = s.trunk.accept (replyTo q res n s)
        ∧ t.power = s.power ∧ t.clock = s.clock ∧ t.stored = s.stored ∧ t.store = s.store ∧ KeepsSides s.seg t.seg
    let leaves (P : Segment → Prop) : Prop := ∃ t g, exec c s = .next t ∧ t.seg = settle t.env g ∧ P g
    (5 ≤ field.toNat → refuses .badField)
    ∧ (field = 0 → x.inService = true → refuses .refusedState)
    ∧ (field = 0 → x.inService = false → if v ≤ 1 then stores .done v else refuses .badValue)
    ∧ (field = 0 → x.inService = false →
      (v = 1 → s.env.fitted d = false → leaves (fun g =>
        g.door d = { Door.initial s.work.segment.value.params with
          eng := { Engine.initial s.work.segment.value.params with
            inService := false, state := .outOfService, lastSettled := .outOfService } }
        ∧ (∀ e ∈ g.queue, e.door ≠ d) ∧ (s.seg.learning = false → OnlyDoor d s.seg g)))
      ∧ (v = 0 → s.env.fitted d = true → x.state ≠ .absent → leaves (fun g =>
        (g.door d).eng.state = .outOfService ∧ (g.door d).eng.inService = false ∧ (g.door d).eng.target = none
        ∧ (g.door d).eng.drive = false ∧ (g.door d).eng.live.lost = false ∧ (g.door d).drop.leaving = .awaiting
        ∧ (g.door d).drop.pulse = (s.seg.door d).drop.pulse.cancel ∧ (g.door d).charge = ⟨0, .none, 0, 0⟩
        ∧ (g.door d).sup = ⟨0, 0⟩ ∧ (∀ e ∈ g.queue, e.door ≠ d)))
      ∧ (x.state = .outOfService → (v = 1 ∧ s.env.fitted d = true) ∨ (v = 0 ∧ s.env.fitted d = false) →
        leaves (fun g => g = s.seg)))
    ∧ (field = 1 → x.state = .absent ∨ x.state = .outOfService → if v < 8 then stores .done v else refuses .badValue)
    ∧ (field = 1 → x.state.settled = true → x.state ≠ .absent → x.state ≠ .outOfService → refuses .refusedState)
    ∧ (field = 1 → x.state.settled = false → refuses .busy)
    ∧ (2 ≤ field.toNat → field.toNat < 5 → x.state.settled = false → refuses .busy)
    ∧ (x.state.settled = true →
      (field = 2 → stores .done v)
      ∧ (field = 3 → (v ≤ 255 → stores .done v) ∧ (255 < v → stores .clamped 255))
      ∧ (field = 4 → if v ≤ 1 then stores .done v else refuses .badValue))
    ∧ (∀ w, writeDoorField s.work.door[d].value field.toNat v = .ok w →
      (field = 0 → x.inService = false) → (field = 1 → x.state = .absent ∨ x.state = .outOfService) →
      (2 ≤ field.toNat → x.state.settled = true) →
      ∃ t, exec c s = .next t ∧ t.seg = settle t.env (doorChanged s.env t.env d
        (if field = 1 then s.seg.putDoor d { s.seg.door d with sup := ⟨0, 0⟩ } else s.seg))))
  ∧ (∀ (old e : Env) (d : DoorNo) (g : Segment),
    let x := g.door d
    let same : Prop := (old.doorEntry d).profile = (e.doorEntry d).profile
    let h := doorChanged old e d g
    (old.fitted d = e.fitted d → same → h = reconcileProfile e d g)
    ∧ (old.fitted d = e.fitted d → ¬ same → h = reconcileProfile e d (reenable e d (rekindDoor old e d
        (g.putDoor d { x with sup := ⟨0, 0⟩ }))))
    ∧ (old.fitted d = false → e.fitted d = true →
      h = reconcileProfile e d ({ g with queue := g.queue.filter (fun q => q.door != d) }.putDoor d { Door.initial e.catchUp with
        eng := { Engine.initial e.catchUp with
          inService := x.eng.inService, state := .outOfService, lastSettled := .outOfService } }))
    ∧ (old.fitted d = true → e.fitted d = false → x.eng.state = .absent → same → h = g)
    ∧ (old.fitted d = true → e.fitted d = false → x.eng.state ≠ .absent →
      (h.door d).eng.state = .outOfService ∧ (h.door d).eng.inService = x.eng.inService ∧ (h.door d).eng.target = none
      ∧ (h.door d).eng.drive = false ∧ (h.door d).eng.owed = none ∧ (h.door d).eng.live.lost = false
      ∧ (h.door d).drop.leaving = .awaiting ∧ (h.door d).drop.pulse = x.drop.pulse.cancel
      ∧ (h.door d).charge = ⟨0, .none, 0, 0⟩ ∧ (h.door d).sup = ⟨0, 0⟩ ∧ (h.door d).mon.enable = false
      ∧ (∀ q ∈ h.queue, q.door ≠ d)))
  ∧ (∀ (h : ReqHead) (index field : Byte) (value : Value) (s : State), Addressed h s →
    let refuses (res : Result) : Prop := exec (.writeDoor h index field value) s
      = .next (passing (replyTo (fullRequest .write h 3 index field value) res 0 s) s)
    (64 ≤ index.toNat → refuses .badIndex)
    ∧ (index.toNat < 64 → field.toNat < 5 → ¬ Unstored .door s → refuses .storeBusy))

/-- WRITE of a lock kind, a polarity or a number to PROFILE (R35, R36, R37, R170, R176): the two conditions in their order, MOTOR's hold
units, and only the field written changed otherwise; a function code of 9 or above, which names no function, is BAD_VALUE (FunctionClaim
has the functions themselves). Each door that names the profile, in ascending number (logs 62, 63), then takes the
change: a function or polarity clears its reference, its supervision counts where LOCK_DRIVE goes off by it, and has its enable evaluated
(R46, R68, R104), a settle time has its watch evaluated (R82), and the profile's mark, or its clearing by the WRITE, takes it out of service
or back (R38, R133, R176). That a RESTORE which makes a profile defective takes its doors out of service with their marks kept is the
model's (log 31), and so is the deferral NONE that a door taken out of service reads (log 21; R133 stops its timers). A door that returns
enters HOLDING with target NONE, nothing else of the segment changed, and is then handed its expected posture. The charge a drive-off leaves
is as in FireInput (logs 59, 78, 81); the monitor position that a remapping leaves is the model's (log 77), and so is that LOCK_DRIVE goes
off by the loss of its terminal in HOLDING alone (log 83). An index of 8 or above is BAD_INDEX, and a PROFILE table under a store write
STORE_BUSY. -/
def Obligations.WriteProfile : Prop :=
  (∀ (h : ReqHead) (index field : Byte) (value : Value) (s : State) (p : Fin 8), Addressed h s → p.val = index.toNat →
    Unstored .profile s →
    let q := fullRequest .write h 4 index field value
    let v := value.toNat
    let c := Instr.writeProfile h index field value
    let old := s.work.profile[p].value
    let inUse : Prop := ∃ d, s.work.door[d].value.profile = p ∧ (s.seg.door d).eng.state ∈
      [DoorState.warning, .awaitGrant, .driving, .verifying, .cooling, .exitShunt]
    let inService : Prop := ∃ d, s.work.door[d].value.profile = p
      ∧ (s.seg.door d).eng.state ≠ .absent ∧ (s.seg.door d).eng.state ≠ .outOfService
    let refuses (res : Result) : Prop := exec c s = .next (passing (replyTo q res 0 s) s)
    let stores (res : Result) (n : Nat) (fields : List Nat) : Prop :=
      ∃ t e, exec c s = .next t ∧ t.work = { s.work with profile := s.work.profile.set p ⟨e, false⟩ }
        ∧ profileFields e = fields
        ∧ t.trunk = s.trunk.accept (replyTo q res n s)
        ∧ t.power = s.power ∧ t.clock = s.clock ∧ t.stored = s.stored ∧ t.store = s.store ∧ KeepsSides s.seg t.seg
    let sets (res : Result) (n : Nat) : Prop := stores res n ((profileFields old).set field.toNat n)
    (27 ≤ field.toNat → refuses .badField)
    ∧ (field.toNat < 27 → inUse → refuses .busy)
    ∧ (field.toNat ≤ 12 → ¬ inUse → inService → refuses .refusedState)
    ∧ (¬ inUse →
      (¬ inService →
        (field = 0 → v = 2 → stores .done v (((profileFields old).set 0 2).set 14 0))
        ∧ (field = 0 → v < 2 → sets .done v)
        ∧ (field = 0 → 2 < v → refuses .badValue)
        ∧ (1 ≤ field.toNat → field.toNat ≤ 6 → 9 ≤ v → refuses .badValue)
        ∧ (7 ≤ field.toNat → field.toNat ≤ 12 → if v ≤ 1 then sets .done v else refuses .badValue))
      ∧ (∀ lo hi, (field.toNat, lo, hi) ∈ [(13, 0, 255), (15, 1, 50), (16, 1, 30), (17, 0, 3), (18, 0, 120), (19, 0, 50),
            (20, 10, 3600), (21, 0, 255), (22, 0, 255), (23, 1, 8), (24, 0, 63), (26, 1, 60)] →
          (v < lo → sets .clamped lo) ∧ (lo ≤ v → v ≤ hi → sets .done v) ∧ (hi < v → sets .clamped hi))
      ∧ (field = 14 → old.lockKind = .motor → sets (if v = 0 then .done else .clamped) 0)
      ∧ (field = 14 → old.lockKind ≠ .motor → (v ≤ 255 → sets .done v) ∧ (255 < v → sets .clamped 255))
      ∧ (field = 25 → if v ≤ 1 then sets .done v else refuses .badValue))
    ∧ (∀ w, writeProfileField old field.toNat v = .ok w → ¬ inUse → (field.toNat ≤ 12 → ¬ inService) →
      ∃ t, exec c s = .next t ∧ t.work = { s.work with profile := s.work.profile.set p ⟨w.entry, false⟩ }
        ∧ t.seg = settle t.env ((allDoors.filter (fun d => s.work.door[d].value.profile == p)).foldl
            (fun g d => fieldWritten field.toNat s.env t.env d g) s.seg)))
  ∧ (∀ (field : Nat) (old e : Env) (d : DoorNo) (g : Segment),
    fieldWritten field old e d g = reconcileProfile e d
      (if 1 ≤ field ∧ field ≤ 12 then remapDoor old e d g else if field = 18 then evaluateWatch e d g else g))
  ∧ (∀ (old e : Env) (d : DoorNo) (g : Segment), (g.door d).mon.watch = none →
    let x := g.door d
    let h := remapDoor old e d g
    let on (y : Env) : Bool := x.lockLevel g.fire.latch (y.profile d)
    OnlyDoor d g h ∧ h.queue = g.queue ∧ h.seqr = g.seqr ∧ (h.door d).drop = { x.drop with reference := false }
    ∧ (h.door d).sup = (if on old = true ∧ on e = false then ⟨0, 0⟩ else x.sup)
    ∧ (h.door d).mon.enable = (e.fitted d && x.eng.state != .absent && x.eng.state != .outOfService
        && (e.profile d).assigns .position && !x.drop.lost && x.drop.firstReply)
    ∧ (h.door d).eng.state = x.eng.state ∧ (h.door d).eng.target = x.eng.target ∧ (h.door d).eng.drive = x.eng.drive
    ∧ (h.door d).inputs = x.inputs ∧ (h.door d).charge = x.charge
    ∧ ((h.door d).mon.enable = x.mon.enable → (h.door d).mon = x.mon))
  ∧ (∀ (e : Env) (d : DoorNo) (g : Segment),
    (∀ w, (g.door d).mon.watch = some w → (g.door d).quiet (e.profile d) w = true →
      ((evaluateWatch e d g).door d).mon.watch = none)
    ∧ ((∀ w, (g.door d).mon.watch = some w → (g.door d).quiet (e.profile d) w = false) → evaluateWatch e d g = g))
  ∧ (∀ (e : Env) (d : DoorNo) (g : Segment),
    let x := g.door d
    let marked := e.work.profile[(e.doorEntry d).profile].defective
    let h := reconcileProfile e d g
    let returns : Prop := e.fitted d = true ∧ marked = false ∧ x.eng.state = .outOfService ∧ x.eng.inService = true
    let leaves : Prop := e.fitted d = true ∧ marked = true ∧ x.eng.state ≠ .outOfService ∧ x.eng.state ≠ .absent
    (¬ returns → ¬ leaves → h = g)
    ∧ (leaves →
      (h.door d).eng.state = .outOfService ∧ (h.door d).eng.inService = x.eng.inService
      ∧ (h.door d).eng.target = none ∧ (h.door d).eng.drive = false ∧ (h.door d).eng.retry = 0
      ∧ (h.door d).eng.owed = none ∧ (h.door d).eng.pendingTarget = none ∧ (h.door d).eng.deferral = .none
      ∧ (h.door d).mon.watch = none ∧ (h.door d).mon.enable = false
      ∧ (h.door d).drop.pulse = x.drop.pulse.cancel ∧ (∀ q ∈ h.queue, q.door ≠ d)
      ∧ (∀ k ∈ faultKinds, (h.door d).eng.live.get k = false) ∧ (h.door d).eng.live.lost = x.eng.live.lost
      ∧ (let n := if x.eng.pulseAcked then x.eng.timer.remaining else x.eng.pulseRunTime
        (h.door d).charge = (if (e.profile d).lockKind ≠ .motor then ⟨0, .none, 0, 0⟩
          else if x.charge.basis ≠ .run then x.charge
          else if n = 0 then ⟨0, .none, 0, 0⟩ else ⟨x.charge.units, .tail, n, 0⟩)))
    ∧ (returns →
      (g.fire.latch = true → (h.door d).eng.state = .egress ∧ (h.door d).eng.target = none)
      ∧ (g.fire.latch = false → expectedPosture e g.exemptions d = none →
        (h.door d).eng.state = .holding ∧ (h.door d).eng.target = none ∧ (h.door d).eng.inService = true)
      ∧ (g.fire.latch = false → ∀ q, expectedPosture e g.exemptions d = some q →
        ∃ g1, (g1.door d).eng = { x.eng.enter .holding with target := none, live := (g1.door d).eng.live }
          ∧ (x.mon.enable = false → (g1.door d).eng.live = x.eng.live) ∧ OnlyDoor d g g1
          ∧ g1.queue = g.queue ∧ g1.seqr = g.seqr ∧ (g1.door d).charge = x.charge ∧ (g1.door d).sup = x.sup
          ∧ (g1.door d).drop = x.drop ∧ (g1.door d).inputs = x.inputs ∧ h = targetSet e d q e.catchUp none g1)))
  ∧ (∀ (h : ReqHead) (index field : Byte) (value : Value) (s : State), Addressed h s →
    let refuses (res : Result) : Prop := exec (.writeProfile h index field value) s
      = .next (passing (replyTo (fullRequest .write h 4 index field value) res 0 s) s)
    (8 ≤ index.toNat → refuses .badIndex)
    ∧ (index.toNat < 8 → field.toNat < 27 → ¬ Unstored .profile s → refuses .storeBusy))

/-- R40: the write of function f to terminal k of a profile on which each function but GENERAL_IN and NONE stands once: what each
terminal serves afterwards, that the polarities are kept, that each such function still stands once, and the response value. The entry's
defective mark clears at every accepted write (R170, R176), at one of the function that already stands on k too, where R40 says that
nothing changes: that reading is the model's (log 30). -/
def Obligations.FunctionClaim : Prop :=
  ∀ (h : ReqHead) (index field : Byte) (value : Value) (s : State) (p : Fin 8) (k : Fin 6) (f : TermFn), Addressed h s →
    p.val = index.toNat → field.toNat = k.val + 1 → f.code = value.toNat → Unstored .profile s →
    (∀ d, s.work.door[d].value.profile = p →
      (s.seg.door d).eng.state = .absent ∨ (s.seg.door d).eng.state = .outOfService) →
    let old := s.work.profile[p].value
    let once (x : ProfileEntry) : Prop := ∀ i j : Fin 6, x.functions[i] = x.functions[j] →
      x.functions[i] ≠ .generalIn → x.functions[i] ≠ .none → i = j
    once old →
    ∃ (t : State) (e : ProfileEntry) (n : Nat), exec (.writeProfile h index field value) s = .next t
      ∧ t.work = { s.work with profile := s.work.profile.set p ⟨e, false⟩ }
      ∧ t.trunk = s.trunk.accept (replyTo (fullRequest .write h 4 index field value) .done n s)
      ∧ once e
      ∧ e = { old with functions := e.functions }
      ∧ e.functions[k] = f
      ∧ (∀ j : Fin 6, j ≠ k → f ≠ .generalIn → f ≠ .none → old.functions[j] = f →
          e.functions[j] = .generalIn ∧ n = j.val + 1)
      ∧ (∀ j : Fin 6, j ≠ k → old.functions[j] ≠ f ∨ f = .generalIn ∨ f = .none → e.functions[j] = old.functions[j])
      ∧ ((∀ j : Fin 6, j ≠ k → old.functions[j] ≠ f) ∨ f = .generalIn ∨ f = .none → n = 0)
      ∧ (old.functions[k] = f → e = old)

/-- WRITE to PROGRAM (R135, R136, R170): the tests in their order, then the entry stored with its mark clear and only the field
written changed; runs and doors are untouched. -/
def Obligations.WriteProgram : Prop :=
  ∀ (h : ReqHead) (index field : Byte) (value : Value) (s : State), Addressed h s → Unstored .program s →
    let q := fullRequest .write h 5 index field value
    let v := value.toNat
    let c := Instr.writeProgram h index field value
    let refuses (res : Result) : Prop := exec c s = .next (passing (replyTo q res 0 s) s)
    (80 ≤ index.toNat → refuses .badIndex)
    ∧ (∀ i : Fin 80, i.val = index.toNat →
      let old := s.work.program[i].value
      let busy : Prop := (∃ r, s.seg.seqr.run = some r ∧ r.program.val = i.val / 10)
        ∨ ∃ p ∈ s.seg.seqr.queue, p.val = i.val / 10
      let stores (res : Result) (n : Nat) : Prop :=
        ∃ e, programFields e = (programFields old).set field.toNat n
          ∧ exec c s = .next (passing (replyTo q res n s)
              { s with work := { s.work with program := s.work.program.set i ⟨e, false⟩ } })
      (9 ≤ field.toNat → refuses .badField)
      ∧ (field.toNat < 2 → i.val % 10 ≠ 0 → refuses .badField)
      ∧ (field.toNat < 9 → (2 ≤ field.toNat ∨ i.val % 10 = 0) →
        (busy → refuses .refusedState)
        ∧ (¬ busy →
          (field = 0 ∨ field = 3 ∨ field = 7 → if v ≤ 1 then stores .done v else refuses .badValue)
          ∧ (field = 2 → if v < 16 then stores .done v else refuses .badValue)
          ∧ (∀ hi, (field.toNat, hi) ∈ [(1, 10), (4, 3600), (5, 32640), (6, 7200), (8, 120)] →
              (v ≤ hi → stores .done v) ∧ (hi < v → stores .clamped hi)))))

/-- WRITE to DAYPLAN (R26, R28, R182): 65,535 as the minute makes the entry unused; any other minute or a program makes it used, the
other field at 0; a minute is clamped to 1,439; the entry's fired mark clears whatever is written. -/
def Obligations.WriteDayplan : Prop :=
  ∀ (h : ReqHead) (index field : Byte) (value : Value) (s : State), Addressed h s → Unstored .dayplan s →
    let q := fullRequest .write h 6 index field value
    let v := value.toNat
    let c := Instr.writeDayplan h index field value
    let refuses (res : Result) : Prop := exec c s = .next (passing (replyTo q res 0 s) s)
    (48 ≤ index.toNat → refuses .badIndex)
    ∧ (∀ i : Fin 48, i.val = index.toNat →
      let old := s.work.dayplan[i].value
      let minute := (old.map (fun y => y.minute)).getD 0
      let program := (old.map (fun y => y.program)).getD 0
      let stores (res : Result) (n : Nat) (x : Option DayPlanEntry) : Prop :=
        exec c s = .next (passing (replyTo q res n s)
          { s with work := { s.work with dayplan := s.work.dayplan.set i ⟨x, false⟩ }
                   clock := { s.clock with fired := s.clock.fired.set i false } })
      (2 ≤ field.toNat → refuses .badField)
      ∧ (field = 0 → v = 65535 → stores .done v none)
      ∧ (field = 0 → v ≤ 1439 → stores .done v (some ⟨v, program⟩))
      ∧ (field = 0 → 1439 < v → v < 65535 → stores .clamped 1439 (some ⟨1439, program⟩))
      ∧ (field = 1 → ∀ p : Fin 8, p.val = v → stores .done v (some ⟨minute, p⟩))
      ∧ (field = 1 → 8 ≤ v → refuses .badValue))

/-- WRITE of the passage counter (R74): LOW or HIGH is replaced, the other half stays; HIGH above 255 is stored as 255, CLAMPED. The same
row with an index of 64 or above is BAD_INDEX, then with a field that DOORSTATE has not BAD_FIELD, and with any other field READ_ONLY (R170).
The fields' numbers, and with them that there are 85, are read from the order of R182 (log 27; an item of several values: log 72). -/
def Obligations.WritePassageCounter : Prop :=
  (∀ (h : ReqHead) (index field : Byte) (value : Value) (s : State) (d : DoorNo), Addressed h s → d.val = index.toNat →
    let q := fullRequest .write h 7 index field value
    let v := value.toNat
    let c := Instr.writePassageCounter h index field value
    let x := s.seg.door d
    let stores (res : Result) (n counter : Nat) : Prop :=
      ∃ g, exec c s = .next (passing (replyTo q res n s) { s with seg := g })
        ∧ (g.door d).mon.passages.toNat = counter
        ∧ g = s.seg.putDoor d { x with mon := { x.mon with passages := (g.door d).mon.passages } }
    (field.toNat = passageLowField → stores .done v (65536 * (x.mon.passages.toNat / 65536) + v))
    ∧ (field.toNat = passageHighField → v ≤ 255 → stores .done v (65536 * v + x.mon.passages.toNat % 65536))
    ∧ (field.toNat = passageHighField → 255 < v → stores .clamped 255 (65536 * 255 + x.mon.passages.toNat % 65536)))
  ∧ (∀ (h : ReqHead) (index field : Byte) (value : Value) (s : State), Addressed h s →
    let refuses (res : Result) : Prop := exec (.writePassageCounter h index field value) s
      = .next (passing (replyTo (fullRequest .write h 7 index field value) res 0 s) s)
    (64 ≤ index.toNat → refuses .badIndex)
    ∧ (index.toNat < 64 → 85 ≤ field.toNat → refuses .badField)
    ∧ (index.toNat < 64 → field.toNat < 85 → field.toNat ≠ passageLowField → field.toNat ≠ passageHighField →
        refuses .readOnly))

/-- DOOR_SERVICE (R33, R133, R172): BAD_INDEX above 63; the mark already held changes nothing; out of service; return to service. That a
door in OUT_OF_SERVICE which has ceased to be fitted only takes the mark at a return is the model's choice (log 22). `g` is the segment
before steps that fall due start (log 9). Its charge at the drive-off is as in FireInput (R94, R95, logs 59, 78, 81). That its deferral then
reads NONE is the model's (log 21): R133 stops every timer. `g1` is the segment at the return of a door while the clock is known: the door
in HOLDING with target NONE and the mark IN_SERVICE, its PROPPED flag as the enable leaves it, every other door, the queue and the run as
they were. -/
def Obligations.DoorService : Prop :=
  ∀ (h : ReqHead) (index : Byte) (s : State), Addressed h s →
    (∀ c q, (c, q) ∈ [(Instr.doorServiceOut h index, indexRequest .doorService h index 0),
        (Instr.doorServiceReturn h index, indexRequest .doorService h index 1)] →
      (64 ≤ index.toNat → exec c s = .next (passing (replyTo q .badIndex 0 s) s))
      ∧ (∀ d : DoorNo, d.val = index.toNat →
        let x := s.seg.door d
        let back : Bool := c = .doorServiceReturn h index
        let serves (g : Segment) : Prop :=
          let t := settled { s with seg := g }
          exec c s = .next (passing (replyTo q .done (t.seg.door d).eng.state.code s) t)
        (x.eng.inService = back → exec c s = .next (passing (replyTo q .done x.eng.state.code s) s))
        ∧ (x.eng.inService ≠ back →
          (back = false → x.eng.state = .absent →
            serves (s.seg.putDoor d { x with eng := { x.eng with inService := false } }))
          ∧ (back = false → x.eng.state ≠ .absent → ∃ g, serves g
            ∧ (g.door d).eng.state = .outOfService ∧ (g.door d).eng.inService = false
            ∧ (g.door d).eng.target = none ∧ (g.door d).eng.drive = false ∧ (g.door d).eng.retry = 0
            ∧ (g.door d).eng.owed = none ∧ (g.door d).eng.pendingTarget = none ∧ (g.door d).eng.deferral = .none
            ∧ (g.door d).eng.timer.running = false ∧ (g.door d).mon.watch = none
            ∧ (g.door d).drop.pulse = x.drop.pulse.cancel ∧ (∀ e ∈ g.queue, e.door ≠ d)
            ∧ (∀ k ∈ faultKinds, (g.door d).eng.live.get k = false)
            ∧ (let n := if x.eng.pulseAcked then x.eng.timer.remaining else x.eng.pulseRunTime
              (g.door d).charge = (if (s.env.profile d).lockKind ≠ .motor then ⟨0, .none, 0, 0⟩
                else if x.charge.basis ≠ .run then x.charge
                else if n = 0 then ⟨0, .none, 0, 0⟩ else ⟨x.charge.units, .tail, n, 0⟩))
            ∧ (g.door d).eng.sticky = x.eng.sticky ∧ KeepsSides s.seg g)
          ∧ (back = true → ¬(x.eng.state = .outOfService ∧ s.env.fitted d = true ∧ s.env.profileDefective d = false) →
            serves (s.seg.putDoor d { x with eng := { x.eng with inService := true } }))
          ∧ (back = true → x.eng.state = .outOfService → s.env.fitted d = true → s.env.profileDefective d = false →
            (s.seg.fire.latch = true → ∃ g, serves g ∧ (g.door d).eng.state = .egress
              ∧ (g.door d).eng.inService = true ∧ (g.door d).eng.target = none ∧ KeepsSides s.seg g)
            ∧ (s.seg.fire.latch = false → s.clock.second = none → ∃ g, serves g ∧ (g.door d).eng.state = .holding
              ∧ (g.door d).eng.inService = true ∧ (g.door d).eng.target = none ∧ KeepsSides s.seg g)
            ∧ (s.seg.fire.latch = false → ∀ p, expectedPosture s.env s.seg.exemptions d = some p →
              ∃ g1, (g1.door d).eng = { x.eng.enter .holding with
                  target := none, inService := true, live := (g1.door d).eng.live }
                ∧ (x.mon.enable = false → (g1.door d).eng.live = x.eng.live) ∧ OnlyDoor d s.seg g1
                ∧ g1.queue = s.seg.queue ∧ g1.seqr = s.seg.seqr ∧ (g1.door d).charge = x.charge ∧ (g1.door d).sup = x.sup
                ∧ (g1.door d).drop = x.drop ∧ (g1.door d).inputs = x.inputs
                ∧ serves (targetSet s.env d p s.env.catchUp none g1))))))

/-- CLEAR_DOOR_EVENTS (R172), CLEAR_EXCEPTION (R174) and RESET_FAULT (R130, R172). The response value of CLEAR_DOOR_EVENTS is given by no
rule (log 40). A door in FAULTED stands in no queue (R87). That a CLEAR_EXCEPTION with an index of 65 or above is BAD_INDEX whatever its
value, one of 13 or above too, is the model's choice (log 68). A door in FAULTED goes toward its target by the table of R115 or R116
(TargetSetByState has takeSecured and takeReleased), whatever posture is sensed, with its retry count 0. -/
def Obligations.ClearRequests : Prop :=
  ∀ (h : ReqHead) (index : Byte) (s : State), Addressed h s →
    (64 ≤ index.toNat → ∀ c q, (c, q) ∈ [(Instr.clearDoorEvents h index, indexRequest .clearDoorEvents h index 0),
        (Instr.resetFault h index, indexRequest .resetFault h index 0)] →
      exec c s = .next (passing (replyTo q .badIndex 0 s) s))
    ∧ (∀ d : DoorNo, d.val = index.toNat →
      let x := s.seg.door d
      let q := indexRequest .resetFault h index 0
      let cleared := { x.eng with live := { x.eng.live with
        notSecured := false, notReleased := false, overcurrent := false, openCircuit := false } }
      let serves (g : Segment) : Prop :=
        let t := settled { s with seg := g }
        exec (.resetFault h index) s = .next (passing (replyTo q .done (t.seg.door d).eng.state.code s) t)
      (∃ (v : Value) (n : Nat), exec (.clearDoorEvents h index) s = .next
        (passing (responseRecord s.addressNo (indexRequest .clearDoorEvents h index 0) .done v)
          { s with seg := { s.seg.putDoor d { x with eng := { x.eng with sticky := .clear } } with free := n } }))
      ∧ (x.eng.state ≠ .faulted → serves (s.seg.putDoor d { x with eng := cleared }))
      ∧ (x.eng.state = .faulted → x.eng.target = none → ∃ g, serves g ∧ OnlyDoor d s.seg g
          ∧ (g.door d).eng.state = .holding ∧ (g.door d).eng.retry = 0 ∧ (g.door d).eng.live = cleared.live)
      ∧ (x.eng.state = .faulted → (∀ e ∈ s.seg.queue, e.door ≠ d) → ∀ p, x.eng.target = some p →
          x.sensedOutside (s.env.profile d) = some p → ∃ g, serves g
          ∧ (g.door d).eng.state = p.state ∧ (g.door d).eng.target = some p ∧ (g.door d).eng.retry = 0
          ∧ (g.door d).eng.owed = none ∧ (g.door d).eng.live = cleared.live)
      ∧ (x.eng.state = .faulted → ∀ p, x.eng.target = some p →
        let begun := s.seg.putDoor d { x with eng := { cleared with
          beforeAttempt := some p, retry := 0, force := false
          fallback := if p = .secured then .secured else .released } }
        serves (if p = .secured then takeSecured s.env d .already begun else takeReleased s.env d .already begun)))
    ∧ (∀ value : Value,
      let q := indexRequest .clearException h index value
      (65 ≤ index.toNat → exec (.clearException h index value) s = .next (passing (replyTo q .badIndex 0 s) s))
      ∧ (index.toNat ≤ 64 → 13 ≤ value.toNat →
        exec (.clearException h index value) s = .next (passing (replyTo q .badValue 0 s) s))
      ∧ (index.toNat ≤ 64 → ∀ k : Kind, k.code = value.toNat →
        let door : Option DoorNo := if hd : index.toNat < 64 then some ⟨index.toNat, hd⟩ else none
        let listed : Prop := ∃ x ∈ s.seg.exceptions, x.door = door ∧ x.kind = k
        let t (n : Nat) := passing (replyTo q .done n s)
          { s with seg := { s.seg with
              exceptions := s.seg.exceptions.filter (fun x => !(x.door == door && x.kind == k)) } }
        (listed → exec (.clearException h index value) s = .next (t 1))
        ∧ (¬ listed → exec (.clearException h index value) s = .next (t 0))))

/-- STORE and STORE_ENTRY_COMPLETE (R48, R177): the request's tests and its answer; the entry under way is written from the working
copy, for GROUPMAP from the sorted one, whose used entries stand first in ascending site group with every mark clear; with the last one
the store is IDLE, the table's marks are clear, and the working GROUPMAP stands as it was stored (log 38). Of every table, the entry under
way is stored as the working copy has it, and no other entry and no other table changes. The marks that clear with a table of DOOR or
PROFILE act on every door in ascending number (R176, log 62), as WriteDoor and RestoreReloads have it. That STORE_ENTRY_COMPLETE with no
write in progress changes nothing is the model's choice (log 7). -/
def Obligations.StoreWritesEntries : Prop :=
  (∀ (h : ReqHead) (table : Byte) (s : State), Addressed h s →
    let q := tableRequest .store h table
    (7 ≤ table.toNat → exec (.store h table) s = .next (passing (replyTo q .badTable 0 s) s))
    ∧ (∀ tb : TableName, tb.ix.val = table.toNat →
      (s.store.writing.isSome = true → exec (.store h table) s = .next (passing (replyTo q .storeBusy 0 s) s))
      ∧ (s.store.writing = none →
        exec (.store h table) s = .next (passing (replyTo q .done tb.count s) { s with store := ⟨some (tb, 0), 0⟩ }))))
  ∧ (∀ s : State, s.power = .running →
    (s.store.writing = none → exec .storeEntryComplete s = .next s)
    ∧ (∀ tb i, s.store.writing = some (tb, i) →
      (i + 1 < tb.count → exec .storeEntryComplete s
        = .next { s with stored := s.stored.writeEntry s.work tb i, store := ⟨some (tb, i + 1), 0⟩ })
      ∧ (tb.count ≤ i + 1 → ∃ t, exec .storeEntryComplete s = .next t
        ∧ t.stored = s.stored.writeEntry s.work tb i ∧ t.store.writing = none
        ∧ t.work = s.work.clean tb ∧ t.work.defects tb = 0 ∧ t.work.corrected[tb.ix] = false
        ∧ t.seg = settle t.env (match tb with
          | .door => allDoors.foldl (fun g d => doorChanged s.env t.env d g) s.seg
          | .profile => allDoors.foldl (fun g d => profileChanged s.env t.env d g) s.seg
          | _ => s.seg)
        ∧ t.power = s.power ∧ t.trunk = s.trunk ∧ t.clock = s.clock ∧ KeepsSides s.seg t.seg)))
  ∧ (∀ (st : StoredTables) (w : Tables),
    st.writeEntry w .segment 0 = { st with segment := .readable w.segment.value }
    ∧ (∀ i : Fin 8, st.writeEntry w .slotmap i = { st with slotmap := st.slotmap.set i (.readable w.slotmap[i].value) })
    ∧ (∀ i : Fin 32, st.writeEntry w .groupmap i
        = { st with groupmap := st.groupmap.set i (.readable (sortGroupMap w.groupmap)[i].value) })
    ∧ (∀ i : Fin 64, st.writeEntry w .door i = { st with door := st.door.set i (.readable w.door[i].value) })
    ∧ (∀ i : Fin 8, st.writeEntry w .profile i = { st with profile := st.profile.set i (.readable w.profile[i].value) })
    ∧ (∀ i : Fin 80, st.writeEntry w .program i = { st with program := st.program.set i (.readable w.program[i].value) })
    ∧ (∀ i : Fin 48, st.writeEntry w .dayplan i = { st with dayplan := st.dayplan.set i (.readable w.dayplan[i].value) }))
  ∧ (∀ w : Tables, (w.clean .groupmap).groupmap = sortGroupMap w.groupmap)
  ∧ (∀ v : GroupMap, (usedEntries (sortGroupMap v)).Perm (usedEntries v)
    ∧ (usedEntries (sortGroupMap v)).Pairwise (fun a b => a.site ≤ b.site)
    ∧ (∀ j : Fin 32, (sortGroupMap v)[j].defective = false
      ∧ ((sortGroupMap v)[j].value.isSome = true ↔ j.val < (usedEntries v).length)))

/-- RESTORE (R28, R178): the tests in their order; otherwise the table is reloaded from its stored copy, answered DONE with the number of
defective entries; the fired marks of changed DAYPLAN entries clear; for the tables that no door reads at once, each defective entry is an
occurrence of STORE_DEFECT, and nothing else happens in the segment. For the others the same occurrences come first (log 44); a changed
capacity has the queue considered and FIRE_IN is judged by the polarity (R89, R164), or every door, in ascending number (log 62), takes its
entry (WriteDoor) or its profile's: another lock kind changes the drive request (log 48; the charge of a drive-off: logs 59, 78, 81; a door
LOST from an actuation: log 89), other functions or polarities are taken as a WRITE of them (the loss of LOCK_DRIVE's terminal: log 83; the
TAMPER flag: log 87), and the profile's mark as in WriteProfile. And what every load makes of the stored entries (R175): erased, readable,
corrected and uncorrectable ones, a slot number or a site group held twice, the placing of the group map, the corrected marks. -/
def Obligations.RestoreReloads : Prop :=
  (∀ (h : ReqHead) (table : Byte) (s : State), Addressed h s →
    let q := tableRequest .restore h table
    let c := Instr.restore h table
    (7 ≤ table.toNat → exec c s = .next (passing (replyTo q .badTable 0 s) s))
    ∧ (∀ tb : TableName, tb.ix.val = table.toNat →
      (s.store.writing.isSome = true → exec c s = .next (passing (replyTo q .storeBusy 0 s) s))
      ∧ (s.store.writing = none →
          s.seg.seqr.run.isSome = true ∨ s.seg.seqr.queue ≠ []
            ∨ ((tb = .door ∨ tb = .profile) ∧ ∃ d, (s.seg.door d).eng.state.settled = false) →
          exec c s = .next (passing (replyTo q .refusedState 0 s) s))
      ∧ (s.store.writing = none → s.seg.seqr.run = none → s.seg.seqr.queue = [] →
          (tb = .door ∨ tb = .profile → ∀ d, (s.seg.door d).eng.state.settled = true) →
          ∃ t, exec c s = .next t
            ∧ t.work = s.work.replace (loadTables s.stored) tb
            ∧ t.trunk = s.trunk.accept (replyTo q .done (t.work.defects tb) s)
            ∧ t.stored = s.stored ∧ t.store = s.store ∧ t.power = s.power
            ∧ (∀ i : Fin 48, t.clock.fired[i] = (s.clock.fired[i]
                && (tb != .dayplan || s.work.dayplan[i].value == t.work.dayplan[i].value)))
            ∧ t.clock = { s.clock with fired := t.clock.fired }
            ∧ (let listed := listMany t.env .storeDefect (t.work.defects tb) s.seg
              (tb ≠ .segment → tb ≠ .door → tb ≠ .profile → t.seg = listed)
              ∧ (tb = .segment →
                let g := if s.work.segment.value.capacity = t.work.segment.value.capacity then listed else consider t.env listed
                let active := s.fireInHigh == t.work.segment.value.fireActiveHigh
                t.seg = settle t.env (if active = g.fire.reading then g
                  else { g with fire := { g.fire with reading := active, persistence := 0 } }))
              ∧ (tb = .door → t.seg = settle t.env (allDoors.foldl (fun g d => doorChanged s.env t.env d g) listed))
              ∧ (tb = .profile → t.seg = settle t.env (allDoors.foldl (fun g d => profileChanged s.env t.env d g) listed))))))
  ∧ (∀ st : StoredTables,
    let w := loadTables st
    let loads : ∀ {α : Type}, α → Stored α → Working α := fun {_} default x => match x with
      | .erased => ⟨default, false⟩
      | .readable a => ⟨a, false⟩
      | .correctable a => ⟨a, false⟩
      | .uncorrectable => ⟨default, true⟩
    let twiceSlot (i : Fin 8) : Prop := ∃ y, (loads none st.slotmap[i]).value = some y
      ∧ ∃ j : Fin 8, j < i ∧ ∃ z, (loads none st.slotmap[j]).value = some z ∧ z.slot = y.slot
    let twiceSite (i : Fin 32) : Prop := ∃ y, (loads none st.groupmap[i]).value = some y
      ∧ ∃ j : Fin 32, j < i ∧ ∃ z, (loads none st.groupmap[j]).value = some z ∧ z.site = y.site
    w.segment = loads .default st.segment
    ∧ (∀ d : DoorNo, w.door[d] = loads .default st.door[d])
    ∧ (∀ p : Fin 8, w.profile[p] = loads .default st.profile[p])
    ∧ (∀ i : Fin 80, w.program[i] = loads .default st.program[i])
    ∧ (∀ i : Fin 48, w.dayplan[i] = loads none st.dayplan[i])
    ∧ (∀ i : Fin 8, (twiceSlot i → w.slotmap[i] = ⟨none, true⟩) ∧ (¬ twiceSlot i → w.slotmap[i] = loads none st.slotmap[i]))
    ∧ (∀ i : Fin 32, w.groupmap[i].defective = true ↔ st.groupmap[i] = .uncorrectable ∨ twiceSite i)
    ∧ (∀ i : Fin 32, w.groupmap[i].defective = true → w.groupmap[i].value = none)
    ∧ (∀ y, y ∈ usedEntries w.groupmap ↔ ∃ i : Fin 32, (loads none st.groupmap[i]).value = some y ∧ ¬ twiceSite i)
    ∧ (usedEntries w.groupmap).Pairwise (fun a b => a.site < b.site)
    ∧ (∀ j k : Fin 32, j < k → w.groupmap[j].defective = false → w.groupmap[k].used.isSome = true →
        w.groupmap[j].used.isSome = true)
    ∧ (w.corrected[0] = true ↔ ∃ x, st.segment = .correctable x)
    ∧ (w.corrected[1] = true ↔ ∃ (i : Fin 8) (x : Option SlotMapEntry), st.slotmap[i] = .correctable x)
    ∧ (w.corrected[2] = true ↔ ∃ (i : Fin 32) (x : Option GroupMapEntry), st.groupmap[i] = .correctable x)
    ∧ (w.corrected[3] = true ↔ ∃ (i : Fin 64) (x : DoorEntry), st.door[i] = .correctable x)
    ∧ (w.corrected[4] = true ↔ ∃ (i : Fin 8) (x : ProfileEntry), st.profile[i] = .correctable x)
    ∧ (w.corrected[5] = true ↔ ∃ (i : Fin 80) (x : ProgramEntry), st.program[i] = .correctable x)
    ∧ (w.corrected[6] = true ↔ ∃ (i : Fin 48) (x : Option DayPlanEntry), st.dayplan[i] = .correctable x))
  ∧ (∀ (old e : Env) (d : DoorNo) (g : Segment),
    let p := old.profile d
    let q := e.profile d
    let x := g.door d
    let drive : Bool := match q.lockKind, x.eng.state with
      | .motor, _ => false
      | .magnetic, .secured => true
      | .magnetic, .released => false
      | .strike, .secured => false
      | .strike, .released => true
      | _, _ => x.eng.drive
    let n := if x.eng.pulseAcked then x.eng.timer.remaining else x.eng.pulseRunTime
    let charge : Charge := if p.lockKind ≠ .motor then ⟨0, .none, 0, 0⟩
      else if x.charge.basis ≠ .run then x.charge
      else if n = 0 then ⟨0, .none, 0, 0⟩ else ⟨x.charge.units, .tail, n, 0⟩
    let stands := g.fire.latch = true ∨ x.eng.state = .outOfService ∨ x.eng.state = .holding
    let counts : Supervision := if stands then x.sup else ⟨0, 0⟩
    let h := rekindDoor old e d g
    (p.lockKind = q.lockKind ∨ drive = x.eng.drive → h = g)
    ∧ (p.lockKind ≠ q.lockKind → drive = true → x.eng.drive = false →
      h = g.putDoor d { x with eng := { x.eng with drive := true } })
    ∧ (p.lockKind ≠ q.lockKind → drive = false → x.eng.drive = true →
      h = consider e (g.putDoor d { x with charge := charge, eng := { x.eng with drive := false }, sup := counts }))
    ∧ profileChanged old e d g = reconcileProfile e d
        (if p.functions = q.functions ∧ p.inverted = q.inverted then h else remapDoor old e d h))

/-! ## Group commands -/

/-- A command slot (R11): a site group that is not 255 and has no group map entry leaves everything as it is. Where the command is taken,
only the controller's bit of the mask is set, under a new check. The same command given as a record does the same. The mapping (R11, R48):
255 is the whole segment, and a site group that a used entry without a mark holds is that entry's local group; the command is decoded
with that scope and its argument, and a step that falls due by it starts (log 9). -/
def Obligations.CommandSlotAnswer : Prop :=
  (∀ (c : Instr) (code : CommandCode) (x : CommandSlot) (s : State), c.asCommand = some (code, x) → Awaits .command s →
    x.siteGroup ≠ 255 → (∀ y ∈ usedEntries s.work.groupmap, y.site ≠ x.siteGroup.toNat) →
    exec c s = .next (passing (commandRecord code.code x) s))
  ∧ (∀ (c : Instr) (code : CommandCode) (x : CommandSlot) (s : State), c.asCommand = some (code, x) → Awaits .command s →
    exec (.slotRecord (commandRecord code.code x)) s = exec c s)
  ∧ (∀ (code : Byte) (x : CommandSlot) (a : Nat), 1 ≤ a → a ≤ 24 →
    (acknowledge a (commandRecord code x)).b0 = code ∧ trunkPasses (acknowledge a (commandRecord code x)) = true
    ∧ commandOf (acknowledge a (commandRecord code x)) = { x with mask := x.mask ||| 1#24 <<< (a - 1) })
  ∧ (∀ (w : Tables) (n : Nat), (n = 255 → scopeOf w n = some .segment)
    ∧ (n ≠ 255 → ∀ i : Fin 32, ∀ y, w.groupmap[i].defective = false → w.groupmap[i].value = some y → y.site = n →
        (∀ j : Fin 32, ∀ z, w.groupmap[j].defective = false → w.groupmap[j].value = some z → z.site = n → j = i) →
        scopeOf w n = some (.localGroup y.localGroup))
    ∧ (n ≠ 255 → (∀ i : Fin 32, ∀ y, w.groupmap[i].defective = false → w.groupmap[i].value = some y → y.site ≠ n) →
        scopeOf w n = none))
  ∧ (∀ (c : Instr) (code : CommandCode) (x : CommandSlot) (s : State) (sc : Scope), c.asCommand = some (code, x) →
    Commanded x sc s →
    let y := decodeCommand code sc x.argument s.env s.seg
    exec c s = .next (if y.1 = true then passing (acknowledge s.addressNo (commandRecord code.code x)) (settled { s with seg := y.2 })
      else passing (commandRecord code.code x) { s with seg := y.2 }))

/-- SECURE_GROUP, RELEASE_GROUP, RESUME_SCHEDULE (R156, R157): not taken under the fire latch (RESUME_SCHEDULE also while the clock is
unknown); taken, every member, in ascending door number, is handed the posture or its expected posture with the catch-up parameters
and no owed outcome. And what the effective exemption (R159) and the expected posture (R29) of a door are: an exemption first, KEEP_SECURED
before KEEP_RELEASED, then the latest relevant entry of today up to the minute, then the latest of yesterday, then the default. -/
def Obligations.GroupTargets : Prop :=
  (∀ (x : CommandSlot) (sc : Scope) (s : State), Commanded x sc s →
    let members := allDoors.filter (fun d => s.env.fitted d && (match sc with
      | .segment => true
      | .localGroup k => (s.env.doorEntry d).groups.getLsbD k.val))
    let untaken (code : CommandCode) : Host.Outcome State Fault Refusal := .next (passing (commandRecord code.code x) s)
    let taken (code : CommandCode) (f : DoorNo → Segment → Segment) : Host.Outcome State Fault Refusal :=
      .next (passing (acknowledge s.addressNo (commandRecord code.code x))
        (settled { s with seg := members.foldl (fun g d => f d g) s.seg }))
    (s.seg.fire.latch = true →
      exec (.secureGroup x) s = untaken .secureGroup ∧ exec (.releaseGroup x) s = untaken .releaseGroup
      ∧ exec (.resumeSchedule x) s = untaken .resumeSchedule)
    ∧ (s.seg.fire.latch = false →
      exec (.secureGroup x) s = taken .secureGroup (fun d => targetSet s.env d .secured s.env.catchUp none)
      ∧ exec (.releaseGroup x) s = taken .releaseGroup (fun d => targetSet s.env d .released s.env.catchUp none)
      ∧ (s.clock.second = none → exec (.resumeSchedule x) s = untaken .resumeSchedule)
      ∧ (s.clock.second ≠ none → exec (.resumeSchedule x) s = taken .resumeSchedule (fun d g =>
          match expectedPosture s.env g.exemptions d with
          | some p => targetSet s.env d p s.env.catchUp none g
          | none => g))))
  ∧ (∀ (xs : List Exemption) (x : DoorEntry),
    let covers (keep : Posture) : Prop := ∃ m ∈ xs, m.keep = keep ∧ x.groups.getLsbD m.group.val = true
    (covers .secured → effectiveExemption xs x = some .secured)
    ∧ (¬ covers .secured → covers .released → effectiveExemption xs x = some .released)
    ∧ (¬ covers .secured → ¬ covers .released → effectiveExemption xs x = none))
  ∧ (∀ (e : Env) (xs : List Exemption) (d : DoorNo),
    let x := e.doorEntry d
    let expected := expectedPosture e xs d
    let relevant (p : Fin 8) : Prop := 0 < e.stepCount p ∧ (∀ i : Fin 80, i.val / 10 = p.val → e.work.program[i].defective = false)
      ∧ ∃ k, 1 ≤ k ∧ k ≤ e.stepCount p ∧ x.groups.getLsbD (e.stepEntry p k).localGroup.val = true
    let entry (t i m : Nat) (y : DayPlanEntry) : Prop := i < 6 ∧ e.planEntry t i = some y ∧ y.minute ≤ m ∧ relevant y.program
    let latest (t m : Nat) (y : DayPlanEntry) : Prop := ∃ i, entry t i m y
      ∧ ∀ j z, entry t j m z → z.minute < y.minute ∨ (z.minute = y.minute ∧ j ≤ i)
    let given (y : DayPlanEntry) : Posture := match (e.stepEntry y.program 1).kind with
      | .lockup => .secured
      | .release => .released
    (∀ i : Fin 48, e.planEntry (i.val / 6) (i.val % 6)
        = if e.work.dayplan[i].defective then none else e.work.dayplan[i].value)
    ∧ (e.clock.second = none → expected = none)
    ∧ (∀ n, e.clock.second = some n →
      (∀ keep, effectiveExemption xs x = some keep → expected = some keep)
      ∧ (effectiveExemption xs x = none →
        (∀ y, latest e.clock.today (n / 60) y → expected = some (given y))
        ∧ ((∀ i y, ¬ entry e.clock.today i (n / 60) y) →
          (∀ y, latest e.clock.yesterday 1439 y → expected = some (given y))
          ∧ ((∀ i y, ¬ entry e.clock.yesterday i 1439 y) → expected = some x.defaultPosture)))))

/-- EXEMPT_RELEASED, EXEMPT_SECURED, END_EXEMPTION (R156, R160, R161): when they are taken, the entry they make or remove, and the
members that are handed a target. -/
def Obligations.ExemptionCommands : Prop :=
  ∀ (x : CommandSlot) (sc : Scope) (s : State), Commanded x sc s →
    let expiry := x.argument.toNat % 2048
    let next := x.argument.getLsbD 11
    let untaken (code : CommandCode) : Host.Outcome State Fault Refusal := .next (passing (commandRecord code.code x) s)
    let taken (code : CommandCode) (g : Segment) : Host.Outcome State Fault Refusal :=
      .next (passing (acknowledge s.addressNo (commandRecord code.code x)) (settled { s with seg := g }))
    (sc = .segment → exec (.exemptReleased x) s = untaken .exemptReleased
      ∧ exec (.exemptSecured x) s = untaken .exemptSecured ∧ exec (.endExemption x) s = untaken .endExemption)
    ∧ (∀ k, sc = .localGroup k →
      let listed : Prop := ∃ y ∈ s.seg.exemptions, y.group = k
      let accepted : Prop := s.clock.second ≠ none ∧ expiry ≤ 1439 ∧ (next = true ∨ s.clock.minute < expiry)
        ∧ (listed ∨ s.seg.exemptions.length < 16)
      (∀ c code keep, (c, code, keep) ∈ [(Instr.exemptReleased x, CommandCode.exemptReleased, Posture.released),
          (Instr.exemptSecured x, CommandCode.exemptSecured, Posture.secured)] →
        (¬ accepted → exec c s = untaken code)
        ∧ (accepted → ∃ xs : List Exemption,
          xs.find? (fun y => y.group == k) = some ⟨k, keep, expiry, if next then 1 else 0⟩
          ∧ xs.filter (fun y => y.group != k) = s.seg.exemptions.filter (fun y => y.group != k)
          ∧ exec c s = taken code
            (((groupMembers s.env k).filter (fun d => effectiveExemption xs (s.env.doorEntry d) == some keep)).foldl
              (fun g d => targetSet s.env d keep s.env.catchUp none g) { s.seg with exemptions := xs })))
      ∧ (¬ listed → exec (.endExemption x) s = taken .endExemption s.seg)
      ∧ (∀ y, s.seg.exemptions.find? (fun y => y.group == k) = some y →
        exec (.endExemption x) s = taken .endExemption
          ((groupMembers s.env k).foldl (fun g d =>
            match effectiveExemption g.exemptions (s.env.doorEntry d) with
            | none => giveExpected s.env d g
            | some keep => if keep = y.keep then g else targetSet s.env d keep s.env.catchUp none g)
            { s.seg with exemptions := s.seg.exemptions.filter (fun z => z.group != k) })))

/-- START_PROGRAM (R138, R140, R141, R156, R158): not taken for a local group or an argument above 7; a request that one of R138's lines
drops is not taken, and the drop is recorded with its RUN_DROPPED exception; otherwise the run starts, or the program is queued. -/
def Obligations.StartRequest : Prop :=
  ∀ (x : CommandSlot) (sc : Scope) (s : State), Commanded x sc s →
    let untaken (g : Segment) : Host.Outcome State Fault Refusal :=
      .next (passing (commandRecord 7 x) { s with seg := g })
    let taken (q : Sequencer) : Host.Outcome State Fault Refusal :=
      .next (passing (acknowledge s.addressNo (commandRecord 7 x)) (settled { s with seg := { s.seg with seqr := q } }))
    let q := s.seg.seqr
    (sc ≠ .segment ∨ 8 ≤ x.argument.toNat → exec (.startProgram x) s = untaken s.seg)
    ∧ (sc = .segment → ∀ p : Fin 8, p.val = x.argument.toNat →
      let reason : Option DropReason :=
        if s.seg.fire.latch then some .fire
        else if s.env.programDefective p then some .defective
        else if s.env.stepCount p = 0 then some .disabled
        else if q.run.any (fun r => r.program == p) then some .active
        else if p ∈ q.queue then some .queued
        else if q.run.isSome ∧ 4 ≤ q.queue.length then some .full
        else none
      (∀ y, reason = some y → exec (.startProgram x) s = untaken
        { s.seg with
          seqr := { q with dropped := some ⟨p, y, s.clock.minute⟩ }
          exceptions := handException (fun z => z.active s.seg) none .runDropped none s.clock.minute s.seg.exceptions })
      ∧ (reason = none → q.run.isSome = true → exec (.startProgram x) s = taken { q with queue := q.queue ++ [p] })
      ∧ (reason = none → q.run = none → ∃ r : Run, exec (.startProgram x) s = taken { q with run := some r }
        ∧ r.program = p ∧ r.startMinute = s.clock.minute ∧ r.steps.length = s.env.stepCount p
        ∧ ∀ i z, r.steps[i]? = some z → z.state = .delaying ∧ z.remaining = (s.env.stepEntry p (i + 1)).offset
          ∧ z.baseReached = (i == 0) ∧ z.due = (i == 0 && z.remaining == 0 && !s.env.hold)
          ∧ z.startMinute = none ∧ z.doneMinute = none ∧ z.members = []))

/-- ABORT_RUN (R150, R151, R154, R156): not taken for a local group; without a run only the queue is emptied; with one, the summary ends
ABORTED, no run is active, the queue is empty, no door owes an outcome, and a door that owed none and waits for no grant is as
before. The doors that owe one are aborted in ascending number, by the table of R151: what they owe is answered OVERRIDDEN, a pending
target that carried it is dropped, and a door that waits is reverted (R119, ArbiterConsiders); every other one goes on, one in EXIT_SHUNT
too, for which R151 has no line (log 66). -/
def Obligations.AbortEndsRun : Prop :=
  (∀ (x : CommandSlot) (sc : Scope) (s : State), Commanded x sc s →
    let ack := acknowledge s.addressNo (commandRecord 8 x)
    (sc ≠ .segment → exec (.abortRun x) s = .next (passing (commandRecord 8 x) s))
    ∧ (sc = .segment → s.seg.seqr.run = none → exec (.abortRun x) s
      = .next (passing ack { s with seg := { s.seg with seqr := { s.seg.seqr with queue := [] } } }))
    ∧ (sc = .segment → ∀ r, s.seg.seqr.run = some r → ∃ t y, exec (.abortRun x) s = .next t
      ∧ t.trunk = s.trunk.accept ack ∧ t.power = s.power ∧ t.clock = s.clock ∧ KeepsTables s t ∧ KeepsSides s.seg t.seg
      ∧ t.seg.seqr.run = none ∧ t.seg.seqr.queue = [] ∧ t.seg.seqr.summary = some y
      ∧ y.program = r.program ∧ y.ending = .aborted ∧ y.startMinute = r.startMinute ∧ y.endMinute = s.clock.minute
      ∧ (∀ d, (t.seg.door d).eng.owes = none)
      ∧ (∀ d, (s.seg.door d).eng.owes = none → (∀ e ∈ s.seg.queue, e.door ≠ d) → t.seg.door d = s.seg.door d)
      ∧ (let g := (allDoors.filter (fun d => (s.seg.door d).eng.owes.isSome)).foldl (fun g d => abortDoor s.env d g) s.seg
        (∀ d, t.seg.door d = g.door d) ∧ ∃ r', g.seqr.run = some r' ∧ y = r'.summarise s.env .aborted)))
  ∧ (∀ (e : Env) (d : DoorNo) (g : Segment),
    let x := g.door d
    let carried := x.eng.pendingTarget.bind (fun q => q.owed)
    let h := { g.putDoor d { x with eng := { x.eng with
        owed := none, pendingTarget := if carried.isSome then none else x.eng.pendingTarget } } with
      seqr := (answer e d carried .overridden (answer e d x.eng.owed .overridden g)).seqr }
    abortDoor e d g = (if x.eng.state ∈ [DoorState.quietWait, .warning, .awaitGrant] then consider e (revert e d h) else h))

/-- FIRE_RESTORE (R156, R166, R167): not taken for a local group, while FIRE_IN reads ACTIVE, or with EMERGENCY_RELEASE in the last valid
header; taken without the latch it has no effect; taken with it the latch and its cause clear, the queue is considered, and each door
in EGRESS, in ascending number, enters HOLDING with target NONE and its LOCK_DRIVE level off (a door without held levels too, log 32) and,
while the clock is known, is handed its expected posture with the catch-up parameters; one that reads it then is in it. -/
def Obligations.FireRestoreClearsLatch : Prop :=
  ∀ (x : CommandSlot) (sc : Scope) (s : State), Commanded x sc s →
    let ack := acknowledge s.addressNo (commandRecord 9 x)
    (sc ≠ .segment ∨ s.seg.fire.reading = true ∨ s.seg.fire.lastEmergency = true →
      exec (.fireRestore x) s = .next (passing (commandRecord 9 x) s))
    ∧ (sc = .segment → s.seg.fire.reading = false → s.seg.fire.lastEmergency = false →
      (s.seg.fire.latch = false → exec (.fireRestore x) s = .next (passing ack (settled s)))
      ∧ (s.seg.fire.latch = true → ∃ g, exec (.fireRestore x) s = .next (passing ack (settled { s with seg := g }))
        ∧ g.fire = { s.seg.fire with latch := false, cause := none }
        ∧ g = allDoors.foldl (fun g d =>
            if (g.door d).eng.state = .egress then
              let h := g.upd s.env d (fun x => { x with
                eng := { x.eng.enter .holding with target := none }, drop := x.drop.heldOff (s.env.profile d) })
              match expectedPosture s.env g.exemptions d with
              | some p => targetSet s.env d p s.env.catchUp none h
              | none => h
            else g) (consider s.env { s.seg with fire := { s.seg.fire with latch := false, cause := none } })
        ∧ (∀ d, (s.seg.door d).eng.state = .egress → (∀ q ∈ s.seg.queue, q.door ≠ d) →
          ∀ p, expectedPosture s.env s.seg.exemptions d = some p → (s.seg.door d).sensedOutside (s.env.profile d) = some p →
          (g.door d).eng.state = p.state ∧ (g.door d).eng.target = some p
          ∧ (g.door d).eng.params = s.work.segment.value.params)
        ∧ (s.clock.second = none → s.seg.queue = [] → ∀ d,
          ((s.seg.door d).eng.state ≠ .egress → g.door d = s.seg.door d)
          ∧ ((s.seg.door d).eng.state = .egress → (g.door d).eng.state = .holding ∧ (g.door d).eng.target = none
            ∧ (g.door d).lockLevel false (s.env.profile d) = false))))

/-! ## Clock and fire input -/

/-- CLOCK_TICK (R18, R22, R24, R28): right behind a header that has changed the second of day it is the tick that was due, and is not
taken (log 71). Otherwise, while the clock is unknown a tick only restarts the phase; else the second of day advances by one, at
midnight the day types move on and the fired marks clear before the boundary of minute 0 (log 18), and at every other time a mark that
is set stays set. Away from a minute boundary nothing else happens but that steps due by then start (log 9). At a boundary each due entry
of today hands a start request, in plan order (R26, R27, R138): the request of a single one is dropped for R138's reason, or its run has started or, with nothing to wait for, has run.
A minute told and a rollover let exemptions expire (R161): each entry is removed in turn, and its members, in ascending number (log 73),
are handed the posture that remains; at a boundary that fires nothing that is all, and one at midnight follows the rollover (log 18).
While RESET_N is held nothing happens (log 5). -/
def Obligations.ClockTickAdvances : Prop :=
  ∀ s : State,
    (s.power = .resetHeld → exec .clockTick s = .next s)
    ∧ (s.power ≠ .resetHeld → s.clock.justSet = true →
      exec .clockTick s = .next { s with clock := { s.clock with justSet := false } })
    ∧ (s.power ≠ .resetHeld → s.clock.justSet = false → s.clock.second = none →
      exec .clockTick s = .next (settled { s with clock := { s.clock with phase := 0 } }))
    ∧ (s.power ≠ .resetHeld → s.clock.justSet = false → ∀ c, s.clock.second = some c → c < 86400 →
      ∃ t, exec .clockTick s = .next t
        ∧ t.clock.second = some ((c + 1) % 86400) ∧ t.clock.phase = 0 ∧ t.clock.justSet = false
        ∧ t.clock.lastSite = s.clock.lastSite
        ∧ (c ≠ 86399 → t.clock.today = s.clock.today ∧ t.clock.tomorrow = s.clock.tomorrow
            ∧ t.clock.yesterday = s.clock.yesterday)
        ∧ (c = 86399 → t.clock.today = s.clock.tomorrow ∧ t.clock.tomorrow = 7 ∧ t.clock.yesterday = s.clock.today)
        ∧ ((c + 1) % 60 ≠ 0 → t = settled { s with clock := { s.clock with second := some (c + 1), phase := 0 } })
        ∧ (∀ i : Fin 48, t.clock.fired[i] = true →
            (s.clock.fired[i] = true ∧ c ≠ 86399)
            ∨ ((c + 1) % 60 = 0 ∧ i.val / 6 = t.clock.today
              ∧ ∃ y, t.env.planEntry (i.val / 6) (i.val % 6) = some y ∧ y.minute = (c + 1) % 86400 / 60))
        ∧ (c ≠ 86399 → ∀ i : Fin 48, s.clock.fired[i] = true → t.clock.fired[i] = true)
        ∧ (∀ i : Fin 48, (c + 1) % 60 = 0 → i.val / 6 = t.clock.today →
            ∀ y, t.env.planEntry (i.val / 6) (i.val % 6) = some y → y.minute = (c + 1) % 86400 / 60 →
            t.clock.fired[i] = true)
        ∧ t.power = s.power ∧ t.trunk = s.trunk ∧ KeepsTables s t
        ∧ (let m := (c + 1) / 60
          c ≠ 86399 → (c + 1) % 60 = 0 → s.seg.seqr.run = none → s.seg.seqr.queue = [] →
          (∀ x ∈ s.seg.exemptions, ¬(x.dayCount = 0 ∧ x.expiry ≤ m)) →
          ∀ p, duePrograms m s = [p] →
          (∀ y, dropReason s.env p s.seg = some y →
            t.seg.seqr.run = none ∧ t.seg.seqr.dropped = some ⟨p, y, m⟩)
          ∧ (dropReason s.env p s.seg = none →
            (∃ r, t.seg.seqr.run = some r ∧ r.program = p ∧ r.startMinute = m)
            ∨ (t.seg.seqr.run = none ∧ ∃ y, t.seg.seqr.summary = some y ∧ y.program = p ∧ y.ending = .completed
                ∧ y.startMinute = m))))
    ∧ (∀ m : Nat, (fireMinute m s).seg = settle (fireMinute m s).env
        ((duePrograms m s).foldl (fun g p => (startRequest s.env p g).2) s.seg))
    ∧ (let removes (e : Env) (g : Segment) (k : Fin 16) : Segment := match g.exemptions.find? (fun y => y.group == k) with
        | none => g
        | some y => (groupMembers e k).foldl (fun g d =>
            match effectiveExemption g.exemptions (e.doorEntry d) with
            | none => (match expectedPosture e g.exemptions d with
              | some p => targetSet e d p e.catchUp none g
              | none => g)
            | some keep => if keep = y.keep then g else targetSet e d keep e.catchUp none g)
            { g with exemptions := g.exemptions.filter (fun z => z.group != k) }
      let lapsed (m : Nat) : List (Fin 16) :=
        (s.seg.exemptions.filter (fun x => x.dayCount == 0 && decide (x.expiry ≤ m))).map (fun x => x.group)
      let ended : List (Fin 16) := (s.seg.exemptions.filter (fun x => x.dayCount == 0)).map (fun x => x.group)
      let kept := s.seg.exemptions.map (fun x => if x.dayCount = 0 then x else { x with dayCount := 0 })
      let midnight : Clock := { s.clock with
        yesterday := s.clock.today, today := s.clock.tomorrow, tomorrow := 7, fired := .replicate 48 false }
      (∀ m : Nat, tellMinute m s = { s with seg := settle s.env ((lapsed m).foldl (removes s.env) s.seg) })
      ∧ (let r := { s with clock := midnight }
        rollover s = { r with seg := settle r.env (ended.foldl (removes r.env) { s.seg with exemptions := kept }) }))
    ∧ (s.power ≠ .resetHeld → s.clock.justSet = false → s.seg.seqr.run = none → ∀ c, s.clock.second = some c →
      let quiet (m : Nat) (z : State) : Segment := (tellMinute m { z with seg := { z.seg with free := z.seg.free + 1 } }).seg
      let clockAt (n : Nat) : State := { s with clock := { s.clock with second := some n, phase := 0 } }
      (c < 86399 → (c + 1) % 60 = 0 → duePrograms ((c + 1) / 60) s = [] → ∃ t, exec .clockTick s = .next t
        ∧ t.seg = quiet ((c + 1) / 60) (clockAt (c + 1)))
      ∧ (c = 86399 → (∀ i y, i < 6 → s.env.planEntry s.clock.tomorrow i = some y → y.minute ≠ 0) →
        ∃ t, exec .clockTick s = .next t ∧ t.seg = quiet 0 (rollover (clockAt 0))))

/-- A TRACKING header at the segment clock (R17, R19, R20, R21, R25): the first one sets the clock; then the difference, brought into
−43,199..43,200, gives the class, and the class what changes. A forward step passes its seconds one after another as ticks do, and so fires
every entry whose minute it passes; a clock step lists CLOCK_STEP, stamped with the new minute, and fires nothing. That the header's site
command is in force before those seconds pass is the model's order (log 36), and so is that what a minute or the header makes due starts at
the end of it (log 9). A header that changes the second of day has the tick that was due with it not taken (R22, log 71). The initial
application (R31) comes with the first such header, or at the end of learning (R98) once the clock is known: each HOLDING door is handed its
expected posture with the catch-up parameters, in ascending number (log 52). At a clock step over midnight the second is the header's before
the rollover (log 75), and the exemption table is told the minute behind the exception (log 37), at a backward step too, as R161's bullet
has it (log 79). What a first reply teaches (R42, R97, R98): the held levels of a drop without them (log 39), the charge by lock kind and
reported drive, and the test for the end of learning; in the last visit of a door no longer fitted, neither of the last two (log 86). -/
def Obligations.TrackingHeaderSetsClock : Prop :=
  (∀ (c : Instr) (r : TrunkRecord) (s : State), c.asRecord = some r → s.trunk.inserted = true →
    s.trunk.phase = .awaitHeader → headerIsValid r = true → s.trunk.state = .tracking ∨ 2 ≤ s.trunk.count →
    let second := (headerOf r).second
    let today := r.b4.toNat
    let tomorrow := r.b5.toNat
    ∃ t, exec c s = .next t
      ∧ (s.clock.second = none → t.clock = { s.clock with
            second := some second, phase := 0, justSet := true, today := today, tomorrow := tomorrow
            lastSite := siteOfCode r.b6 }
          ∧ t.seg = settle t.env (fireHeader t.env (siteOfCode r.b6) (settle t.env
            (if s.seg.initialDone = false ∧ s.seg.learning = false then
              { (allDoors.filter (fun d => (s.seg.door d).eng.state == .holding)).foldl (fun g d =>
                  match expectedPosture t.env g.exemptions d with
                  | some p => targetSet t.env d p t.env.catchUp none g
                  | none => g) s.seg with initialDone := true }
            else s.seg))))
      ∧ (∀ n, s.clock.second = some n → n < 86400 → ∃ d : Int,
        -43199 ≤ d ∧ d ≤ 43200 ∧ (d = second - n ∨ d = second - n - 86400 ∨ d = second - n + 86400)
        ∧ (d = -1 → t.clock = { s.clock with lastSite := siteOfCode r.b6 })
        ∧ (d = 0 → today = s.clock.today →
            t.clock = { s.clock with tomorrow := tomorrow, lastSite := siteOfCode r.b6 })
        ∧ (1 ≤ d → d ≤ 300 → today = (if (n : Int) + d < 86400 then s.clock.today else s.clock.tomorrow) →
            t.clock.second = some second ∧ t.clock.phase = 0 ∧ t.clock.justSet = true
            ∧ t.clock.today = today ∧ t.clock.tomorrow = tomorrow
            ∧ t.clock.yesterday = (if (n : Int) + d < 86400 then s.clock.yesterday else s.clock.today)
            ∧ t.clock.lastSite = siteOfCode r.b6
            ∧ t.seg = settle t.env (fireHeader t.env (siteOfCode r.b6) (secondsPass d.toNat
                { s with trunk := t.trunk, clock := { s.clock with lastSite := siteOfCode r.b6 } }).seg)
            ∧ (∀ i : Fin 48, t.clock.fired[i] = true ↔
                ((n : Int) + d < 86400 ∧ s.clock.fired[i] = true)
                ∨ (i.val / 6 = today ∧ ∃ y, s.env.planEntry today (i.val % 6) = some y ∧ y.minute < 1440
                  ∧ (if (n : Int) + d < 86400 then n < 60 * y.minute ∧ 60 * y.minute ≤ n + d.toNat
                    else 60 * y.minute + 86400 ≤ n + d.toNat))))
        ∧ ((d = 0 ∧ today ≠ s.clock.today) ∨ d < -1 ∨ 300 < d
            ∨ (1 ≤ d ∧ d ≤ 300 ∧ today ≠ (if (n : Int) + d < 86400 then s.clock.today else s.clock.tomorrow)) →
          t.clock.second = some second ∧ t.clock.phase = 0 ∧ t.clock.justSet = (s.clock.justSet || decide (d ≠ 0))
          ∧ t.clock.today = today ∧ t.clock.tomorrow = tomorrow
          ∧ t.clock.lastSite = siteOfCode r.b6
          ∧ (if 0 < d ∧ 86400 ≤ (n : Int) + d
              then t.clock.yesterday = s.clock.today ∧ ∀ i : Fin 48, t.clock.fired[i] = false
              else t.clock.yesterday = s.clock.yesterday ∧ t.clock.fired = s.clock.fired)
          ∧ (let stepped : State := { s with trunk := t.trunk, clock := { s.clock with
                second := some second, phase := 0, justSet := t.clock.justSet, lastSite := siteOfCode r.b6 } }
            let rolled : State := if 0 < d ∧ 86400 ≤ (n : Int) + d then rollover stepped else stepped
            let dated : State := { rolled with clock := t.clock }
            t.seg = settle t.env (fireHeader t.env (siteOfCode r.b6)
              (tellMinute (second / 60) { dated with seg := listException dated.env none .clockStep none dated.seg }).seg))
          ∧ (siteOfCode r.b6 ≠ .emergencyRelease → s.seg.exemptions = [] → s.seg.seqr.run = none →
            t.seg.exceptions
                = handException (fun x => x.active s.seg) none .clockStep none (second / 60) s.seg.exceptions
              ∧ t.seg.seqr = s.seg.seqr ∧ t.seg.doors = s.seg.doors))))
  ∧ (∀ (e : Env) (g : Segment),
    let ends : Prop := g.learning = true ∧ e.loaded = true
      ∧ ∀ d, e.fitted d = true → (g.door d).drop.firstReply = true ∨ (g.door d).drop.lost = true
    let h := consider e { g with learning := false }
    (¬ ends → testLearning e g = g)
    ∧ (ends → testLearning e g = (if h.initialDone = false ∧ e.clock.second ≠ none then
        { (allDoors.filter (fun d => (h.door d).eng.state == .holding)).foldl (fun g d =>
            match expectedPosture e g.exemptions d with
            | some p => targetSet e d p e.catchUp none g
            | none => g) h with initialDone := true }
        else h)))
  ∧ (∀ (e : Env) (d : DoorNo) (r : Reply) (g : Segment),
    let p := e.profile d
    let x := g.door d
    let charge : Charge := if p.lockKind ≠ .motor ∧ x.reported p = some true then ⟨p.holdUnits, .hold, 0, 0⟩ else ⟨0, .none, 0, 0⟩
    let seen := g.upd e d (fun x => { x with drop := { x.drop with
      firstReply := true, held := some (x.drop.held.getD (learnedLevels p r)) } })
    learn e d g = testLearning e (consider e (g.putDoor d { x with charge := charge }))
    ∧ takeFirstReply e d r g = (if x.drop.firstReply = true then g else if e.fitted d = true then learn e d seen else seen)
    ∧ ∀ i : Fin 6, (learnedLevels p r).getLsbD i.val = (p.functions[i].isOutput && (r.outputs.getLsbD i.val != p.inverted[i])))

/-- FIRE_IN_CHANGE and FIRE_PERSISTENCE_EXPIRY (R134, R152, R163, R164, R165): the reading follows the pin through the polarity, and a
change of it returns the persistence timer to 0; at 200 ms of ACTIVE the latch is set with cause FIRE_IN where it is clear: every pulse is
cancelled, every door but the ABSENT, OUT_OF_SERVICE and LOST ones enters EGRESS, no drive is on, no run is active. The drive-off that goes
with it takes a MAGNETIC or STRIKE door's charge to 0, and leaves a MOTOR door in its run a tail of what its run timer still held, or of the
whole pulse run time where its pulse is not acknowledged (R94, R95), in whole ticks (log 59); one whose pulse was never posted has none (log
78), and one with basis HOLD keeps its charge (log 81). That FIRE_PERSISTENCE_EXPIRY is taken at any count of the timer, and changes nothing
at a reading of INACTIVE, is the model's choice (log 7); a step that falls due by then starts (log 9). -/
def Obligations.FireInput : Prop :=
  (∀ (high : Bool) (s : State),
    let active := high == s.work.segment.value.fireActiveHigh
    exec (.fireInChange high) s = .next
      (if s.power = .running ∧ active ≠ s.seg.fire.reading then
        { s with fireInHigh := high
                 seg := { s.seg with fire := { s.seg.fire with reading := active, persistence := 0 } } }
      else { s with fireInHigh := high }))
  ∧ (∀ s : State, s.power = .running →
    (s.seg.fire.reading = false → exec .firePersistenceExpiry s = .next (settled s))
    ∧ (s.seg.fire.reading = true → s.seg.fire.latch = true → exec .firePersistenceExpiry s
      = .next (settled { s with seg := { s.seg with fire := { s.seg.fire with persistence := 200 } } }))
    ∧ (s.seg.fire.reading = true → s.seg.fire.latch = false → ∃ t, exec .firePersistenceExpiry s = .next t
      ∧ t.power = s.power ∧ t.trunk = s.trunk ∧ t.clock = s.clock ∧ KeepsTables s t
      ∧ t.seg.fire = { s.seg.fire with latch := true, cause := some .fireIn, persistence := 200 }
      ∧ t.seg.seqr.run = none ∧ t.seg.seqr.queue = []
      ∧ (∀ r, s.seg.seqr.run = some r → ∃ y, t.seg.seqr.summary = some y ∧ y.program = r.program ∧ y.ending = .fire
          ∧ y.startMinute = r.startMinute ∧ y.endMinute = s.clock.minute)
      ∧ (∀ d, (t.seg.door d).eng.state =
          (if (s.seg.door d).eng.state ∈ [DoorState.absent, .outOfService, .lost] then (s.seg.door d).eng.state else .egress))
      ∧ (∀ d, (t.seg.door d).drop.pulse = (s.seg.door d).drop.pulse.cancel)
      ∧ (∀ d, (t.seg.door d).lockLevel true (s.env.profile d) = false)
      ∧ (∀ d,
        let x := s.seg.door d
        let n := if x.eng.pulseAcked then x.eng.timer.remaining else x.eng.pulseRunTime
        (t.seg.door d).charge = (if x.eng.state = .absent ∨ x.eng.state = .outOfService then x.charge
          else if (s.env.profile d).lockKind ≠ .motor then ⟨0, .none, 0, 0⟩
          else if x.charge.basis ≠ .run then x.charge
          else if n = 0 then ⟨0, .none, 0, 0⟩ else ⟨x.charge.units, .tail, n, 0⟩))
      ∧ (∀ d, (s.seg.door d).eng.state ∉ [DoorState.absent, .outOfService, .lost] →
          (t.seg.door d).eng.target = none ∧ (t.seg.door d).eng.drive = false ∧ (t.seg.door d).eng.owed = none
          ∧ (t.seg.door d).eng.pendingTarget = none ∧ (t.seg.door d).eng.deferral = .none
          ∧ (t.seg.door d).eng.retry = 0 ∧ (t.seg.door d).eng.force = false ∧ (t.seg.door d).mon.watch = none
          ∧ (t.seg.door d).eng.live = (s.seg.door d).eng.live ∧ (t.seg.door d).eng.sticky = (s.seg.door d).eng.sticky)
      ∧ (∀ d, (s.seg.door d).eng.state = .lost → (t.seg.door d).eng.drive = false
          ∧ (t.seg.door d).eng.target = (s.seg.door d).eng.target)))

/-! ## Branches -/

/-- BRANCH_SLOT_START (R42 to R45, R50, R52, R63): with no drop to poll nothing (R50), and within a slot nothing, which is the model's choice
(log 7); else the drop chosen, or the lowest polled one, is visited with a command that passes its check and carries its number, Apply, the LOCK_DRIVE, SOUNDER and INDICATOR levels,
the pulse fields of its pulse state and the run time; with Apply SET the held levels are the levels sent. The LOCK_DRIVE level of a
HOLDING door without held levels is given by no rule while Apply is CLEAR (log 16). -/
def Obligations.BranchSlotBegins : Prop :=
  ∀ (b : BranchNo) (s : State), s.power = .running →
    let y := s.seg.branch b
    let chosen := y.next.or (allDrops.find? (fun k => polled s.env (doorAt b k) s.seg))
    (y.visiting.isSome = true ∨ chosen = none → exec (.branchSlotStart b) s = .next s)
    ∧ (∀ k, y.visiting = none → chosen = some k →
      let d := doorAt b k
      let x := s.seg.door d
      let apply := x.drop.held.isSome || s.seg.fire.latch || x.eng.state == .outOfService || x.drop.leaving != .no
      ∃ t r, exec (.branchSlotStart b) s = .next t
        ∧ t.power = s.power ∧ t.trunk = s.trunk ∧ t.clock = s.clock ∧ KeepsTables s t
        ∧ (t.seg.branch b).visiting = some k ∧ (t.seg.branch b).next = none ∧ (t.seg.branch b).sent = some r
        ∧ (∀ j, j ≠ b → t.seg.branch j = s.seg.branch j)
        ∧ branchPasses r = true
        ∧ (branchCommandOf r).drop = BitVec.ofNat 4 k.val ∧ (branchCommandOf r).apply = apply
        ∧ ((branchCommandOf r).kind, (branchCommandOf r).seq) = (match x.drop.pulse with
            | .none => (0, x.drop.pulseSeq)
            | .outstanding .throw => (1, x.drop.pulseSeq)
            | .outstanding .withdraw => (2, x.drop.pulseSeq)
            | .held _ => (0, x.drop.pulseSeq - 1)
            | .cancelled _ => (0, x.drop.pulseSeq))
        ∧ (∀ i : Fin 6, (branchCommandOf r).dirs.getLsbD i.val = (s.env.profile d).functions[i].isOutput)
        ∧ (∀ i : Fin 6, (s.env.profile d).functions[i] = .sounder →
            (branchCommandOf r).levels.getLsbD i.val
              = ((x.eng.state == .warning && !s.seg.fire.latch) != (s.env.profile d).inverted[i]))
        ∧ (∀ i : Fin 6, (s.env.profile d).functions[i] = .indicator →
            (branchCommandOf r).levels.getLsbD i.val
              = ((if x.eng.live.any then s.seg.flash.on else x.eng.state == .secured) != (s.env.profile d).inverted[i]))
        ∧ (¬(x.eng.state = .holding ∧ x.drop.held = none ∧ apply = false) →
          ∀ k, (s.env.profile d).terminalOf .lockDrive = some k → ∀ i : Fin 6, (s.env.profile d).functions[i] = .lockDrive →
            (branchCommandOf r).levels.getLsbD i.val
              = ((if s.seg.fire.latch || x.eng.state == .outOfService then false
                  else if x.eng.state = .holding then (x.drop.held.getD 0).getLsbD k.val
                  else x.eng.drive) != (s.env.profile d).inverted[i]))
        ∧ (branchCommandOf r).runTime = BitVec.ofNat 6 (match x.drop.pulse with
            | .outstanding _ => x.eng.pulseRunTime
            | _ => (s.env.profile d).runTime)
        ∧ (∀ i : Fin 6, (s.env.profile d).functions[i].isOutput = false → (branchCommandOf r).levels.getLsbD i.val = false)
        ∧ (apply = false → (t.seg.door d).drop.held = none)
        ∧ (apply = true → ∃ lv, (t.seg.door d).drop.held = some lv ∧ ∀ i : Fin 6,
            (branchCommandOf r).levels.getLsbD i.val = ((s.env.profile d).functions[i].isOutput
              && (lv.getLsbD i.val != (s.env.profile d).inverted[i])))
        ∧ (t.seg.door d).eng = x.eng ∧ (t.seg.door d).mon = x.mon ∧ (t.seg.door d).inputs = x.inputs
        ∧ (t.seg.door d).charge = x.charge ∧ OnlyDoor d s.seg t.seg ∧ t.seg.queue = s.seg.queue)

/-- REPLY_WINDOW_END (R33, R42, R46, R50, R54, R56 to R59, R68, R97, R98, R112, R132). Outside a slot nothing, the model's choice (log 7).
What is received first decides, a code violation too, where R54 says so of two records (log 91). A miss counts, clears the good count and
hands nothing on, and the fourth in a row takes a PRESENT drop to LOST; a good reply from a LOST drop counts and nothing else before the
eighth. A reply that is taken gives the named inputs, the held levels of a first reply where no visit has commanded any (log 39), the last
condition and sequence, the enable, the TAMPER flag, and the charge and the end of learning that a first reply brings (R97, during learning
too, with Apply SET at a sound current). At the loss the door engine raises LOST and, but in ABSENT, OUT_OF_SERVICE and EGRESS, takes the
door to LOST as R131 has it: the state kept, what it owed answered LOST, no place in the queue, no watch, the timers stopped as they stand,
the exit window closed (a door lost from HOLDING: LineCondition, log 82). The FOUND reply takes a LOST door on by the state it was lost from:
toward a posture its lock does not show as R115 and R116 have it, from the target, or the pending target of an abandoned actuation, with its
fallback from that same target (log 88), under the lock kind of the moment, which a RESTORE may have changed (log 89). The branch leaves its
slot for the next drop of the order, and a last visit leaves its door ABSENT. A MOTOR door that its first reply leaves in DRIVING has posted
one pulse by it, not two (R62, R66, log 49). That the pulse and the enable come before the FOUND notice is the model's order (log 26), and so
is that an input which was not assigned at the previous good reply, with the reference SET, gives no TAMPER event though it reads ACTIVE now
(log 54). -/
def Obligations.ReplyWindow : Prop :=
  ∀ (b : BranchNo) (received : List Reception) (s : State), s.power = .running →
    let y := s.seg.branch b
    let goes (g : Segment) : Prop := exec (.replyWindowEnd b received) s = .next (settled { s with seg := g })
    (y.visiting = none → goes s.seg)
    ∧ (∀ k, y.visiting = some k →
      let d := doorAt b k
      let x := s.seg.door d
      let lowest := allDrops.find? (fun j => polled s.env (doorAt b j) s.seg)
      let next := (allDrops.find? (fun j => k.val < j.val && polled s.env (doorAt b j) s.seg)).or lowest
      let good : Prop := ∃ r rest, received = .record r :: rest ∧ GoodReply b k r s
      (x.drop.leaving = .lastVisit → ∃ g, goes g ∧ (g.door d).eng.state = .absent ∧ (g.door d).drop.leaving = .no
        ∧ (∀ q ∈ g.queue, q.door ≠ d) ∧ (g.branch b).visiting = none)
      ∧ (x.drop.leaving ≠ .lastVisit →
        let counted (drop : Drop) : Prop :=
          goes ((s.seg.putDoor d { x with drop := drop }).putBranch b { y with visiting := none, next := next })
        (∃ g, goes g ∧ g.branches = s.seg.branches.set b { y with visiting := none, next := next })
        ∧ (¬ good → x.drop.lost = true ∨ x.drop.missCount < 3 →
          counted { x.drop with missCount := min 4 (x.drop.missCount + 1), goodCount := 0 })
        ∧ (¬ good → x.drop.lost = false → x.drop.missCount = 3 →
          (∀ q ∈ s.seg.queue, q.door = d → x.eng.state = .awaitGrant) → ∃ g, goes g
          ∧ (g.door d).drop = { x.drop with lost := true, missCount := 4, goodCount := 0, reference := false }
          ∧ (g.door d).eng.live.lost = true ∧ (g.door d).eng.sticky.lost = true ∧ (g.door d).inputs = x.inputs
          ∧ (x.eng.state ∈ [DoorState.absent, .outOfService, .egress, .lost] →
            (g.door d).eng = { x.eng with live := (g.door d).eng.live, sticky := (g.door d).eng.sticky }
            ∧ (g.door d).charge = x.charge)
          ∧ (x.eng.state ∉ [DoorState.absent, .outOfService, .egress, .lost] →
            let y := (g.door d).eng
            y.state = .lost ∧ y.lostFrom = x.eng.state ∧ y.owed = none ∧ y.target = x.eng.target
            ∧ y.pendingTarget = x.eng.pendingTarget.map (fun q => { q with owed := none })
            ∧ y.timer = { x.eng.timer with running := false } ∧ y.deferral = x.eng.deferral
            ∧ y.exitWindow = false ∧ y.recordedWhileLost = false
            ∧ (g.door d).mon.watch = none ∧ (∀ q ∈ g.queue, q.door ≠ d)
            ∧ (x.eng.state ≠ .holding → y.drive = x.eng.drive ∧ (g.door d).charge = x.charge)
            ∧ (x.drop.firstReply = true → (∀ q ∈ s.seg.queue, q.door = d) → g.seqr = (answer s.env d
                (x.eng.pendingTarget.bind (fun q => q.owed)) .lost (answer s.env d x.eng.owed .lost s.seg)).seqr)))
        ∧ (good → x.drop.lost = true → x.drop.goodCount < 7 →
          counted { x.drop with missCount := 0, goodCount := x.drop.goodCount + 1 })))
    ∧ (∀ k r rest, received = .record r :: rest → GoodReply b k r s →
      let d := doorAt b k
      let x := s.seg.door d
      let p := s.env.profile d
      let now := replyOf r
      let reads (f : TermFn) (levels : BitVec 6) : Option Bool :=
        (p.terminalOf f).map (fun i => levels.getLsbD i.val != p.inverted[i])
      let localBegins : Prop := now.localFault = true ∧ x.drop.lastLocalFault = false
      let tamperEvent : Prop := x.drop.lost = false ∧ x.drop.reference = true ∧ x.inputs.tamper = some false
        ∧ reads .tamper now.inputs = some true
      x.drop.leaving ≠ .lastVisit → x.drop.lost = false ∨ 7 ≤ x.drop.goodCount → ∃ g, goes g
        ∧ (g.door d).inputs = { position := reads .position now.inputs, bolt := reads .bolt now.inputs
                                exitRequest := reads .exitRequest now.inputs, tamper := reads .tamper now.inputs
                                reportedDrive := some ((reads .lockDrive now.outputs).getD false)
                                current := some now.current, inputLevels := some now.inputs
                                outputLevels := some now.outputs }
        ∧ (g.door d).drop.missCount = 0 ∧ (g.door d).drop.goodCount = min 8 (x.drop.goodCount + 1)
        ∧ (g.door d).drop.lost = false ∧ (g.door d).drop.reference = true ∧ (g.door d).drop.firstReply = true
        ∧ (g.door d).drop.lastSeq = now.seq ∧ (g.door d).drop.lastLocalFault = now.localFault
        ∧ (x.drop.firstReply = true ∨ x.drop.held ≠ none → (g.door d).drop.held = x.drop.held)
        ∧ (x.drop.firstReply = false → x.drop.held = none → ∃ lv, (g.door d).drop.held = some lv ∧ ∀ i : Fin 6,
            lv.getLsbD i.val = (p.functions[i].isOutput && (now.outputs.getLsbD i.val != p.inverted[i])))
        ∧ (g.door d).mon.enable = (s.env.fitted d && (g.door d).eng.state != .absent
            && (g.door d).eng.state != .outOfService && p.assigns .position)
        ∧ (x.eng.state ≠ .absent →
          ((g.door d).eng.live.tamper = true ↔ (x.eng.live.tamper = true ∨ localBegins ∨ tamperEvent)
            ∧ (now.localFault = true ∨ reads .tamper now.inputs = some true))
          ∧ (tamperEvent → (g.door d).eng.sticky.tamper = true ∧ (g.door d).eng.sticky.tamperReason = some .terminal)
          ∧ (localBegins → ¬ tamperEvent →
              (g.door d).eng.sticky.tamper = true ∧ (g.door d).eng.sticky.tamperReason = some .localFault))
        ∧ (g.learning = true ↔ s.seg.learning = true ∧ (x.drop.firstReply = true ∨ s.env.fitted d = false
            ∨ ∃ j, j ≠ d ∧ s.env.fitted j = true ∧ (s.seg.door j).drop.firstReply = false ∧ (s.seg.door j).drop.lost = false))
        ∧ (x.drop.firstReply = false → x.drop.lost = false → s.env.fitted d = true → x.drop.reference = false →
          x.eng.state ∉ [DoorState.quietWait, .verifying] → g.learning = s.seg.learning →
          y.sentApply = false ∨ SoundCurrent p r → (∀ q ∈ s.seg.queue, q.door ≠ d) →
          (g.door d).eng.state = x.eng.state ∧ (g.door d).charge
            = (if p.lockKind ≠ .motor ∧ reads .lockDrive now.outputs = some true then ⟨p.holdUnits, .hold, 0, 0⟩
               else ⟨0, .none, 0, 0⟩))
        ∧ (x.drop.firstReply = false → p.lockKind = .motor → QueueOk s.seg → (g.door d).eng.state = .driving →
            (g.door d).drop.pulseSeq = x.drop.pulseSeq + 1)
        ∧ (x.drop.lost = true → (g.door d).eng.live.lost = false)
        ∧ (x.drop.lost = true → x.eng.state = .lost → (∀ q ∈ s.seg.queue, q.door ≠ d) →
          y.sentLock = false ∨ x.eng.drive = false ∨ SoundCurrent p r →
          let z := { x with inputs := (g.door d).inputs, drop := (g.door d).drop }
          let back := (g.door d).eng
          let runs : Timer := { x.eng.timer with running := true }
          (s.seg.fire.latch = true → back.state = .egress ∧ back.target = none ∧ back.drive = false
            ∧ back.pendingTarget = none)
          ∧ (s.seg.fire.latch = false →
            (x.eng.lostFrom = .driving → x.eng.abandoned = false →
              back.state = .driving ∧ back.target = x.eng.target ∧ back.owed = x.eng.owed
              ∧ (x.drop.pulse = .none → p.lockKind ≠ .motor → back.timer = runs))
            ∧ (x.eng.lostFrom = .verifying → x.eng.abandoned = false → x.eng.pendingTarget = none →
              ∀ q, x.eng.target = some q →
              (z.sensedAs (some q) p = some q → back.state = q.state ∧ back.target = some q ∧ back.owed = none)
              ∧ (z.sensedAs (some q) p ≠ some q → back.state = .verifying ∧ back.timer = runs))
            ∧ (x.eng.lostFrom = .cooling ∨ x.eng.lostFrom = .exitShunt →
              back.state = x.eng.lostFrom ∧ back.timer = runs ∧ back.target = x.eng.target)
            ∧ (x.eng.lostFrom = .faulted → ¬(x.eng.recordedWhileLost = true ∧ x.eng.target = some .released) →
              back.state = .faulted ∧ back.owed = none ∧ back.target = x.eng.target)
            ∧ (x.eng.lostFrom ∉ [DoorState.driving, .verifying, .cooling, .exitShunt, .faulted]
                ∨ (x.eng.lostFrom ∈ [DoorState.driving, .verifying] ∧ x.eng.abandoned = true) →
              let given := if x.eng.lostFrom ∈ [DoorState.driving, .verifying] then
                (x.eng.pendingTarget.map (fun q => q.posture)).or x.eng.target else x.eng.target
              (given = none → back.state = .holding ∧ back.target = none)
              ∧ (∀ q, given = some q → z.sensedOutside p = some q →
                back.state = q.state ∧ back.target = some q ∧ back.owed = none)
              ∧ (∀ q, given = some q → z.sensedOutside p ≠ some q → ∃ h,
                g = { (if q = .secured then takeSecured s.env d .already h else takeReleased s.env d .already h) with
                  branches := g.branches }
                ∧ (h.door d).eng.state = .lost ∧ (h.door d).eng.target = some q ∧ (h.door d).eng.owed = none
                ∧ (h.door d).eng.retry = 0 ∧ (h.door d).eng.force = false ∧ (h.door d).eng.drive = x.eng.drive
                ∧ (h.door d).eng.fallback = (if q = .secured then .secured else .released)
                ∧ (h.door d).eng.params = (if x.eng.lostFrom ∈ [DoorState.driving, .verifying] then
                    (x.eng.pendingTarget.map (fun q => q.params)).getD x.eng.params else x.eng.params)
                ∧ (h.door d).inputs = (g.door d).inputs ∧ (∀ e ∈ h.queue, e.door ≠ d))))))

/-- LINE_FAULT and LINE_NORMAL (R60, R61): the condition of that branch alone changes; at LINE_FAULT a slot in progress is spoiled and every
polled drop of the branch becomes LOST with its good count 0 and its reference CLEAR, its miss count as it stands; a branch already in
LINE_FAULT sees nothing new. The drops are taken in ascending number, each with its notice and what it leads to (log 53), and the notice
comes before the enable (log 57). What a LOST notice does to its door's engine (R131): the flag is raised, and but in ABSENT, OUT_OF_SERVICE
and EGRESS the door goes to LOST with the state kept, what it owed answered LOST, its place in the queue and its watch gone, its timers
stopped as they stand and its exit window closed. It keeps its drive request and its charge (R96), but for a HOLDING door, whose request
takes the LOCK_DRIVE level of its held levels as R111 has it, with the drive-off that goes with a change from ON to OFF: that R111 stands
above R131 there is the model's choice (log 82). -/
def Obligations.LineCondition : Prop :=
  (∀ (b : BranchNo) (s : State), s.power ≠ .resetHeld →
    exec (.lineNormal b) s = .next { s with seg := s.seg.putBranch b { s.seg.branch b with lineFault := false } }
    ∧ ((s.seg.branch b).lineFault = true → exec (.lineFault b) s = .next (settled s))
    ∧ ((s.seg.branch b).lineFault = false → ∃ t, exec (.lineFault b) s = .next t
      ∧ t.power = s.power ∧ t.trunk = s.trunk ∧ t.clock = s.clock ∧ KeepsTables s t
      ∧ t.seg.branches = s.seg.branches.set b { s.seg.branch b with lineFault := true, spoiled := true }
      ∧ (∀ k : DropNo, polled s.env (doorAt b k) s.seg = true →
        (t.seg.door (doorAt b k)).drop.lost = true ∧ (t.seg.door (doorAt b k)).drop.goodCount = 0
        ∧ (t.seg.door (doorAt b k)).drop.reference = false
        ∧ (t.seg.door (doorAt b k)).drop.missCount = (s.seg.door (doorAt b k)).drop.missCount)
      ∧ (∀ d, branchOf d ≠ b → (t.seg.door d).drop.lost = (s.seg.door d).drop.lost)
      ∧ t.seg = settle s.env ((allDrops.map (doorAt b)).foldl (fun g d => faultDrop s.env d g)
          (s.seg.putBranch b { s.seg.branch b with lineFault := true, spoiled := true }))))
  ∧ (∀ (e : Env) (d : DoorNo) (g : Segment),
    let x := g.door d
    let cleared := g.putDoor d { x with drop := { x.drop with goodCount := 0, reference := false } }
    let gone := g.putDoor d { x with drop := { x.drop with lost := true, reference := false } }
    let told := reenable e d (lostNotice e d gone)
    (polled e d g = false → faultDrop e d g = g)
    ∧ (polled e d g = true → x.drop.lost = true → faultDrop e d g = cleared)
    ∧ (polled e d g = true → x.drop.lost = false → faultDrop e d g = becomeLost e d cleared)
    ∧ becomeLost e d g = (if x.drop.firstReply = true then told else testLearning e told))
  ∧ (∀ (e : Env) (d : DoorNo) (g : Segment), (∀ q ∈ g.queue, q.door = d → (g.door d).eng.state = .awaitGrant) →
    let x := g.door d
    let t := lostNotice e d g
    let y := (t.door d).eng
    y.live.lost = true ∧ y.sticky.lost = true ∧ (t.door d).drop = x.drop ∧ (t.door d).inputs = x.inputs
    ∧ (x.eng.state ∈ [DoorState.absent, .outOfService, .egress, .lost] →
      y = { x.eng with live := y.live, sticky := y.sticky } ∧ (t.door d).charge = x.charge ∧ OnlyDoor d g t
      ∧ t.queue = g.queue ∧ t.seqr = g.seqr)
    ∧ (x.eng.state ∉ [DoorState.absent, .outOfService, .egress, .lost] →
      y.state = .lost ∧ y.lostFrom = x.eng.state ∧ y.owed = none ∧ y.target = x.eng.target
      ∧ y.pendingTarget = x.eng.pendingTarget.map (fun q => { q with owed := none })
      ∧ y.timer = { x.eng.timer with running := false } ∧ y.deferral = x.eng.deferral ∧ y.retry = x.eng.retry
      ∧ y.exitWindow = false ∧ y.recordedWhileLost = false ∧ y.abandoned = false
      ∧ (t.door d).mon.watch = none ∧ (∀ q ∈ t.queue, q.door ≠ d)
      ∧ (x.eng.state ≠ .holding → y.drive = x.eng.drive ∧ (t.door d).charge = x.charge)
      ∧ (x.eng.state = .holding → (e.profile d).lockKind = .motor ∨ x.drop.held ≠ none →
        y.drive = ((e.profile d).lockKind != .motor && x.heldDrive (e.profile d))
        ∧ (t.door d).charge = (if x.eng.drive = true ∧ y.drive = false then x.afterDriveOff (e.profile d) else x.charge))
      ∧ ((∀ q ∈ g.queue, q.door = d) → t.seqr = (answer e d (x.eng.pendingTarget.bind (fun q => q.owed)) .lost
          (answer e d x.eng.owed .lost g)).seqr)))

/-! ## Pulses, charges, supervision -/

/-- The pulse exchange at both ends (R62 to R66, R124): the post, the cancel, what the sequence a good reply reports makes of the pulse
state and of a door that waits for its acknowledgment, the pulse that waited for the first good reply (log 49), and a module that
carries a pulse out for its run time when its number is new to it, and never twice. -/
def Obligations.PulseExchange : Prop :=
  (∀ (e : Env) (d : DoorNo) (k : PulseKind) (g : Segment),
    ((postPulse e d k g).door d).drop.pulseSeq = (g.door d).drop.pulseSeq + 1
    ∧ ((postPulse e d k g).door d).drop.pulse
        = (if (g.door d).drop.pulseSeq + 1 = (g.door d).drop.lastSeq then .held k else .outstanding k)
    ∧ OnlyDoor d g (postPulse e d k g))
  ∧ (∀ (e : Env) (d : DoorNo) (g : Segment),
    ((cancelPulse e d g).door d).drop.pulseSeq = (g.door d).drop.pulseSeq
    ∧ ((cancelPulse e d g).door d).drop.pulse = (match (g.door d).drop.pulse with
        | .outstanding k => .cancelled k
        | .held k => .cancelled k
        | p => p))
  ∧ (∀ (e : Env) (d : DoorNo) (r : Reply) (g : Segment),
    let x := g.door d
    let y := (takePulse e d r g).door d
    let same : Prop := r.seq = x.drop.pulseSeq
    let acked : Prop := same ∧ ∃ k, x.drop.pulse = .outstanding k
    OnlyDoor d g (takePulse e d r g) ∧ y.drop.lastSeq = r.seq ∧ y.drop.pulseSeq = x.drop.pulseSeq
    ∧ y.drop.pulse = (match x.drop.pulse with
        | .none => .none
        | .outstanding k => if r.seq = x.drop.pulseSeq then .none else .outstanding k
        | .cancelled k => if r.seq = x.drop.pulseSeq then .none else .cancelled k
        | .held k => if r.seq = x.drop.pulseSeq then .held k else .outstanding k)
    ∧ (acked → x.eng.state = .driving →
        y.eng = { x.eng with pulseAcked := true, timer := ⟨x.eng.pulseRunTime, 0, true⟩ })
    ∧ (acked → x.eng.state = .lost → x.eng.lostFrom = .driving →
        y.eng = { x.eng with pulseAcked := true, timer := ⟨x.eng.pulseRunTime, 0, false⟩ })
    ∧ (¬ acked ∨ (x.eng.state ≠ .driving ∧ ¬(x.eng.state = .lost ∧ x.eng.lostFrom = .driving)) → y.eng = x.eng))
  ∧ (∀ (e : Env) (d : DoorNo) (g : Segment),
    let x := g.door d
    (x.awaitsPulse (e.profile d) = true ↔ x.drop.firstReply = false ∧ (e.profile d).lockKind = .motor
        ∧ (x.eng.state = .driving ∨ (x.eng.state = .lost ∧ x.eng.lostFrom = .driving ∧ x.eng.abandoned = false)))
    ∧ postWithheld e d true g = postPulse e d (if x.eng.target = some .released then .withdraw else .throw) g
    ∧ postWithheld e d false g = g)
  ∧ (∀ (m : DropModule) (c : BranchCommand),
    (m.lastSeq = none → m.carriesOut c = false)
    ∧ (m.lastSeq = some c.seq → m.carriesOut c = false ∧ (m.pulse c).running = m.running)
    ∧ (m.pulse c).lastSeq = some c.seq
    ∧ (m.carriesOut c = true → (m.pulse c).carriesOut c = false)
    ∧ (∀ n, m.lastSeq = some n → n ≠ c.seq →
        (c.kind = 1 → (m.pulse c).running = some (.throw, c.runTime))
        ∧ (c.kind = 2 → (m.pulse c).running = some (.withdraw, c.runTime))
        ∧ (c.kind = 0 → (m.pulse c).running = m.running))
    ∧ m.tick = { m with running := m.tick.running }
    ∧ (m.running = none → m.tick.running = none)
    ∧ (∀ k n, m.running = some (k, n) → m.tick.running = (if 2 ≤ n.toNat then some (k, n - 1) else none)))

/-- The head of the actuation queue (R87, R89, R90, R91, R123), and TAIL_EXPIRY (R95): it is granted where it fits; waits, with all behind
it, while another door is falling; is refused otherwise: the outcome it owes is answered BUDGET, its sticky flag is set and its exception
handed on; while learning or under the latch nothing moves. A MOTOR door granted before its drop's first good reply posts no pulse yet (R66,
log 49). A refusal reverts the door (R119): by its fallback, and for SECURED and RELEASED by the sensed posture, the drive request kept and
its waiting stopped; that its deferral then reads NONE is the model's (log 21): R119 stops it. A drive-off (R94, R95) takes the charge of a
MAGNETIC or STRIKE door to 0 and leaves a MOTOR door in its run a tail, in whole ticks (log 59; with no pulse posted, none: log 78; with
basis HOLD it keeps its charge: log 81), and has the queue considered. That TAIL_EXPIRY at a basis other than TAIL changes nothing is the
model's choice (log 7). -/
def Obligations.ArbiterConsiders : Prop :=
  (∀ (e : Env) (g : Segment), g.learning = true ∨ g.fire.latch = true ∨ g.queue = [] → consider e g = g)
  ∧ (∀ (e : Env) (g : Segment) (q : QueueEntry) (rest : List QueueEntry), g.queue = q :: rest →
    (∀ x ∈ rest, x.door ≠ q.door) → g.learning = false → g.fire.latch = false →
    let d := q.door
    let p := e.profile d
    let fitting : Prop := g.load - (g.door d).charge.units + p.runUnits ≤ e.work.segment.value.capacity
    (fitting → consider e g = consider e (grant e d g)
      ∧ ((grant e d g).door d).eng.state = .driving
      ∧ ((grant e d g).door d).charge = ⟨p.runUnits, .run, 0, 0⟩
      ∧ (grant e d g).queue = rest ∧ OnlyDoor d g (grant e d g)
      ∧ (p.lockKind ≠ .motor → ((grant e d g).door d).eng.drive = true
          ∧ ((grant e d g).door d).eng.timer = ⟨p.runTime, 0, true⟩)
      ∧ (p.lockKind = .motor → ((grant e d g).door d).eng.timer.running = false
          ∧ ((grant e d g).door d).eng.pulseAcked = false
          ∧ ((g.door d).drop.firstReply = true → ((grant e d g).door d).eng.pulseInAttempt = true
            ∧ ((grant e d g).door d).eng.pulseRunTime = p.runTime
            ∧ ((grant e d g).door d).drop.pulseSeq = (g.door d).drop.pulseSeq + 1)
          ∧ ((g.door d).drop.firstReply = false → ((grant e d g).door d).drop = (g.door d).drop
            ∧ ((grant e d g).door d).eng.pulseRunTime = 0)))
    ∧ (¬ fitting → (∃ j, j ≠ d ∧ (((g.door j).charge.basis = .run ∧ (g.door j).drop.lost = false)
          ∨ (g.door j).charge.basis = .tail)) → consider e g = g)
    ∧ (¬ fitting → (∀ j, j ≠ d → ¬(((g.door j).charge.basis = .run ∧ (g.door j).drop.lost = false)
          ∨ (g.door j).charge.basis = .tail)) →
        consider e g = consider e (refuse e d g)
        ∧ (refuse e d g).queue = rest ∧ ((refuse e d g).door d).charge = (g.door d).charge
        ∧ ((refuse e d g).door d).eng.sticky.budget = true ∧ ((refuse e d g).door d).eng.owed = none
        ∧ ((refuse e d g).door d).eng.state = ((revert e d g).door d).eng.state
        ∧ ((refuse e d g).door d).eng.target = ((revert e d g).door d).eng.target
        ∧ (let y := (g.door d).eng
          let told := answer e d y.owed .budget ({ g with queue := rest }.putDoor d { g.door d with
            eng := { y with owed := none, sticky := { y.sticky with budget := true } } })
          refuse e d g = revert e d { told with
            exceptions := handException (fun x => x.active g) (some d) .budget none e.minute g.exceptions })))
  ∧ (∀ (d : DoorNo) (s : State), s.power = .running →
    ((s.seg.door d).charge.basis ≠ .tail → exec (.tailExpiry d) s = .next (settled s))
    ∧ ((s.seg.door d).charge.basis = .tail → exec (.tailExpiry d) s = .next (settled { s with
        seg := consider s.env (s.seg.putDoor d { s.seg.door d with charge := ⟨0, .none, 0, 0⟩ }) })))
  ∧ (∀ (e : Env) (d : DoorNo) (g : Segment),
    let x := g.door d
    let seen := x.sensedOutside (e.profile d)
    let h := revert e d g
    let y := (h.door d).eng
    let comes (st : DoorState) (q : Option Posture) : Prop := y.state = st ∧ y.target = q
      ∧ (q.isSome = true → st ≠ .faulted → y.live.notSecured = false ∧ y.live.notReleased = false)
    OnlyDoor d g h ∧ h.queue = g.queue.filter (fun q => q.door != d) ∧ h.seqr = g.seqr
    ∧ y.drive = x.eng.drive ∧ y.owed = x.eng.owed ∧ y.deferral = .none ∧ y.timer.running = false
    ∧ (h.door d).mon.watch = none ∧ (h.door d).charge = x.charge ∧ (h.door d).drop = x.drop
    ∧ (x.eng.fallback = .none → comes .holding none)
    ∧ (x.eng.fallback = .faulted → comes .faulted x.eng.beforeAttempt)
    ∧ (x.eng.fallback = .secured → seen = some .secured → comes .secured (some .secured))
    ∧ (x.eng.fallback = .secured → seen ≠ some .secured → comes .holding none)
    ∧ (x.eng.fallback = .released →
      let stays : Prop := seen = some .released
        ∨ ((e.profile d).lockKind = .motor ∧ seen = none ∧ x.eng.pulseInAttempt = false)
      (stays → comes .released (some .released)) ∧ (¬ stays → comes .holding none)))
  ∧ (∀ (e : Env) (d : DoorNo) (g : Segment),
    let x := g.door d
    let n := if x.eng.pulseAcked then x.eng.timer.remaining else x.eng.pulseRunTime
    let charge : Charge := if (e.profile d).lockKind ≠ .motor then ⟨0, .none, 0, 0⟩
      else if x.charge.basis ≠ .run then x.charge
      else if n = 0 then ⟨0, .none, 0, 0⟩ else ⟨x.charge.units, .tail, n, 0⟩
    forceDriveOff e d g
        = consider e (g.upd e d (fun x => { x with charge := charge, eng := { x.eng with drive := false } }))
    ∧ (x.eng.drive = true → turnDriveOff e d g = forceDriveOff e d g) ∧ (x.eng.drive = false → turnDriveOff e d g = g))

/-- R101: the over-limit count at a compared reply with drive current I, over-limit O and hysteresis H; the lower edge is O − H, or 0
where H exceeds O. -/
def Obligations.OverLimitCount : Prop :=
  ∀ (p : ProfileEntry) (i count : Nat),
    let edge := if p.overLimit < p.hysteresis then 0 else p.overLimit - p.hysteresis
    (p.overLimit < i → overCount p i count = count + 1)
    ∧ (i ≤ edge → overCount p i count = 0)
    ∧ (edge < i → i ≤ p.overLimit → overCount p i count = count)
    ∧ (p.hysteresis = 0 → overCount p p.overLimit count = 0)
    ∧ (p.overLimit = 0 → (0 < i → overCount p i count = count + 1) ∧ overCount p 0 count = 0)
    ∧ (p.overLimit = 255 → i ≤ 255 → overCount p i count ≤ count)

/-- An exception handed to the list (R173, R174): a recurrence keeps its place; a new entry is appended, in place of the oldest inactive
one when the list is full; with none inactive it is not listed. -/
def Obligations.ExceptionHanded : Prop :=
  ∀ (e : Env) (door : Option DoorNo) (k : Kind) (sub : Option SubReason) (g : Segment),
    let m := e.clock.minute
    let new : ExceptionEntry := ⟨door, k, sub, m, m, 1⟩
    let t := listException e door k sub g
    let listed : Prop := ∃ x ∈ g.exceptions, x.door = door ∧ x.kind = k
    t = { g with exceptions := t.exceptions }
    ∧ (listed → t.exceptions = g.exceptions.map (fun x => if x.door = door ∧ x.kind = k then
        { x with lastMinute := m, occurrences := min 255 (x.occurrences + 1), subReason := sub } else x))
    ∧ (¬ listed → g.exceptions.length < 32 → t.exceptions = g.exceptions ++ [new])
    ∧ (¬ listed → 32 ≤ g.exceptions.length → (∀ x ∈ g.exceptions, x.active g = true) → t.exceptions = g.exceptions)
    ∧ (¬ listed → 32 ≤ g.exceptions.length → ∀ xs x ys, g.exceptions = xs ++ x :: ys → x.active g = false →
        (∀ z ∈ xs, z.active g = true) → t.exceptions = xs ++ ys ++ [new])

/-- A target set by the state it finds (R114 to R118, R130): disregarded and its outcome answered in ABSENT, OUT_OF_SERVICE and EGRESS;
recorded or held while LOST; pending in DRIVING and VERIFYING; one that equals the target leaves the door in its state with the new
parameters, and in QUIET_WAIT starts its deferral and its watch anew; a SECURED one in FAULTED is recorded only, as is one that COOLING
keeps. Every other one starts a new attempt toward its posture: what the door owed is answered OVERRIDDEN, and the table of R115 or R116
is read from the sensed posture. That the deferral reads NONE in SECURED, RELEASED and FAULTED is the model's choice (log 21). And what
the sensed posture is (R47), line by line: unknown unheard or LOST; by the reported drive, the drive current, POSITION and BOLT for a
MAGNETIC or STRIKE door; by BOLT and POSITION for a MOTOR door, which in verification needs its pulse acknowledged. A door that leaves
HOLDING takes its drive request from its held levels, and hands a change to OFF as a drive-off (R111). Last, the two tables themselves:
what takeSecured (R115) and takeReleased (R116) do by the sensed posture, the assignment of LOCK_DRIVE and the lock kind, and how a new
attempt begins (R117, R119): the target, the parameters, the fallback, a retry count of 0. -/
def Obligations.TargetSetByState : Prop :=
  (∀ (e : Env) (d : DoorNo) (p : Posture) (ps : Params) (owed : Option Nat) (g : Segment),
    let y := g.door d
    let x := y.eng
    let prof := e.profile d
    let t := targetSet e d p ps owed g
    let deferral : Machine.Deferral := if ps.deferralLimit = 0 then .none else .counting ps.deferralLimit
    let replaced := (answer e d x.owed .overridden g).seqr
    (x.state = .absent ∨ x.state = .outOfService → t = answer e d owed .absent g)
    ∧ (x.state = .egress → t = answer e d owed .overridden g)
    ∧ (x.state = .lost → (t.door d).eng.state = .lost ∧ (t.door d).eng.owed = x.owed ∧ OnlyDoor d g t
        ∧ (if x.lostFrom = .driving ∨ x.lostFrom = .verifying
            then (t.door d).eng.pendingTarget = some ⟨p, ps, none⟩ ∧ (t.door d).eng.target = x.target
            else (t.door d).eng.target = some p ∧ (t.door d).eng.params = ps
              ∧ t.seqr = (answer e d owed .lost g).seqr))
    ∧ (x.state = .driving ∨ x.state = .verifying →
        t.door d = { y with eng := { x with pendingTarget := some ⟨p, ps, owed⟩ } } ∧ OnlyDoor d g t
        ∧ t.seqr = (answer e d (x.pendingTarget.bind (fun q => q.owed)) .overridden g).seqr)
    ∧ (x.state = .secured ∨ x.state = .released → x.target = some p →
        t = answer e d owed .already (g.putDoor d { y with eng := { x with params := ps } }))
    ∧ (x.state = .faulted → p = .secured →
        t.door d = { y with eng := { x with target := some .secured, params := ps, owed := none } } ∧ OnlyDoor d g t)
    ∧ (x.state = .awaitGrant ∨ x.state = .exitShunt → x.target = some p →
        t.door d = { y with eng := { x with params := ps, owed := owed } } ∧ OnlyDoor d g t
        ∧ t.queue = g.queue ∧ t.seqr = replaced)
    ∧ (x.state = .cooling → x.target = some p
          ∨ ¬(prof.lockKind = .magnetic ∧ p = .released ∨ prof.lockKind = .strike ∧ p = .secured) →
        t.door d = { y with eng := { x with target := some p, params := ps, owed := owed } } ∧ OnlyDoor d g t
        ∧ t.queue = g.queue ∧ t.seqr = replaced)
    ∧ (x.state = .warning → x.target = some p →
        t.door d = { y with eng := { x with params := ps, owed := owed, deferralSub := 0, deferral := deferral } }
        ∧ OnlyDoor d g t ∧ t.seqr = replaced)
    ∧ (x.state = .quietWait → x.target = some p →
        let renewed := { x with params := ps, owed := owed, deferralSub := 0, deferral := deferral, force := false }
        (y.quiet prof ⟨ps.threshold, false⟩ = false →
          t.door d = { y with eng := renewed, mon := { y.mon with watch := some ⟨ps.threshold, false⟩ } }
          ∧ OnlyDoor d g t ∧ t.seqr = replaced)
        ∧ (y.quiet prof ⟨ps.threshold, false⟩ = true → 0 < ps.warning →
          t.door d = { y with
            eng := { renewed with state := .warning, timer := ⟨ps.warning, 0, true⟩ }, mon := { y.mon with watch := none } }
          ∧ OnlyDoor d g t ∧ t.seqr = replaced))
    ∧ ((x.target ≠ some p ∧ x.state ∈ [DoorState.released, .secured, .quietWait, .warning, .awaitGrant, .exitShunt])
        ∨ x.state = .holding ∨ (x.state = .faulted ∧ p = .released)
        ∨ (x.state = .cooling ∧ x.target ≠ some p
            ∧ (prof.lockKind = .magnetic ∧ p = .released ∨ prof.lockKind = .strike ∧ p = .secured)) →
      x.state = .awaitGrant ∨ (∀ q ∈ g.queue, q.door ≠ d) →
      let seen := y.sensedOutside prof
      let a := (t.door d).eng
      let begun (b : Engine) : Prop := b.target = some p ∧ b.params = ps ∧ b.retry = 0 ∧ b.force = false
        ∧ b.pendingTarget = x.pendingTarget
        ∧ b.fallback = (if x.state = .faulted then .faulted else match x.target with
            | none => .none
            | some .secured => .secured
            | some .released => .released)
      let alone : Prop := ∀ q ∈ g.queue, x.state = .awaitGrant ∧ q.door = d
      let already : Prop := a.state = p.state ∧ begun a ∧ a.owed = none ∧ a.deferral = .none ∧ a.timer.running = false
        ∧ (t.door d).mon.watch = (if x.state = .quietWait then none else y.mon.watch)
        ∧ a.live.notSecured = false ∧ a.live.notReleased = false
        ∧ a.drive = (prof.lockKind == .magnetic && p == .secured || prof.lockKind == .strike && p == .released)
        ∧ (alone → t.seqr = (answer e d owed .already (answer e d x.owed .overridden g)).seqr)
      (seen = some p → already)
      ∧ (p = .released → prof.lockKind = .motor → seen = none → x.lastSettled = .released →
          x.pulseInAttempt = false ∨ x.state = .released → already)
      ∧ (seen ≠ some p → ¬(p = .released ∧ prof.lockKind = .motor ∧ seen = none ∧ x.lastSettled = .released
            ∧ (x.pulseInAttempt = false ∨ x.state = .released)) →
        (prof.assigns .lockDrive = false → a.state = .faulted ∧ begun a ∧ a.owed = none ∧ a.deferral = .none
          ∧ (p = .secured → a.live.notSecured = true ∧ a.sticky.notSecured = true)
          ∧ (p = .released → a.live.notReleased = true ∧ a.sticky.notReleased = true)
          ∧ (alone → t.seqr = (answer e d owed .failed (answer e d x.owed .overridden g)).seqr))
        ∧ (prof.assigns .lockDrive = true → p = .released →
          (prof.lockKind = .magnetic → a.state = .verifying ∧ begun a ∧ a.owed = owed ∧ a.drive = false
            ∧ a.timer = ⟨prof.verifyTime, 0, true⟩ ∧ (alone → t.seqr = replaced))
          ∧ (prof.lockKind ≠ .magnetic → ∃ h, t = consider e h ∧ (h.door d).eng.state = .awaitGrant ∧ begun (h.door d).eng
            ∧ (h.door d).eng.owed = owed ∧ ⟨d, (e.doorEntry d).rank⟩ ∈ h.queue ∧ (alone → h.seqr = replaced)))
        ∧ (prof.assigns .lockDrive = true → p = .secured →
          (y.quiet prof ⟨ps.threshold, false⟩ = false → a.state = .quietWait ∧ begun a ∧ a.owed = owed
            ∧ a.deferral = deferral ∧ (t.door d).mon.watch = some ⟨ps.threshold, false⟩
            ∧ (x.state ≠ .holding → a.drive = x.drive)
            ∧ (x.state = .holding → prof.lockKind = .motor → a.drive = false)
            ∧ (x.state = .holding → prof.lockKind ≠ .motor → y.drop.held ≠ none → a.drive = y.heldDrive prof)
            ∧ (alone → t.seqr = replaced))
          ∧ (y.quiet prof ⟨ps.threshold, false⟩ = true → 0 < ps.warning → a.state = .warning ∧ begun a ∧ a.owed = owed
            ∧ a.deferral = deferral ∧ a.timer = ⟨ps.warning, 0, true⟩ ∧ (t.door d).mon.watch = none
            ∧ (alone → t.seqr = replaced))))))
  ∧ (∀ (v : Option Posture) (p : ProfileEntry) (x : Door),
    let has (f : TermFn) : Prop := ∃ k : Fin 6, p.functions[k] = f
    let drives (b : Bool) : Prop := (has .lockDrive → x.inputs.reportedDrive = some b) ∧ (¬ has .lockDrive → b = false)
    let current : Prop := ∃ i, x.inputs.current = some i ∧ p.underLimit ≤ i
    let closed : Prop := has .position → x.inputs.position = some false
    let engaged : Prop := has .bolt → x.inputs.bolt = some true
    let withdrawn : Prop := has .bolt → x.inputs.bolt = some false
    let reads (secured released : Prop) : Prop := (x.sensedAs v p = some .secured ↔ secured)
      ∧ (¬ secured → (x.sensedAs v p = some .released ↔ released))
    (x.drop.lost = true ∨ x.drop.firstReply = false → x.sensedAs v p = none)
    ∧ (x.drop.lost = false → x.drop.firstReply = true →
      (p.lockKind = .magnetic → reads (drives true ∧ current ∧ closed ∧ engaged) (drives false))
      ∧ (p.lockKind = .strike → reads (drives false ∧ closed ∧ engaged) (drives true ∧ current ∧ withdrawn))
      ∧ (p.lockKind = .motor →
        (v = none → reads (has .bolt ∧ x.inputs.bolt = some true ∧ closed) (has .bolt ∧ x.inputs.bolt = some false))
        ∧ (v = some .secured → reads (x.eng.pulseAcked = true ∧ engaged ∧ closed) False)
        ∧ (v = some .released → reads False (x.eng.pulseAcked = true ∧ withdrawn))))
    ∧ x.sensedOutside p = x.sensedAs none p
    ∧ x.sensed p = (if x.eng.state = .verifying then x.sensedAs x.eng.target p else x.sensedAs none p))
  ∧ (∀ (e : Env) (d : DoorNo) (g : Segment),
    let x := g.door d
    let p := e.profile d
    let held : Bool := match p.terminalOf .lockDrive with
      | some k => (x.drop.held.getD 0).getLsbD k.val
      | none => false
    let takes (on : Bool) (g : Segment) : Segment :=
      if on = true then g.upd e d (fun x => { x with eng := { x.eng with drive := true } })
      else if x.eng.drive = true then forceDriveOff e d g else g
    (x.eng.state ≠ .holding → leaveHolding e d g = g)
    ∧ (x.eng.state = .holding → p.lockKind = .motor → leaveHolding e d g = takes false g)
    ∧ (x.eng.state = .holding → p.lockKind ≠ .motor → x.drop.held ≠ none → leaveHolding e d g = takes held g)
    ∧ (x.eng.state = .holding → p.lockKind ≠ .motor → x.drop.held = none →
        ∃ on, leaveHolding e d g = takes on { g with free := g.free + 1 }))
  ∧ (∀ (e : Env) (d : DoorNo) (o : DoorOutcome) (g : Segment),
    let p := e.profile d
    let h := leaveHolding e d g
    let y := h.door d
    let seen := y.sensedOutside p
    let rested : Prop := p.lockKind = .motor ∧ seen = none ∧ y.eng.lastSettled = .released ∧ y.eng.pulseInAttempt = false
    let limited := h.upd e d (fun x => { x with eng := { x.eng with
      deferralSub := 0, deferral := if x.eng.params.deferralLimit = 0 then .none else .counting x.eng.params.deferralLimit } })
    (seen = some .secured → takeSecured e d o g = settleAt e d .secured o h)
    ∧ (seen ≠ some .secured → p.assigns .lockDrive = false → takeSecured e d o g = enterFaulted e d .notSecured h)
    ∧ (seen ≠ some .secured → p.assigns .lockDrive = true → takeSecured e d o g = enterQuietWait e d limited)
    ∧ (seen = some .released ∨ rested → takeReleased e d o g = settleAt e d .released o h)
    ∧ (seen ≠ some .released → ¬ rested →
      (p.assigns .lockDrive = false → takeReleased e d o g = enterFaulted e d .notReleased h)
      ∧ (p.assigns .lockDrive = true → p.lockKind = .magnetic →
        takeReleased e d o g = enterVerifying e d (turnDriveOff e d h))
      ∧ (p.assigns .lockDrive = true → p.lockKind ≠ .magnetic → takeReleased e d o g = awaitGrant e d h)))
  ∧ (∀ (e : Env) (d : DoorNo) (p : Posture) (ps : Params) (owed : Option Nat) (fb : Option Fallback) (g : Segment),
    let x := (g.door d).eng
    let begun := (answer e d x.owed .overridden g).putDoor d { g.door d with eng := { x with
      target := some p, params := ps, owed := owed, beforeAttempt := x.target, retry := 0, force := false
      fallback := fb.getD (match x.target with
        | none => .none
        | some .secured => .secured
        | some .released => .released)
      pulseInAttempt := x.pulseInAttempt && x.state != .released } }
    newAttempt e d p ps owed fb g
      = (if p = .secured then takeSecured e d .already begun else takeReleased e d .already begun))

/-! ## Timers

Where a timer command changes nothing of its own, and where the segment it leaves is given as `g`, the next state is `settled` of it:
a step that is due by then starts (R141, log 9). A timer's event is taken on the sender's word (log 7). -/

/-- FLASH_PHASE_FLIP (R45) and WINDOW_EXPIRY (R76, R77, R82): the phase flips; the activity of every door is updated from its window
count, which becomes 0, the next window has the length of the settings, and a watch whose door is now quiet is gone. And what quiet means
(R81): POSITION closed or not assigned and, unless the force flag is set, the activity at or below the threshold and the time since close
none or at or above ten times the settle time. -/
def Obligations.FlashAndWindow : Prop :=
  (∀ s : State, s.power = .running →
    exec .flashPhaseFlip s = .next { s with seg := { s.seg with flash := ⟨!s.seg.flash.on, 0⟩ } }
    ∧ ∃ g, exec .windowExpiry s = .next (settled { s with seg := g })
      ∧ g.window = ⟨s.work.segment.value.windowLength, 0⟩
      ∧ g.exemptions = s.seg.exemptions ∧ g.fire = s.seg.fire ∧ g.branches = s.seg.branches ∧ g.flash = s.seg.flash
      ∧ ∀ d : DoorNo,
        let x := s.seg.door d
        let a := x.mon.activity
        let n := x.mon.windowCount
        let y := { x with mon := { x.mon with
          activity := if n = 0 ∧ a < 4 then 0 else a - a / 4 + 32 * n, windowCount := 0 } }
        (g.door d).mon.activity = y.mon.activity ∧ (g.door d).mon.windowCount = 0
        ∧ ((∀ w, x.mon.watch = some w → y.quiet (s.env.profile d) w = false) → (∀ q ∈ s.seg.queue, q.door ≠ d) →
            g.door d = y)
        ∧ (∀ w, x.mon.watch = some w → y.quiet (s.env.profile d) w = true → (g.door d).mon.watch = none))
  ∧ (∀ (p : ProfileEntry) (w : Watch) (x : Door), x.quiet p w = true ↔
    ((∃ k : Fin 6, p.functions[k] = .position) → x.inputs.position = some false)
    ∧ (w.force = true ∨ (x.mon.activity ≤ w.threshold ∧ ∀ n, x.mon.sinceClose = some n → 10 * p.settleTime ≤ n)))

/-- R78: the activity stays in 0..32,640. -/
def Obligations.ActivityBound : Prop :=
  ∀ a n : Nat, a ≤ 32640 → n ≤ 255 → nextActivity a n ≤ 32640

/-- DWELL_TICK, PROPPED_BEGINS and TIME_SINCE_CLOSE_TICK (R72, R75, R80, R82, R112, R120): the dwell and the time since close go on by
one tick and stay at 65,535; an opening that reaches its limit is propped, with the flag, the event and the exception; a watch whose
door is now quiet gives its notice; where there is no such opening or no such time nothing changes (log 7). A POSITION event of a good
reply begins or ends an opening of a monitored door (R71, R73, R74, R112): the limits are latched, a closing counts a passage where the
dwell has reached the bounce limit, and PROPPED ends. What the shared operations do: the monitoring enable is evaluated (R68), and where it
turns ON the monitor position follows POSITION by R69 (at a POSITION that is neither OPEN nor CLOSED it stands: log 56), where it turns OFF
the dwell of an opening is kept as last-open and PROPPED ends (R70), and the watch is then evaluated (R82): a door found quiet loses it
and its notice is handed on. -/
def Obligations.MonitorTicks : Prop :=
  (∀ (d : DoorNo) (s : State), s.power = .running →
    let x := s.seg.door d
    let dwells := x.mon.enable && x.mon.isOpen
    let limit := 10 * x.mon.latchedPropped
    let dwell := min 65535 (x.mon.dwell + 1)
    let propped (n : Nat) : Segment :=
      let m := { x.mon with dwell := n, dwellSub := 0, propped := true }
      if x.eng.state = .absent then s.seg.putDoor d { x with mon := m }
      else listException s.env (some d) .propped none (s.seg.putDoor d { x with
        mon := m
        eng := { x.eng with live := { x.eng.live with propped := true }, sticky := { x.eng.sticky with propped := true } } })
    let goes (g : Segment) : Host.Outcome State Fault Refusal := .next (settled { s with seg := g })
    (dwells = false → exec (.dwellTick d) s = .next (settled s))
    ∧ (dwells = true → x.mon.propped = true ∨ dwell < limit →
        exec (.dwellTick d) s = goes (s.seg.putDoor d { x with mon := { x.mon with dwell := dwell, dwellSub := 0 } }))
    ∧ (dwells = true → x.mon.propped = false → limit ≤ dwell → exec (.dwellTick d) s = goes (propped dwell))
    ∧ (dwells = false ∨ x.mon.propped = true → exec (.proppedBegins d) s = .next (settled s))
    ∧ (dwells = true → x.mon.propped = false → exec (.proppedBegins d) s = goes (propped (max x.mon.dwell limit)))
    ∧ (x.mon.sinceClose = none → exec (.timeSinceCloseTick d) s = .next (settled s))
    ∧ (∀ n, x.mon.sinceClose = some n →
      let y := { x with mon := { x.mon with sinceClose := some (min 65535 (n + 1)), sinceSub := 0 } }
      ((∀ w, x.mon.watch = some w → y.quiet (s.env.profile d) w = false) →
        exec (.timeSinceCloseTick d) s = goes (s.seg.putDoor d y))
      ∧ (∀ w, x.mon.watch = some w → y.quiet (s.env.profile d) w = true →
        (x.eng.state ≠ .quietWait →
          exec (.timeSinceCloseTick d) s = goes (s.seg.putDoor d { y with mon := { y.mon with watch := none } }))
        ∧ (x.eng.state = .quietWait → 0 < x.eng.params.warning →
          exec (.timeSinceCloseTick d) s = goes (s.seg.putDoor d { y with
            mon := { y.mon with watch := none }
            eng := { x.eng with state := .warning, timer := ⟨x.eng.params.warning, 0, true⟩ } }))
        ∧ (x.eng.state = .quietWait → x.eng.params.warning = 0 → ∃ g, exec (.timeSinceCloseTick d) s = goes g
            ∧ (g.door d).mon.watch = none ∧ (g.door d).mon.sinceClose = y.mon.sinceClose))))
  ∧ (∀ (b : BranchNo) (k : DropNo) (r : BranchRecord) (rest : List Reception) (s : State), HeardAgain b k r s →
    let d := doorAt b k
    let x := s.seg.door d
    let p := s.env.profile d
    x.mon.enable = true → x.eng.state ≠ .absent → x.eng.state ≠ .outOfService →
    ∃ g, exec (.replyWindowEnd b (.record r :: rest)) s = .next (settled { s with seg := g })
      ∧ (x.inputs.position = some false → p.readAs .position (replyOf r).inputs = some true → x.mon.isOpen = false →
        (g.door d).mon.isOpen = true ∧ (g.door d).mon.dwell = 0 ∧ (g.door d).mon.dwellSub = 0
        ∧ (g.door d).mon.latchedBounce = p.bounceLimit ∧ (g.door d).mon.latchedPropped = p.proppedLimit
        ∧ (g.door d).mon.passages = x.mon.passages ∧ (g.door d).mon.windowCount = x.mon.windowCount)
      ∧ (x.inputs.position = some true → p.readAs .position (replyOf r).inputs = some false → x.mon.isOpen = true →
        (g.door d).mon.isOpen = false ∧ (g.door d).mon.lastOpen = x.mon.dwell ∧ (g.door d).mon.sinceClose = some 0
        ∧ (g.door d).mon.propped = false ∧ (x.mon.propped = true → (g.door d).eng.live.propped = false)
        ∧ (x.mon.latchedBounce ≤ x.mon.dwell → (g.door d).mon.passages = x.mon.passages + 1
            ∧ (g.door d).mon.windowCount = min 255 (x.mon.windowCount + 1))
        ∧ (x.mon.dwell < x.mon.latchedBounce → (g.door d).mon.passages = x.mon.passages
            ∧ (g.door d).mon.windowCount = x.mon.windowCount))
      ∧ (p.assigns .position = true → x.inputs.position = p.readAs .position (replyOf r).inputs →
        (g.door d).mon.isOpen = x.mon.isOpen ∧ (g.door d).mon.dwell = x.mon.dwell
        ∧ (g.door d).mon.passages = x.mon.passages ∧ (g.door d).mon.sinceClose = x.mon.sinceClose))
  ∧ (∀ (e : Env) (d : DoorNo) (g : Segment),
    let x := g.door d
    let p := e.profile d
    let m := x.mon
    let now := e.fitted d && x.eng.state != .absent && x.eng.state != .outOfService && p.assigns .position
      && !x.drop.lost && x.drop.firstReply
    let on : Monitor :=
      if x.inputs.position = some true then { m with
        enable := true, isOpen := true, dwell := 0, dwellSub := 0
        latchedBounce := p.bounceLimit, latchedPropped := p.proppedLimit }
      else if x.inputs.position = some false ∧ m.isOpen = true then { m with
        enable := true, isOpen := false, sinceClose := some 0, sinceSub := 0 }
      else { m with enable := true }
    let off : Monitor := { m with
      enable := false, propped := false, lastOpen := if m.isOpen then m.dwell else m.lastOpen }
    let ended : Engine := if m.propped = true ∧ x.eng.state ≠ .absent then
      { x.eng with live := { x.eng.live with propped := false } } else x.eng
    enableOn e d g = g.putDoor d { x with mon := on }
    ∧ enableOff e d g = g.putDoor d { x with mon := off, eng := ended }
    ∧ reenable e d g = (if now = m.enable then g
      else if now = true then evaluateWatch e d (g.putDoor d { x with mon := on })
      else evaluateWatch e d (g.putDoor d { x with mon := off, eng := ended }))
    ∧ (∀ w, m.watch = some w → x.quiet p w = true →
      evaluateWatch e d g = quietNotice e d (g.putDoor d { x with mon := { m with watch := none } }))
    ∧ ((∀ w, m.watch = some w → x.quiet p w = false) → evaluateWatch e d g = g))

/-- DEFERRAL_SECOND and DEFERRAL_EXPIRY (R121, R82, R112): no count under SWEEP_HOLD nor outside QUIET_WAIT and WARNING; the remaining
seconds count down; at 0 the deferral is EXPIRED, and acted on in QUIET_WAIT by the late policy. With POSITION unknown the door only waits
with its force flag set (log 24). LEAVE: LEFT_RELEASED is answered and listed and the door is taken toward RELEASED (R116), whatever
posture its lock shows, as one attempt with the one that waited: its fallback and its retry count stand (log 45). Neither row counts or ends
a deferral that is not COUNTING in one of the two states (log 7), and DEFERRAL_EXPIRY has no effect under SWEEP_HOLD, like the count it
stands for (log 10). FORCE at a quiet door: the wait ends, with a warning or, at a warning of 0, without one. What the shared
operations do: the act on an EXPIRED deferral, which leaves NONE (log 21), and the watch set and cleared. -/
def Obligations.Deferral : Prop :=
  (∀ (d : DoorNo) (s : State), s.power = .running →
    let x := s.seg.door d
    let p := s.env.profile d
    let waits : Prop := x.eng.state = .quietWait ∨ x.eng.state = .warning
    let withEng (y : Engine) : State := { s with seg := s.seg.putDoor d { x with eng := y } }
    (((∀ n, x.eng.deferral ≠ .counting n) ∨ ¬ waits) →
      exec (.deferralSecond d) s = .next (settled s) ∧ exec (.deferralExpiry d) s = .next (settled s))
    ∧ (∀ n, x.eng.deferral = .counting n → waits →
      (s.env.siteInForce = .sweepHold →
        exec (.deferralSecond d) s = .next (settled (withEng { x.eng with deferralSub := 0 }))
        ∧ exec (.deferralExpiry d) s = .next (settled s))
      ∧ (s.env.siteInForce ≠ .sweepHold → 2 ≤ n →
        exec (.deferralSecond d) s
          = .next (settled (withEng { x.eng with deferral := .counting (n - 1), deferralSub := 0 })))
      ∧ (s.env.siteInForce ≠ .sweepHold → ∀ c, c = .deferralExpiry d ∨ (c = .deferralSecond d ∧ n ≤ 1) →
        (x.eng.state = .warning →
          exec c s = .next (settled (withEng { x.eng with deferral := .expired, deferralSub := 0 })))
        ∧ (x.eng.state = .quietWait → x.eng.params.policy = .force → x.inputs.position = some true →
          p.assigns .position = true → exec c s = .next (settled { s with
            seg := listException s.env (some d) .propped none (answer s.env d x.eng.owed .proppedLate
              (s.seg.putDoor d { x with
                eng := { x.eng with force := true, deferral := .none, deferralSub := 0, owed := none }
                mon := { x.mon with watch := some ⟨x.eng.params.threshold, true⟩ } })) }))
        ∧ (x.eng.state = .quietWait → x.eng.params.policy = .force → x.closed p = true → 0 < x.eng.params.warning →
          exec c s = .next (settled { s with seg := s.seg.putDoor d { x with
            eng := { x.eng with force := true, deferral := .none, deferralSub := 0, state := .warning
                                timer := ⟨x.eng.params.warning, 0, true⟩ }
            mon := { x.mon with watch := none } } }))
        ∧ (x.eng.state = .quietWait → x.eng.params.policy = .force → x.closed p = true → x.eng.params.warning = 0 →
          ∃ g, exec c s = .next (settled { s with seg := g })
            ∧ (g.door d).mon.watch = none ∧ (g.door d).eng.deferral = .none)
        ∧ (x.eng.state = .quietWait → x.eng.params.policy = .force → x.inputs.position = none →
          p.assigns .position = true → exec c s = .next (settled { s with seg := s.seg.putDoor d { x with
            eng := { x.eng with force := true, deferral := .none, deferralSub := 0 }
            mon := { x.mon with watch := some ⟨x.eng.params.threshold, true⟩ } } }))
        ∧ (x.eng.state = .quietWait → x.eng.params.policy = .leave → ∃ g, exec c s = .next (settled { s with seg := g })
          ∧ (g.door d).eng.sticky.leftReleased = true ∧ (g.door d).eng.owed = none ∧ (g.door d).eng.deferral = .none
          ∧ (g.door d).mon.watch = none
          ∧ (x.sensedOutside p = some .released → (∀ q ∈ s.seg.queue, q.door ≠ d) →
            (g.door d).eng.state = .released ∧ (g.door d).eng.target = some .released))
        ∧ (x.eng.state = .quietWait → x.eng.params.policy = .leave → exec c s = .next (settled { s with
          seg := takeReleased s.env d .already (listException s.env (some d) .leftReleased none
            (answer s.env d x.eng.owed .leftReleased (s.seg.putDoor d { x with
              eng := { x.eng with deferral := .none, deferralSub := 0, target := some .released, owed := none
                                  sticky := { x.eng.sticky with leftReleased := true } }
              mon := { x.mon with watch := none } }))) }))
        ∧ (x.eng.state = .quietWait → x.eng.params.policy = .force → x.closed p = true → x.eng.params.warning = 0 →
          exec c s = .next (settled { s with seg := proceed s.env d (s.seg.putDoor d { x with
            eng := { x.eng with force := true, deferral := .none, deferralSub := 0 }
            mon := { x.mon with watch := none } }) })))))
  ∧ (∀ (e : Env) (d : DoorNo) (g : Segment),
    let p := e.profile d
    let x := g.door d
    let expired (f : Engine → Engine) : Segment := g.upd e d (fun x => { x with
      eng := f { x.eng with deferral := .none, deferralSub := 0 } })
    let forced := setWatch e d (expired (fun y => { y with force := true }))
    let left := expired (fun y => { y with
      target := some .released, owed := none, sticky := { y.sticky with leftReleased := true } })
    let w : Watch := ⟨x.eng.params.threshold, x.eng.force⟩
    let watching (m : Option Watch) : Segment := g.upd e d (fun x => { x with mon := { x.mon with watch := m } })
    (x.eng.params.policy = .leave → actOnExpiry e d g = takeReleased e d .already (clearWatch e d
      (listException e (some d) .leftReleased none (answer e d x.eng.owed .leftReleased left))))
    ∧ (x.eng.params.policy = .force → actOnExpiry e d g =
      (if p.assigns .position = true ∧ x.inputs.position = some true then
        listException e (some d) .propped none (answer e d (forced.door d).eng.owed .proppedLate
          (forced.upd e d (fun x => { x with eng := { x.eng with owed := none } })))
      else forced))
    ∧ (x.quiet p w = true → setWatch e d g = quietNotice e d (watching none))
    ∧ (x.quiet p w = false → setWatch e d g = watching (some w))
    ∧ clearWatch e d g = watching none)

/-- WARNING_EXPIRY (R41, R87, R94, R121 to R123, R125): a MAGNETIC or MOTOR door enters AWAIT_GRANT in the queue at its rank; a STRIKE
door being secured turns its drive off and is verified; one whose profile does not assign LOCK_DRIVE any more faults at once (log 50), and
its deferral then reads NONE (log 21); in any other state nothing (log 7). An EXPIRED deferral is not acted on any more. And a POSITION OPEN of a
good reply: in WARNING it takes the door back to QUIET_WAIT (R122), in AWAIT_GRANT with target SECURED it withdraws the door from the
queue to QUIET_WAIT, and with target RELEASED it changes nothing there (R123); an EXPIRED deferral is acted on at that return (R121, log
25). What the shared operations do (R41, R82, R87, R120 to R123): the entry to QUIET_WAIT, where the watch is evaluated before an EXPIRED
deferral is acted on (log 25), a door found quiet, one that proceeds, the wait for a grant, and the entry to a state. -/
def Obligations.WarningEnds : Prop :=
  (∀ (d : DoorNo) (s : State), s.power = .running →
    let x := s.seg.door d
    let p := s.env.profile d
    let deferral := if x.eng.deferral = .expired then .waived else x.eng.deferral
    (x.eng.state ≠ .warning → exec (.warningExpiry d) s = .next (settled s))
    ∧ (x.eng.state = .warning → p.assigns .lockDrive = true → p.lockKind ≠ .strike →
      let g := s.seg.putDoor d { x with
        eng := { x.eng with state := .awaitGrant, timer := ⟨0, 0, false⟩, deferral := deferral } }
      exec (.warningExpiry d) s = .next (settled { s with
        seg := consider s.env { g with queue := insertEntry ⟨d, (s.env.doorEntry d).rank⟩ s.seg.queue } }))
    ∧ (x.eng.state = .warning → p.assigns .lockDrive = true → p.lockKind = .strike → x.eng.target = some .secured →
      (∀ q ∈ s.seg.queue, q.door ≠ d) → ∃ g, exec (.warningExpiry d) s = .next (settled { s with seg := g })
        ∧ (g.door d).eng.drive = false
        ∧ (x.eng.drive = true → (g.door d).charge = ⟨0, .none, 0, 0⟩)
        ∧ (x.sensedOutside p = some .secured → (g.door d).eng.state = .secured ∧ (g.door d).eng.owed = none
            ∧ (s.seg.queue = [] → g.seqr = (answer s.env d x.eng.owed .done s.seg).seqr))
        ∧ (x.sensedOutside p ≠ some .secured → (g.door d).eng.state = .verifying ∧ (g.door d).eng.deferral = deferral
            ∧ (g.door d).eng.timer = ⟨p.verifyTime, 0, true⟩ ∧ (g.door d).eng.owed = x.eng.owed))
    ∧ (x.eng.state = .warning → p.assigns .lockDrive = false → x.eng.target = some .secured →
      ∃ g, exec (.warningExpiry d) s = .next (settled { s with seg := g }) ∧ OnlyDoor d s.seg g ∧ g.queue = s.seg.queue
        ∧ (g.door d).eng.state = .faulted ∧ (g.door d).eng.owed = none ∧ (g.door d).eng.deferral = .none
        ∧ (g.door d).eng.live.notSecured = true ∧ (g.door d).eng.sticky.notSecured = true
        ∧ g.seqr = (answer s.env d x.eng.owed .failed s.seg).seqr))
  ∧ (∀ (b : BranchNo) (k : DropNo) (r : BranchRecord) (rest : List Reception) (s : State), Heard b k r s →
    let d := doorAt b k
    let x := s.seg.door d
    let p := s.env.profile d
    SoundCurrent p r → x.inputs.position = some false → p.readAs .position (replyOf r).inputs = some true →
    let waits : Prop := x.eng.state = .warning ∨ (x.eng.state = .awaitGrant ∧ x.eng.target = some .secured)
    ∃ g, exec (.replyWindowEnd b (.record r :: rest)) s = .next (settled { s with seg := g })
      ∧ (waits → x.eng.deferral ≠ .expired → (∀ q ∈ s.seg.queue, q.door = d → x.eng.state = .awaitGrant) →
        (g.door d).eng.state = .quietWait ∧ (g.door d).eng.timer.running = false
        ∧ (g.door d).mon.watch = some ⟨x.eng.params.threshold, x.eng.force⟩
        ∧ (g.door d).eng.target = x.eng.target ∧ (g.door d).eng.owed = x.eng.owed
        ∧ (g.door d).eng.deferral = x.eng.deferral ∧ (g.door d).eng.retry = x.eng.retry
        ∧ (g.door d).eng.drive = x.eng.drive ∧ (∀ q ∈ g.queue, q.door ≠ d))
      ∧ (waits → x.eng.deferral = .expired →
        (g.door d).eng.owed = none ∧ (g.door d).eng.deferral = .none
        ∧ (x.eng.params.policy = .force → (g.door d).eng.state = .quietWait ∧ (g.door d).eng.force = true
          ∧ (g.door d).mon.watch = some ⟨x.eng.params.threshold, true⟩)
        ∧ (x.eng.params.policy = .leave → (g.door d).eng.sticky.leftReleased = true ∧ (g.door d).mon.watch = none))
      ∧ (x.eng.state = .awaitGrant → x.eng.target = some .released →
        (g.door d).eng.state = .awaitGrant ∧ (g.door d).eng.target = some .released ∧ g.queue = s.seg.queue))
  ∧ (∀ (e : Env) (d : DoorNo) (g : Segment),
    let p := e.profile d
    let x := g.door d
    let w : Watch := ⟨x.eng.params.threshold, x.eng.force⟩
    let waiting (m : Option Watch) : Segment := g.upd e d (fun x => { x with
      eng := x.eng.enter .quietWait, mon := { x.mon with watch := m } })
    let queued := g.upd e d (fun x => { x with eng := x.eng.enter .awaitGrant })
    (x.quiet p w = true → enterQuietWait e d g = quietNotice e d (waiting none))
    ∧ (x.quiet p w = false → x.eng.deferral ≠ .expired → enterQuietWait e d g = waiting (some w))
    ∧ (x.quiet p w = false → x.eng.deferral = .expired → enterQuietWait e d g = actOnExpiry e d (waiting (some w)))
    ∧ (x.eng.state ≠ .quietWait → quietNotice e d g = g)
    ∧ (x.eng.state = .quietWait → 0 < x.eng.params.warning → quietNotice e d g = g.upd e d (fun x => { x with
        eng := { x.eng.enter .warning with timer := ⟨x.eng.params.warning, 0, true⟩ } }))
    ∧ (x.eng.state = .quietWait → x.eng.params.warning = 0 → quietNotice e d g = proceed e d g)
    ∧ (p.assigns .lockDrive = false → proceed e d g
      = enterFaulted e d (if x.eng.target = some .released then .notReleased else .notSecured) g)
    ∧ (p.assigns .lockDrive = true → p.lockKind = .strike → proceed e d g = enterVerifying e d (turnDriveOff e d g))
    ∧ (p.assigns .lockDrive = true → p.lockKind ≠ .strike → proceed e d g = awaitGrant e d g)
    ∧ awaitGrant e d g = consider e { queued with queue := insertEntry ⟨d, (e.doorEntry d).rank⟩ g.queue })
  ∧ (∀ (st : DoorState) (x : Engine), x.enter st = { x with
      state := st, timer := ⟨0, 0, false⟩
      lastSettled := if st ∈ [DoorState.absent, .holding, .released, .secured, .faulted, .egress, .outOfService] then st
        else x.lastSettled
      pulseInAttempt := if x.state = .released ∧ st ≠ .released then false else x.pulseInAttempt
      exitWindow := if x.state = .secured ∧ st ≠ .secured then false else x.exitWindow
      openingMark := if x.state = .secured ∧ st ≠ .secured then .none else x.openingMark })

/-- RUN_TIMER_EXPIRY (R93, R124, R125) and VERIFY_EXPIRY (R125, R112): the run end leaves the hold units charged and the door VERIFYING,
or settled where its posture shows, with outcome DONE; a failed verification retries by lock kind and posture below the retry limit, and
faults at it with outcome FAILED. At a retry a door without LOCK_DRIVE faults at once (R41, log 50), and a pending target starts a fresh
attempt in its place (R118, log 19). Where the run end or the retry limit ends the actuation, a pending target is then taken as a target
set in the state entered (R118, R130). And a good reply at a door in VERIFYING (R125): one that shows the target enters SECURED or
RELEASED, answers DONE and then takes a pending target; another leaves the verify timer running. A retry toward SECURED of a MAGNETIC or
STRIKE door enters QUIET_WAIT, at a closed door and with an EXPIRED deferral as WarningEnds has that entry. That the deferral reads NONE
at the entry to SECURED, RELEASED and FAULTED is the model's choice (log 21). What the entries to VERIFYING, to a reached posture and to
FAULTED do (R111, R112, R125). Outside DRIVING with its timer running, and outside VERIFYING, the two rows change nothing (log 7). -/
def Obligations.RunAndVerify : Prop :=
  (∀ (d : DoorNo) (s : State), s.power = .running → (∀ q ∈ s.seg.queue, q.door ≠ d) →
    let x := s.seg.door d
    let p := s.env.profile d
    let goes (c : Instr) (g : Segment) : Prop := exec c s = .next (settled { s with seg := g })
    let faults (q : Posture) (g : Segment) : Prop := OnlyDoor d s.seg g ∧ g.queue = s.seg.queue
      ∧ (g.door d).eng.state = .faulted ∧ (g.door d).eng.target = some q ∧ (g.door d).eng.owed = none
      ∧ (g.door d).eng.drive = x.eng.drive ∧ (g.door d).eng.deferral = .none ∧ (g.door d).charge = x.charge
      ∧ (q = .secured → (g.door d).eng.live.notSecured = true ∧ (g.door d).eng.sticky.notSecured = true)
      ∧ (q = .released → (g.door d).eng.live.notReleased = true ∧ (g.door d).eng.sticky.notReleased = true)
      ∧ g.seqr = (answer s.env d x.eng.owed .failed s.seg).seqr
    (¬ (x.eng.state = .driving ∧ x.eng.timer.running = true) → exec (.runTimerExpiry d) s = .next (settled s))
    ∧ (x.eng.state = .driving → x.eng.timer.running = true → ∀ q, x.eng.target = some q →
      (x.sensedAs (some q) p ≠ some q → ∃ g, goes (.runTimerExpiry d) g
        ∧ (g.door d).eng.state = .verifying ∧ (g.door d).eng.timer = ⟨p.verifyTime, 0, true⟩
        ∧ (g.door d).eng.drive = x.eng.drive ∧ (g.door d).eng.target = some q
        ∧ (g.door d).eng.pendingTarget = x.eng.pendingTarget ∧ (g.door d).eng.owed = x.eng.owed
        ∧ (g.door d).charge = (if x.charge.basis ≠ .run then x.charge
            else if p.lockKind = .motor then ⟨0, .none, 0, 0⟩ else ⟨p.holdUnits, .hold, 0, 0⟩))
      ∧ (x.sensedAs (some q) p = some q → x.eng.pendingTarget = none → ∃ g, goes (.runTimerExpiry d) g
        ∧ (g.door d).eng.state = q.state ∧ (g.door d).eng.target = some q ∧ (g.door d).eng.owed = none
        ∧ (g.door d).eng.timer.running = false
        ∧ (g.door d).eng.live.notSecured = false ∧ (g.door d).eng.live.notReleased = false
        ∧ (s.seg.queue = [] → g.seqr = (answer s.env d x.eng.owed .done s.seg).seqr))
      ∧ (x.sensedAs (some q) p = some q → ∀ z, x.eng.pendingTarget = some z →
        ∃ h, goes (.runTimerExpiry d) (targetSet s.env d z.posture z.params z.owed h)
          ∧ (h.door d).eng.state = q.state ∧ (h.door d).eng.target = some q ∧ (h.door d).eng.owed = none
          ∧ (h.door d).eng.pendingTarget = none ∧ (h.door d).inputs = x.inputs ∧ (h.door d).drop = x.drop
          ∧ (s.seg.queue = [] → h.seqr = (answer s.env d x.eng.owed .done s.seg).seqr)))
    ∧ (x.eng.state ≠ .verifying → exec (.verifyExpiry d) s = .next (settled s))
    ∧ (x.eng.state = .verifying → x.eng.retry < p.retryLimit → x.eng.pendingTarget = none →
      let again : Segment :=
        let g := s.seg.putDoor d { x with eng := { x.eng with
          retry := x.eng.retry + 1, state := .awaitGrant, timer := ⟨0, 0, false⟩ } }
        consider s.env { g with queue := insertEntry ⟨d, (s.env.doorEntry d).rank⟩ s.seg.queue }
      (p.assigns .lockDrive = true →
        (x.eng.target = some .released → p.lockKind = .magnetic →
          goes (.verifyExpiry d) (s.seg.putDoor d { x with eng := { x.eng with
            retry := x.eng.retry + 1, timer := ⟨p.verifyTime, 0, true⟩ } }))
        ∧ (x.eng.target = some .released → p.lockKind ≠ .magnetic → goes (.verifyExpiry d) again)
        ∧ (x.eng.target = some .secured → p.lockKind = .motor → goes (.verifyExpiry d) again)
        ∧ (x.eng.target = some .secured → p.lockKind ≠ .motor → x.closed p = false → x.eng.deferral ≠ .expired →
          ∃ g, goes (.verifyExpiry d) g ∧ (g.door d).eng.state = .quietWait ∧ (g.door d).eng.retry = x.eng.retry + 1
            ∧ (g.door d).mon.watch = some ⟨x.eng.params.threshold, x.eng.force⟩
            ∧ (g.door d).eng.drive = (p.lockKind == .strike && x.eng.drive) ∧ (g.door d).eng.owed = x.eng.owed)
        ∧ (x.eng.target = some .secured → p.lockKind ≠ .motor →
          let h := s.seg.putDoor d { x with eng := { x.eng with retry := x.eng.retry + 1 } }
          goes (.verifyExpiry d) (enterQuietWait s.env d (if p.lockKind = .magnetic then turnDriveOff s.env d h else h))))
      ∧ (p.assigns .lockDrive = false → ∀ q, x.eng.target = some q → ∃ g, goes (.verifyExpiry d) g ∧ faults q g
        ∧ (g.door d).eng.retry = x.eng.retry + 1))
    ∧ (x.eng.state = .verifying → x.eng.retry < p.retryLimit → ∀ q, x.eng.pendingTarget = some q →
      ∃ g, goes (.verifyExpiry d) g
        ∧ g = newAttempt s.env d q.posture q.params q.owed none
            (s.seg.putDoor d { x with eng := { x.eng with pendingTarget := none } })
        ∧ (g.door d).eng.pendingTarget = none ∧ (g.door d).eng.retry = 0 ∧ (g.door d).eng.params = q.params
        ∧ (x.sensedOutside p = some q.posture → (g.door d).eng.state = q.posture.state
          ∧ (g.door d).eng.target = some q.posture ∧ (g.door d).eng.owed = none
          ∧ (s.seg.queue = [] → g.seqr
              = (answer s.env d q.owed .already (answer s.env d x.eng.owed .overridden s.seg)).seqr))
        ∧ (x.sensedOutside p ≠ some q.posture → q.posture = .secured → p.assigns .lockDrive = true → x.closed p = false →
          (g.door d).eng.state = .quietWait ∧ (g.door d).eng.target = some .secured ∧ (g.door d).eng.owed = q.owed
          ∧ (g.door d).mon.watch = some ⟨q.params.threshold, false⟩
          ∧ g.seqr = (answer s.env d x.eng.owed .overridden s.seg).seqr)
        ∧ (x.sensedOutside p ≠ some q.posture → q.posture = .released → p.assigns .lockDrive = true →
          p.lockKind = .magnetic → (g.door d).eng.state = .verifying ∧ (g.door d).eng.target = some .released
          ∧ (g.door d).eng.owed = q.owed ∧ (g.door d).eng.drive = false))
    ∧ (x.eng.state = .verifying → p.retryLimit ≤ x.eng.retry → x.eng.pendingTarget = none → ∀ q, x.eng.target = some q →
      ∃ g, goes (.verifyExpiry d) g ∧ faults q g)
    ∧ (x.eng.state = .verifying → p.retryLimit ≤ x.eng.retry → ∀ z q, x.eng.pendingTarget = some z → x.eng.target = some q →
      (z.posture = .secured → ∃ g, goes (.verifyExpiry d) g ∧ OnlyDoor d s.seg g ∧ g.queue = s.seg.queue
        ∧ (g.door d).eng.state = .faulted ∧ (g.door d).eng.target = some .secured ∧ (g.door d).eng.params = z.params
        ∧ (g.door d).eng.owed = none ∧ (g.door d).eng.pendingTarget = none
        ∧ (q = .secured → (g.door d).eng.live.notSecured = true ∧ (g.door d).eng.sticky.notSecured = true)
        ∧ (q = .released → (g.door d).eng.live.notReleased = true ∧ (g.door d).eng.sticky.notReleased = true)
        ∧ g.seqr = (answer s.env d z.owed .failed (answer s.env d x.eng.owed .failed s.seg)).seqr)
      ∧ (z.posture = .released → ∃ h, goes (.verifyExpiry d) (targetSet s.env d .released z.params z.owed h)
        ∧ faults q h ∧ (h.door d).eng.pendingTarget = none)))
  ∧ (∀ (b : BranchNo) (k : DropNo) (r : BranchRecord) (rest : List Reception) (s : State), HeardAgain b k r s →
    let d := doorAt b k
    let x := s.seg.door d
    let p := s.env.profile d
    let now := replyOf r
    let c := Instr.replyWindowEnd b (.record r :: rest)
    let goes (g : Segment) : Prop := exec c s = .next (settled { s with seg := g })
    let z : Door := { x with inputs := {
      position := p.readAs .position now.inputs, bolt := p.readAs .bolt now.inputs
      exitRequest := p.readAs .exitRequest now.inputs, tamper := p.readAs .tamper now.inputs
      reportedDrive := some ((p.readAs .lockDrive now.outputs).getD false), current := some now.current
      inputLevels := some now.inputs, outputLevels := some now.outputs } }
    SoundCurrent p r → x.eng.state = .verifying → ∀ q, x.eng.target = some q →
    let settles (g : Segment) : Prop := (g.door d).eng.state = q.state ∧ (g.door d).eng.target = some q
      ∧ (g.door d).eng.owed = none ∧ (g.door d).eng.timer.running = false ∧ (g.door d).inputs = z.inputs
      ∧ (g.door d).eng.live.notSecured = false ∧ (g.door d).eng.live.notReleased = false
      ∧ (s.seg.queue = [] → g.seqr = (answer s.env d x.eng.owed .done s.seg).seqr)
    (z.sensedAs (some q) p = some q → x.eng.pendingTarget = none → ∃ g, goes g ∧ settles g)
    ∧ (z.sensedAs (some q) p = some q → ∀ y, x.eng.pendingTarget = some y →
      ∃ h g, goes g ∧ g = { targetSet s.env d y.posture y.params y.owed h with branches := g.branches }
        ∧ settles h ∧ (h.door d).eng.pendingTarget = none)
    ∧ (z.sensedAs (some q) p ≠ some q → ∃ g, goes g ∧ (g.door d).eng.state = .verifying ∧ (g.door d).inputs = z.inputs
      ∧ (g.door d).eng.timer = x.eng.timer ∧ (g.door d).eng.retry = x.eng.retry ∧ (g.door d).eng.target = some q
      ∧ (g.door d).eng.owed = x.eng.owed ∧ (g.door d).eng.pendingTarget = x.eng.pendingTarget
      ∧ (g.door d).eng.drive = x.eng.drive ∧ g.queue = s.seg.queue ∧ g.seqr = s.seg.seqr))
  ∧ (∀ (e : Env) (d : DoorNo) (q : Posture) (o : DoorOutcome) (k : Kind) (g : Segment),
    let p := e.profile d
    let x := g.door d
    let started := g.upd e d (fun x => { x with eng := { x.eng.enter .verifying with timer := ⟨p.verifyTime, 0, true⟩ } })
    let entered := g.upd e d (fun x => { x with eng := { x.eng.enter q.state with
      target := some q, deferral := .none, deferralSub := 0 } })
    let h := if p.lockKind = .magnetic ∧ q = .secured ∨ p.lockKind = .strike ∧ q = .released
      then entered.upd e d (fun x => { x with eng := { x.eng with drive := true } }) else turnDriveOff e d entered
    let failed := listException e (some d) k none (g.upd e d (fun x => { x with eng := { x.eng.enter .faulted with
      deferral := .none, deferralSub := 0, live := x.eng.live.put k true, sticky := x.eng.sticky.set k none } }))
    (x.eng.target = some q → x.sensedAs (some q) p = some q → enterVerifying e d g = settleAt e d q .done started)
    ∧ (x.eng.target = some q → x.sensedAs (some q) p ≠ some q → enterVerifying e d g = started)
    ∧ settleAt e d q o g = answer e d (h.door d).eng.owed o (h.upd e d (fun x => { x with eng := { x.eng with
        owed := none, live := { x.eng.live with notSecured := false, notReleased := false } } }))
    ∧ enterFaulted e d k g = answer e d x.eng.owed .failed
        (failed.upd e d (fun x => { x with eng := { x.eng with owed := none } })))

/-- EXIT_SHUNT_EXPIRY (R126, R120, R87) and EXIT_WINDOW_EXPIRY (R127): a shunted door that is closed awaits its grant, an open one waits
with its force flag set, and one without LOCK_DRIVE faults at once (R41, R86, log 50); an open exit window closes; elsewhere nothing
changes (log 7). R126 has the target SECURED throughout a shunt: that a door whose target is RELEASED, recorded while it was LOST from its
shunt, awaits its grant or waits all the same is the model's choice (log 64). Behind them, what
the terminal events of a good reply do at a SECURED or shunted door (R126, R127): an exit request shunts a MAGNETIC door and opens the
window of another, an opening marks the door in its window or forces it, a MAGNETIC door in every case, and the closing that follows has
it verified again. -/
def Obligations.ExitTimers : Prop :=
  (∀ (d : DoorNo) (s : State), s.power = .running →
    let x := s.seg.door d
    let p := s.env.profile d
    let y := { x.eng with fallback := .released, retry := 0, deferral := .none, deferralSub := 0, timer := ⟨0, 0, false⟩ }
    (x.eng.state ≠ .exitShunt → exec (.exitShuntExpiry d) s = .next (settled s))
    ∧ (x.eng.state = .exitShunt → p.assigns .lockDrive = true → x.closed p = true →
      let g := s.seg.putDoor d { x with eng := { y with state := .awaitGrant } }
      exec (.exitShuntExpiry d) s = .next (settled { s with
        seg := consider s.env { g with queue := insertEntry ⟨d, (s.env.doorEntry d).rank⟩ s.seg.queue } }))
    ∧ (x.eng.state = .exitShunt → p.assigns .lockDrive = true → x.closed p = false →
      exec (.exitShuntExpiry d) s = .next (settled { s with seg := s.seg.putDoor d { x with
        eng := { y with state := .quietWait, force := true }
        mon := { x.mon with watch := some ⟨x.eng.params.threshold, true⟩ } } }))
    ∧ (x.eng.state = .exitShunt → p.assigns .lockDrive = false → x.eng.target = some .secured →
      ∃ g, exec (.exitShuntExpiry d) s = .next (settled { s with seg := g }) ∧ OnlyDoor d s.seg g ∧ g.queue = s.seg.queue
        ∧ (g.door d).eng.state = .faulted ∧ (g.door d).eng.retry = 0 ∧ (g.door d).eng.owed = none
        ∧ (g.door d).eng.live.notSecured = true ∧ (g.door d).eng.sticky.notSecured = true)
    ∧ (¬ (x.eng.state = .secured ∧ x.eng.exitWindow = true) → exec (.exitWindowExpiry d) s = .next (settled s))
    ∧ (x.eng.state = .secured → x.eng.exitWindow = true → exec (.exitWindowExpiry d) s = .next (settled { s with
        seg := s.seg.putDoor d { x with eng := { x.eng with exitWindow := false, timer := ⟨0, 0, false⟩ } } })))
  ∧ (∀ (b : BranchNo) (k : DropNo) (r : BranchRecord) (rest : List Reception) (s : State), HeardAgain b k r s →
    let d := doorAt b k
    let x := s.seg.door d
    let p := s.env.profile d
    let now := replyOf r
    let opens : Prop := x.inputs.position = some false ∧ p.readAs .position now.inputs = some true
    let closes : Prop := x.inputs.position = some true ∧ p.readAs .position now.inputs = some false
    let exits : Prop := x.inputs.exitRequest = some false ∧ p.readAs .exitRequest now.inputs = some true
    let shunt : Timer := ⟨p.exitShuntTime, 0, true⟩
    SoundCurrent p r →
    ∃ g, exec (.replyWindowEnd b (.record r :: rest)) s = .next (settled { s with seg := g })
      ∧ (exits → ¬ opens → ¬ closes → x.eng.state = .secured →
        (p.lockKind = .magnetic → (g.door d).eng.state = .exitShunt ∧ (g.door d).eng.timer = shunt
          ∧ (g.door d).eng.drive = false ∧ (g.door d).eng.target = x.eng.target
          ∧ (g.door d).charge = (if x.eng.drive then ⟨0, .none, 0, 0⟩ else x.charge))
        ∧ (p.lockKind ≠ .magnetic → (g.door d).eng.state = .secured ∧ (g.door d).eng.exitWindow = true
          ∧ (g.door d).eng.timer = shunt ∧ (g.door d).eng.openingMark = x.eng.openingMark
          ∧ (g.door d).eng.drive = x.eng.drive))
      ∧ (x.eng.state = .exitShunt → (g.door d).eng.state = .exitShunt
          ∧ (g.door d).eng.timer = (if x.inputs.exitRequest = some false
              ∧ p.readAs .exitRequest now.inputs = some true then shunt else x.eng.timer)
          ∧ (g.door d).eng.sticky.forcedOpen = x.eng.sticky.forcedOpen)
      ∧ (opens → ¬ exits → x.eng.state = .secured →
        (g.door d).eng.state = .secured ∧ (g.door d).eng.target = x.eng.target ∧ (g.door d).eng.drive = x.eng.drive
        ∧ (x.eng.exitWindow = true → p.lockKind ≠ .magnetic → (g.door d).eng.openingMark = .inWindow
            ∧ (g.door d).eng.sticky.forcedOpen = x.eng.sticky.forcedOpen)
        ∧ (x.eng.exitWindow = false ∨ p.lockKind = .magnetic →
            (g.door d).eng.openingMark = .forced ∧ (g.door d).eng.sticky.forcedOpen = true
            ∧ (s.seg.exceptions.length ≤ 29 →
                ∃ z ∈ g.exceptions, z.door = some d ∧ z.kind = .forcedOpen ∧ z.lastMinute = s.env.minute)))
      ∧ (closes → ¬ exits → x.eng.state = .secured → x.eng.openingMark ≠ .none → x.eng.target = some .secured →
        x.eng.pendingTarget = none →
        let z := { x with
          inputs := (g.door d).inputs, eng := { x.eng with pulseAcked := x.eng.pulseAcked || p.lockKind == LockKind.motor } }
        (g.door d).eng.retry = 0 ∧ (g.door d).eng.openingMark = .none ∧ (g.door d).eng.exitWindow = false
        ∧ (z.sensedAs (some .secured) p = some .secured → (g.door d).eng.state = .secured ∧ (g.door d).eng.owed = none)
        ∧ (z.sensedAs (some .secured) p ≠ some .secured → (g.door d).eng.state = .verifying
            ∧ (g.door d).eng.timer = ⟨p.verifyTime, 0, true⟩ ∧ (g.door d).eng.drive = x.eng.drive)))

/-- COOLING_EXPIRY (R129, R115, R116, R112): below the retry limit the retry count goes on and the door is taken toward its target, with
outcome DONE where it reads SECURED and ALREADY where it reads RELEASED; at the limit it faults, with the flag of its target and outcome
FAILED. And the compared reply whose fault leads there (R100 to R103, R105 to R108, R128): which replies are compared, the two counts they
leave, the fault at the reading that takes a count to the persistence, the state by the fault latch, and the two live flags. That a
reading which raises OVERCURRENT leaves the OPEN_CIRCUIT flag is the model's choice (log 60), and so is that the deferral of a faulted
door reads NONE (log 21): R128 stops it. The end of cooling takes the door by the tables of R115 and R116 (TargetSetByState), a closed one
toward SECURED too; a fault clears a watch, and a pending target is then taken as a target set in the state entered (R118). And where a
door's LOCK_DRIVE level goes OFF its two counts are 0 (R104). In any other state COOLING_EXPIRY changes nothing (log 7). -/
def Obligations.CoolingEnds : Prop :=
  (∀ (d : DoorNo) (s : State), s.power = .running → (∀ q ∈ s.seg.queue, q.door ≠ d) →
    let x := s.seg.door d
    let p := s.env.profile d
    let goes (g : Segment) : Prop := exec (.coolingExpiry d) s = .next (settled { s with seg := g })
    let answered (o : DoorOutcome) (g : Segment) : Prop :=
      (g.door d).eng.owed = none ∧ (s.seg.queue = [] → g.seqr = (answer s.env d x.eng.owed o s.seg).seqr)
    let fails (q : Posture) (g : Segment) : Prop := (g.door d).eng.state = .faulted ∧ answered .failed g
      ∧ (q = .secured → (g.door d).eng.live.notSecured = true ∧ (g.door d).eng.sticky.notSecured = true)
      ∧ (q = .released → (g.door d).eng.live.notReleased = true ∧ (g.door d).eng.sticky.notReleased = true)
    (x.eng.state ≠ .cooling → exec (.coolingExpiry d) s = .next (settled s))
    ∧ (x.eng.state = .cooling → x.eng.retry < p.retryLimit → ∃ g, goes g
      ∧ (g.door d).eng.retry = x.eng.retry + 1
      ∧ (x.eng.target = none → (g.door d).eng.state = .holding ∧ (g.door d).eng.target = none ∧ OnlyDoor d s.seg g)
      ∧ (∀ q, x.eng.target = some q → x.sensedOutside p = some q →
          (g.door d).eng.state = q.state ∧ (g.door d).eng.target = some q
          ∧ answered (if q = .secured then .done else .already) g)
      ∧ (∀ q, x.eng.target = some q → x.sensedOutside p = none → p.lockKind ≠ .motor → p.assigns .lockDrive = false → fails q g)
      ∧ (x.eng.target = some .secured → x.sensedOutside p ≠ some .secured → p.assigns .lockDrive = true →
          x.closed p = false → (g.door d).eng.state = .quietWait ∧ (g.door d).eng.owed = x.eng.owed
          ∧ (g.door d).mon.watch = some ⟨x.eng.params.threshold, x.eng.force⟩)
      ∧ (x.eng.target = some .released → x.sensedOutside p ≠ some .released → p.assigns .lockDrive = true →
          p.lockKind = .magnetic → (g.door d).eng.state = .verifying ∧ (g.door d).eng.drive = false
          ∧ (g.door d).eng.timer = ⟨p.verifyTime, 0, true⟩ ∧ (g.door d).eng.owed = x.eng.owed))
    ∧ (x.eng.state = .cooling → x.eng.retry < p.retryLimit →
      let h := s.seg.putDoor d { x with eng := { x.eng with retry := x.eng.retry + 1 } }
      (x.eng.target = some .secured → goes (takeSecured s.env d .done h))
      ∧ (x.eng.target = some .released → goes (takeReleased s.env d .already h)))
    ∧ (x.eng.state = .cooling → x.eng.retry < p.retryLimit → x.eng.target = some .released →
      x.sensedOutside p ≠ some .released → p.assigns .lockDrive = true → p.lockKind = .strike →
      let g := s.seg.putDoor d { x with eng := { x.eng with
        retry := x.eng.retry + 1, state := .awaitGrant, timer := ⟨0, 0, false⟩ } }
      goes (consider s.env { g with queue := insertEntry ⟨d, (s.env.doorEntry d).rank⟩ s.seg.queue }))
    ∧ (x.eng.state = .cooling → p.retryLimit ≤ x.eng.retry → ∃ g, goes g ∧ OnlyDoor d s.seg g ∧ g.queue = s.seg.queue
      ∧ (g.door d).eng.state = .faulted ∧ answered .failed g ∧ (g.door d).eng.target = x.eng.target
      ∧ (∀ q, x.eng.target = some q → fails q g)
      ∧ (x.eng.target = none → (g.door d).eng.live = x.eng.live ∧ (g.door d).eng.sticky = x.eng.sticky)))
  ∧ (∀ (b : BranchNo) (k : DropNo) (r : BranchRecord) (rest : List Reception) (s : State), HeardAgain b k r s →
    let y := s.seg.branch b
    let d := doorAt b k
    let x := s.seg.door d
    let p := s.env.profile d
    let i := (replyOf r).current
    let on := if s.seg.fire.latch || x.eng.state == .outOfService then false
      else if x.eng.state = .holding then x.heldDrive p else x.eng.drive
    let compares : Prop := p.lockKind ≠ .motor ∧ p.assigns .lockDrive = true ∧ y.sentApply = true ∧ y.sentLock = true ∧ on = true
    let over' := if p.overLimit < i then x.sup.overCount + 1
      else if i + p.hysteresis ≤ p.overLimit ∨ i = 0 then 0 else x.sup.overCount
    let under' := if x.eng.state = .driving then x.sup.underCount
      else if i < p.underLimit then x.sup.underCount + 1
      else if p.underLimit + p.hysteresis ≤ i then 0 else x.sup.underCount
    let overFault : Prop := x.sup.overCount < over' ∧ p.persistence ≤ over'
    let underFault : Prop := ¬ overFault ∧ x.sup.underCount < under' ∧ p.persistence ≤ under'
    p.readAs .position (replyOf r).inputs = x.inputs.position → p.readAs .exitRequest (replyOf r).inputs = x.inputs.exitRequest →
    (x.mon.watch = none ∨ x.mon.enable
      = (x.eng.state != .absent && x.eng.state != .outOfService && p.assigns .position)) →
    (x.eng.state = .verifying → ∀ q, x.eng.target = some q →
      { x with inputs := namedInputs p (replyOf r) }.sensedAs (some q) p ≠ some q) →
    (compares → overFault ∨ underFault → ∀ z, x.eng.pendingTarget = some z → x.drop.pulse = .none →
      x.eng.state ≠ .faulted →
      ∃ t h, exec (.replyWindowEnd b (.record r :: rest)) s = .next (settled { s with seg := t })
        ∧ (h.door d).eng.state = (if p.faultLatch then .faulted else .cooling) ∧ (h.door d).eng.pendingTarget = none
        ∧ (h.door d).eng.drive = false ∧ (h.door d).eng.target = x.eng.target ∧ (h.door d).eng.deferral = .none
        ∧ (h.door d).eng.owed = (if p.faultLatch then none else x.eng.owed)
        ∧ (h.door d).sup = ⟨0, 0⟩ ∧ (h.door d).charge = ⟨0, .none, 0, 0⟩ ∧ (h.door d).mon.watch = none
        ∧ (let k := targetSet s.env d z.posture z.params z.owed h
          t = { k with branches := t.branches, doors := t.doors } ∧ (∀ j, j ≠ d → t.door j = k.door j)
          ∧ (x.eng.state ≠ .absent → x.mon.enable = p.assigns .position →
            t.door d = { k.door d with drop := (t.door d).drop })))
    ∧ (x.eng.pendingTarget = none ∨ ¬ (compares ∧ (overFault ∨ underFault)) ∨ x.eng.state = .faulted →
      ∃ g, exec (.replyWindowEnd b (.record r :: rest)) s = .next (settled { s with seg := g })
      ∧ ((g.door d).mon.watch = (if compares ∧ (overFault ∨ underFault) ∧ x.eng.state ≠ .faulted then none else x.mon.watch))
      ∧ (¬ compares → (g.door d).sup = x.sup ∧ (g.door d).eng.live.overcurrent = x.eng.live.overcurrent
          ∧ (g.door d).eng.live.openCircuit = x.eng.live.openCircuit)
      ∧ (compares → ¬ overFault → ¬ underFault → (g.door d).sup = ⟨over', under'⟩ ∧ (g.door d).eng.state = x.eng.state
          ∧ (g.door d).eng.drive = x.eng.drive ∧ (g.door d).charge = x.charge
          ∧ (g.door d).eng.live.overcurrent = (x.eng.live.overcurrent && decide (p.overLimit - p.hysteresis < i))
          ∧ (g.door d).eng.live.openCircuit = (x.eng.live.openCircuit
              && decide (x.eng.state = .driving ∨ i < p.underLimit + p.hysteresis)))
      ∧ (compares → overFault ∨ underFault →
          (g.door d).sup = ⟨0, 0⟩ ∧ (g.door d).eng.drive = false ∧ (g.door d).charge = ⟨0, .none, 0, 0⟩
          ∧ (overFault → (g.door d).eng.live.overcurrent = true ∧ (g.door d).eng.sticky.overcurrent = true
              ∧ (g.door d).eng.live.openCircuit = x.eng.live.openCircuit)
          ∧ (underFault → (g.door d).eng.live.openCircuit = true ∧ (g.door d).eng.sticky.openCircuit = true)
          ∧ (g.door d).eng.target = x.eng.target
          ∧ (x.eng.state = .faulted → (g.door d).eng.state = .faulted)
          ∧ (x.eng.state ≠ .faulted → (g.door d).eng.deferral = .none
            ∧ (p.faultLatch = true → (g.door d).eng.state = .faulted ∧ (g.door d).eng.owed = none)
            ∧ (p.faultLatch = false → (g.door d).eng.state = .cooling ∧ (g.door d).eng.timer = ⟨30, 0, true⟩
                ∧ (g.door d).eng.owed = x.eng.owed)))))
  ∧ (∀ (e : Env) (d : DoorNo) (f : Door → Door) (g : Segment),
    let on (x : Door) : Bool := if g.fire.latch || x.eng.state == .outOfService then false
      else if x.eng.state = .holding then x.heldDrive (e.profile d) else x.eng.drive
    let x := g.door d
    g.upd e d f = g.putDoor d (if on x = true ∧ on (f x) = false then { f x with sup := ⟨0, 0⟩ } else f x))

/-- STEP_OFFSET_SECOND and STEP_START (R141): the offset counts but under SWEEP_HOLD, and a step at 0 is due; and a step that begins
(R142, R145): its start minute, its members in ascending door number, DONE exactly when all of them have answered. Without a run, or with
no step due and one not DONE, settling does nothing (R141, R146). Each member is classified in that order by the first line of R142 that
applies, a target set carries the step's parameters or the catch-up ones (R143), an outcome is recorded for the step that awaits it and
for those in which the door follows it (R144), and a summary counts the outcomes (R154). A step that its last outcome ends is DONE at that
minute (R145). The steps are numbered from 1. Both rows change nothing without a run and at a step that does not count its offset (log 7),
and STEP_START has no effect under SWEEP_HOLD (log 10). -/
def Obligations.StepTimers : Prop :=
  (∀ (k : Nat) (s : State), s.power = .running → 1 ≤ k →
    (s.seg.seqr.run = none → exec (.stepOffsetSecond k) s = .next s ∧ exec (.stepStart k) s = .next s)
    ∧ (∀ r, s.seg.seqr.run = some r →
      let withStep (z : StepRecord) : State :=
        { s with seg := { s.seg with seqr := { s.seg.seqr with run := some { r with steps := r.steps.set (k - 1) z } } } }
      (∀ z, r.steps[k - 1]? = some z →
        (¬ (z.state = .delaying ∧ z.baseReached = true) →
          exec (.stepOffsetSecond k) s = .next (settled s) ∧ exec (.stepStart k) s = .next (settled s))
        ∧ (z.state = .delaying → z.baseReached = true → s.env.siteInForce = .sweepHold →
          exec (.stepOffsetSecond k) s = .next (settled (withStep { z with sub := 0 }))
          ∧ exec (.stepStart k) s = .next (settled s))
        ∧ (z.state = .delaying → z.baseReached = true → s.env.siteInForce ≠ .sweepHold →
          exec (.stepOffsetSecond k) s
            = .next (settled (withStep { z with sub := 0, remaining := z.remaining - 1, due := decide (z.remaining ≤ 1) }))
          ∧ exec (.stepStart k) s = .next (settled (withStep { z with due := true }))))
      ∧ (r.steps[k - 1]? = none →
        exec (.stepOffsetSecond k) s = .next (settled s) ∧ exec (.stepStart k) s = .next (settled s))))
  ∧ (∀ (e : Env) (g : Segment), g.seqr.run = none → settle e g = g)
  ∧ (∀ (e : Env) (g : Segment) (r : Run), g.seqr.run = some r → (∀ z ∈ r.steps, z.due = false) →
    (∃ z ∈ r.steps, z.state ≠ .done) → settle e g = g)
  ∧ (∀ (e : Env) (k : Nat) (g : Segment) (r : Run) (z : StepRecord), g.seqr.run = some r → 1 ≤ k →
    r.steps[k - 1]? = some z → ∃ r' z', (beginStep e k g).seqr.run = some r' ∧ r'.program = r.program
      ∧ r'.startMinute = r.startMinute ∧ r'.steps.length = r.steps.length ∧ r'.steps[k - 1]? = some z'
      ∧ z'.startMinute = some e.minute
      ∧ z'.members.map (fun m => m.door) = allDoors.filter (fun d => e.fitted d
          && (e.doorEntry d).groups.getLsbD (e.stepEntry r.program k).localGroup.val)
      ∧ (z'.state = .active ∨ z'.state = .done)
      ∧ (z'.state = .done ↔ ∀ m ∈ z'.members, ∃ o, m.mark = .outcome o)
      ∧ (z'.state = .done → z'.doneMinute = some e.minute) ∧ (z'.state = .active → z'.doneMinute = z.doneMinute))
  ∧ (∀ (e : Env) (k : Nat) (g : Segment) (r : Run) (z : StepRecord), g.seqr.run = some r → 1 ≤ k → r.steps[k - 1]? = some z →
    let ds := allDoors.filter (fun d => e.fitted d
      && (e.doorEntry d).groups.getLsbD (e.stepEntry r.program k).localGroup.val)
    let started := { z with state := .active, due := false, remaining := 0, startMinute := some e.minute
                            members := ds.map (fun d => ⟨d, .nothing⟩) }
    let reach (y : StepRecord) : StepRecord := if y.baseReached then y
      else { y with baseReached := true, sub := 0, due := y.remaining == 0 && !e.hold }
    let steps := r.steps.set (k - 1) started
    let steps' := if (e.stepEntry r.program (k + 1)).startMode = .withPrevious then steps.modify k reach else steps
    let h := ds.foldl (fun g d => classify e r.program k d g) { g with seqr := { g.seqr with run := some { r with steps := steps' } } }
    beginStep e k g = { h with seqr := { h.seqr with run := h.seqr.run.map (fun r => r.judgeAll e) } })
  ∧ (∀ (e : Env) (p : Fin 8) (k : Nat) (d : DoorNo) (g : Segment),
    let x := (g.door d).eng
    let y := e.stepEntry p k
    let posture : Posture := if (e.stepEntry p 1).kind = .lockup then .secured else .released
    let opposing : Posture := if (e.stepEntry p 1).kind = .lockup then .released else .secured
    let exempt : Prop := effectiveExemption g.exemptions (e.doorEntry d) = some opposing
    let earlier : Option Nat := (x.owed.or (x.pendingTarget.bind (fun q => q.owed))).filter (fun j => decide (j < k))
    let params : Params := if (e.stepEntry p 1).kind = .lockup then y.params else e.work.segment.value.params
    let t := classify e p k d g
    (x.state = .outOfService → t = recordOutcome e d k .absent g)
    ∧ (x.state = .lost → t = targetSet e d posture params (some k) g)
    ∧ (x.state ≠ .outOfService → x.state ≠ .lost →
      (exempt → t = recordOutcome e d k .exempt g)
      ∧ (¬ exempt → x.state = posture.state → t = recordOutcome e d k .already g)
      ∧ (¬ exempt → x.state ≠ posture.state →
        (∀ j, earlier = some j → t = { g with seqr := { g.seqr with run := g.seqr.run.map (fun r => { r with
          steps := r.steps.modify (k - 1) (fun z => { z with members := z.members.map (fun m =>
            if m.door = d ∧ m.mark = .nothing then { m with mark := .following j } else m) }) }) } })
        ∧ (earlier = none → t = targetSet e d posture params (some k) g))))
  ∧ (∀ (e : Env) (d : DoorNo) (k : Nat) (o : DoorOutcome) (g : Segment), 1 ≤ k →
    let awaited (r : Run) : Prop := ∃ z, r.steps[k - 1]? = some z ∧ ∃ m ∈ z.members, m.door = d ∧ m.mark = .nothing
    let t := recordOutcome e d k o g
    ((∀ r, g.seqr.run = some r → ¬ awaited r) → t = g)
    ∧ (∀ r, g.seqr.run = some r → awaited r → ∃ r', t = { g with seqr := { g.seqr with run := some r' } }
      ∧ r'.program = r.program ∧ r'.startMinute = r.startMinute ∧ r'.steps.length = r.steps.length
      ∧ ∀ (i : Nat) (z : StepRecord), r.steps[i]? = some z → ∃ z' : StepRecord, r'.steps[i]? = some z'
        ∧ z'.startMinute = z.startMinute
        ∧ z'.members = z.members.map (fun m =>
          if m.door = d ∧ ((i = k - 1 ∧ m.mark = .nothing) ∨ (k ≤ i ∧ m.mark = .following k))
          then { m with mark := .outcome o } else m)
        ∧ (z.state = .active ∧ (∀ m ∈ z'.members, ∃ o, m.mark = .outcome o) →
            z'.state = .done ∧ z'.doneMinute = some e.minute)
        ∧ (¬(z.state = .active ∧ (∀ m ∈ z'.members, ∃ o, m.mark = .outcome o)) →
            z'.state = z.state ∧ z'.doneMinute = z.doneMinute)))
  ∧ (∀ (e : Env) (ending : Ending) (r : Run),
    let y := r.summarise e ending
    y.program = r.program ∧ y.ending = ending ∧ y.startMinute = r.startMinute ∧ y.endMinute = e.clock.minute
    ∧ y.stepsStarted = r.steps.countP (fun z => z.state != .delaying)
    ∧ y.counts = [DoorOutcome.done, .already, .exempt, .absent, .lost, .leftReleased, .proppedLate, .failed, .budget, .overridden].map
        (fun o => (r.steps.flatMap (fun z => z.members)).countP (fun m => m.mark == .outcome o)))
  ∧ (∀ (e : Env) (r : Run) (g : Segment),
    let ended := { g.seqr with summary := some (r.summarise e .completed), run := none }
    (g.seqr.queue = [] → completeRun e r g = { g with seqr := ended })
    ∧ (∀ p ps, g.seqr.queue = p :: ps → completeRun e r g = startRun e p { g with seqr := { ended with queue := ps } }))
end

