-- ==== Sys2Proof/Laws/Frame.lean ====
section
/-! SUPPORT. What a door-side operation keeps: one relation, and one lemma per operation. Each lemma is of the form "if so far
everything is kept, then it is kept after this operation too", so that a proof about a composed operation applies one lemma
per part. -/

namespace Sys2Proof.Machine

/-! ## Lists -/

theorem dropOldest_sublist (p : ExceptionEntry → Bool) (xs : List ExceptionEntry) :
    (dropOldest p xs).Sublist xs := by
  induction xs with
  | nil => exact List.Sublist.refl _
  | cons x xs ih =>
    unfold dropOldest
    split
    · exact List.sublist_cons_self x xs
    · exact ih.cons_cons x

theorem dropOldest_length (p : ExceptionEntry → Bool) (xs : List ExceptionEntry) (h : xs.any p = true) :
    (dropOldest p xs).length + 1 = xs.length := by
  induction xs with
  | nil => simp at h
  | cons x xs ih =>
    unfold dropOldest
    split
    · rfl
    · next hx => simp only [List.any_cons, hx, Bool.false_or] at h; simp [ih h]

theorem isFor_iff (x : ExceptionEntry) (door : Option DoorNo) (kind : Kind) :
    x.isFor door kind = true ↔ (x.door, x.kind) = (door, kind) := by
  simp [ExceptionEntry.isFor]

/-- An exception handed to a list within its bounds leaves it within them (R173). -/
theorem handException_listed (active : ExceptionEntry → Bool) (door : Option DoorNo) (kind : Kind)
    (sub : Option SubReason) (minute : Nat) (xs : List ExceptionEntry) (h : Listed xs) :
    Listed (handException active door kind sub minute xs) := by
  obtain ⟨hl, hn⟩ := h
  unfold handException
  dsimp only
  split
  · refine ⟨by simpa using hl, ?_⟩
    have : (xs.map (fun x => if x.isFor door kind then x.recur minute sub else x)).map (fun x => (x.door, x.kind))
        = xs.map (fun x => (x.door, x.kind)) := by
      rw [List.map_map]
      apply List.map_congr_left
      intro x _
      by_cases hx : x.isFor door kind <;> simp [hx, ExceptionEntry.recur]
    rw [this]; exact hn
  · next hany =>
    have hfresh : ∀ ys : List ExceptionEntry, ys.Sublist xs → (door, kind) ∉ ys.map (fun x => (x.door, x.kind)) := by
      intro ys hys hmem
      obtain ⟨y, hy, hyk⟩ := List.mem_map.1 hmem
      apply hany
      rw [List.any_eq_true]
      exact ⟨y, hys.subset hy, (isFor_iff y door kind).2 hyk⟩
    have happ : ∀ ys : List ExceptionEntry, ys.Sublist xs → ys.length < Config.maxExceptions →
        Listed (ys ++ [⟨door, kind, sub, minute, minute, 1⟩]) := by
      intro ys hys hlt
      refine ⟨by simp; omega, ?_⟩
      rw [List.map_append, List.nodup_append]
      refine ⟨(hys.map _).nodup hn, by simp, ?_⟩
      intro a ha b hb
      simp only [List.map_cons, List.map_nil, List.mem_singleton] at hb
      rintro rfl
      exact hfresh ys hys (hb ▸ ha)
    split
    · next hlt => exact happ xs (List.Sublist.refl _) hlt
    · split
      · next hin =>
        refine happ _ (dropOldest_sublist _ _) ?_
        have := dropOldest_length _ xs hin
        omega
      · exact ⟨hl, hn⟩

theorem listed_filter (p : ExceptionEntry → Bool) (xs : List ExceptionEntry) (h : Listed xs) : Listed (xs.filter p) :=
  ⟨(List.length_filter_le _ _).trans h.1, (List.filter_sublist.map _).nodup h.2⟩

theorem before_total (a b : QueueEntry) (h : a.before b = false) : b.before a = true := by
  simp only [QueueEntry.before, Bool.or_eq_false_iff, Bool.and_eq_false_iff, decide_eq_false_iff_not, beq_eq_false_iff_ne,
    Bool.or_eq_true, Bool.and_eq_true, decide_eq_true_eq, beq_iff_eq] at *
  omega

theorem before_trans (a b c : QueueEntry) (h : a.before b = true) (h' : b.before c = true) : a.before c = true := by
  simp only [QueueEntry.before, Bool.or_eq_true, Bool.and_eq_true, decide_eq_true_eq, beq_iff_eq] at *
  omega

theorem mem_insertEntry (x y : QueueEntry) (xs : List QueueEntry) : y ∈ insertEntry x xs ↔ y = x ∨ y ∈ xs := by
  induction xs with
  | nil => simp [insertEntry]
  | cons z zs ih =>
    unfold insertEntry
    split
    · simp
    · simp only [List.mem_cons, ih]; tauto

/-- An entry placed by R87 leaves the queue in the order of R87. -/
theorem insertEntry_inRankOrder (x : QueueEntry) (xs : List QueueEntry) (h : InRankOrder xs) :
    InRankOrder (insertEntry x xs) := by
  induction xs with
  | nil => simp [insertEntry, InRankOrder]
  | cons y ys ih =>
    unfold insertEntry
    obtain ⟨hy, hys⟩ := List.pairwise_cons.1 h
    split
    · next hb =>
      refine List.pairwise_cons.2 ⟨?_, h⟩
      intro z hz
      rcases List.mem_cons.1 hz with rfl | hz
      · exact hb
      · exact before_trans _ _ _ hb (hy z hz)
    · next hb =>
      refine List.pairwise_cons.2 ⟨?_, ih hys⟩
      intro z hz
      rcases (mem_insertEntry x z ys).1 hz with rfl | hz
      · exact before_total _ _ (by simpa using hb)
      · exact hy z hz

/-! ## The relation -/

/-- What a door-side operation keeps of the segment: the bounds of the exception list and the order of the actuation queue,
and everything that belongs to the exemption table, the fire release unit, the branches, the window clock, the flash phase,
the run queue and the identity of the active run. -/
structure Kept (g h : Segment) : Prop where
  exceptions : Listed g.exceptions → Listed h.exceptions
  actuation : InRankOrder g.queue → InRankOrder h.queue
  exemptions : h.exemptions = g.exemptions
  fire : h.fire = g.fire
  branches : h.branches = g.branches
  window : h.window = g.window
  flash : h.flash = g.flash
  runQueue : h.seqr.queue = g.seqr.queue
  program : h.seqr.run.map (fun r => r.program) = g.seqr.run.map (fun r => r.program)

theorem Kept.refl (g : Segment) : Kept g g := ⟨id, id, rfl, rfl, rfl, rfl, rfl, rfl, rfl⟩

theorem Kept.trans {g h k : Segment} (a : Kept g h) (b : Kept h k) : Kept g k :=
  ⟨fun x => b.exceptions (a.exceptions x), fun x => b.actuation (a.actuation x), b.exemptions.trans a.exemptions,
    b.fire.trans a.fire, b.branches.trans a.branches, b.window.trans a.window, b.flash.trans a.flash,
    b.runQueue.trans a.runQueue, b.program.trans a.program⟩

theorem Kept.putDoor {g0 g : Segment} {d : DoorNo} {x : Door} (h : Kept g0 g) : Kept g0 (g.putDoor d x) :=
  h.trans ⟨id, id, rfl, rfl, rfl, rfl, rfl, rfl, rfl⟩

theorem Kept.upd {g0 g : Segment} {e : Env} {d : DoorNo} {f : Door → Door} (h : Kept g0 g) : Kept g0 (g.upd e d f) := by
  unfold Segment.upd; dsimp only; split <;> exact h.putDoor

theorem Kept.forDoors {g0 g : Segment} {ds : List DoorNo} {f : DoorNo → Segment → Segment} (h : Kept g0 g)
    (hf : ∀ d g, Kept g0 g → Kept g0 (f d g)) : Kept g0 (forDoors ds f g) := by
  unfold Sys2Proof.Machine.forDoors
  induction ds generalizing g with
  | nil => exact h
  | cons d ds ih => exact ih (hf d g h)

theorem Kept.listException {g0 g : Segment} {e : Env} {door : Option DoorNo} {kind : Kind} {sub : Option SubReason}
    (h : Kept g0 g) : Kept g0 (listException e door kind sub g) :=
  h.trans ⟨handException_listed _ _ _ _ _ _, id, rfl, rfl, rfl, rfl, rfl, rfl, rfl⟩

/-- A change of the active run that keeps its program. -/
theorem Kept.setRun {g0 g : Segment} {r r' : Run} (h : Kept g0 g) (hr : g.seqr.run = some r)
    (hp : r'.program = r.program) : Kept g0 { g with seqr := { g.seqr with run := some r' } } :=
  h.trans ⟨id, id, rfl, rfl, rfl, rfl, rfl, rfl, by simp [hr, hp]⟩

/-- A change of each step of the active run. -/
theorem Kept.mapRun {g0 g : Segment} {f : Run → Run} (h : Kept g0 g) (hf : ∀ r, (f r).program = r.program) :
    Kept g0 { g with seqr := { g.seqr with run := g.seqr.run.map f } } :=
  h.trans ⟨id, id, rfl, rfl, rfl, rfl, rfl, rfl, by cases g.seqr.run <;> simp [hf]⟩

@[simp] theorem Run.modStep_program (k : Nat) (f : StepRecord → StepRecord) (r : Run) :
    (r.modStep k f).program = r.program := rfl

@[simp] theorem Run.reachBase_program (e : Env) (k : Nat) (r : Run) : (r.reachBase e k).program = r.program := rfl

@[simp] theorem Run.judge_program (e : Env) (k : Nat) (r : Run) : (r.judge e k).program = r.program := by
  unfold Run.judge; split
  · rfl
  · split
    · dsimp only; split <;> rfl
    · rfl

theorem Run.judgeFold_program (e : Env) (l : List Nat) (r : Run) :
    (l.foldl (fun r i => r.judge e (i + 1)) r).program = r.program := by
  induction l generalizing r with
  | nil => rfl
  | cons i l ih => simp [List.foldl_cons, ih]

@[simp] theorem Run.judgeAll_program (e : Env) (r : Run) : (r.judgeAll e).program = r.program :=
  Run.judgeFold_program e _ r

@[simp] theorem Run.record_program (d : DoorNo) (k : Nat) (o : DoorOutcome) (r : Run) :
    (r.record d k o).program = r.program := rfl

theorem Kept.recordOutcome {g0 g : Segment} {e : Env} {d : DoorNo} {k : Nat} {o : DoorOutcome} (h : Kept g0 g) :
    Kept g0 (recordOutcome e d k o g) := by
  unfold Sys2Proof.Machine.recordOutcome
  split
  · exact h
  · next r hr =>
    split
    · exact h
    · split
      · exact h.setRun hr (by simp)
      · exact h

theorem Kept.setCharge {g0 g : Segment} {d : DoorNo} {c : Charge} (h : Kept g0 g) : Kept g0 (setCharge d c g) := h.putDoor

theorem Kept.dequeue {g0 g : Segment} {d : DoorNo} (h : Kept g0 g) : Kept g0 (dequeue d g) :=
  h.trans ⟨id, fun x => List.Pairwise.filter _ x, rfl, rfl, rfl, rfl, rfl, rfl, rfl⟩

theorem Kept.place {g0 g : Segment} {x : QueueEntry} (h : Kept g0 g) :
    Kept g0 { g with queue := insertEntry x g.queue } :=
  h.trans ⟨id, insertEntry_inRankOrder _ _, rfl, rfl, rfl, rfl, rfl, rfl, rfl⟩

theorem Kept.drawFree {g0 g : Segment} {n : Nat} (h : Kept g0 g) : Kept g0 { g with free := n } :=
  h.trans ⟨id, id, rfl, rfl, rfl, rfl, rfl, rfl, rfl⟩

theorem Kept.setLearning {g0 g : Segment} {b : Bool} (h : Kept g0 g) : Kept g0 { g with learning := b } :=
  h.trans ⟨id, id, rfl, rfl, rfl, rfl, rfl, rfl, rfl⟩

theorem Kept.setInitialDone {g0 g : Segment} {b : Bool} (h : Kept g0 g) : Kept g0 { g with initialDone := b } :=
  h.trans ⟨id, id, rfl, rfl, rfl, rfl, rfl, rfl, rfl⟩

/-! ## One lemma per operation -/

theorem Kept.enterState {g0 g : Segment} {e : Env} {d : DoorNo} {st : DoorState} (h : Kept g0 g) :
    Kept g0 (enterState e d st g) := by
  unfold Sys2Proof.Machine.enterState; try dsimp only
  repeat' first | with_reducible assumption | with_reducible apply Kept.upd

theorem Kept.startTimer {g0 g : Segment} {e : Env} {d : DoorNo} {n : Nat} (h : Kept g0 g) :
    Kept g0 (startTimer e d n g) := by
  unfold Sys2Proof.Machine.startTimer; try dsimp only
  repeat' first | with_reducible assumption | with_reducible apply Kept.upd

theorem Kept.clearLive {g0 g : Segment} {e : Env} {d : DoorNo} {ks : List Kind} (h : Kept g0 g) :
    Kept g0 (clearLive e d ks g) := by
  unfold Sys2Proof.Machine.clearLive; try dsimp only
  repeat' first | with_reducible assumption | with_reducible apply Kept.upd

theorem Kept.raiseKind {g0 g : Segment} {e : Env} {d : DoorNo} {k : Kind} {sub : Option SubReason} (h : Kept g0 g) :
    Kept g0 (raiseKind e d k sub g) := by
  unfold Sys2Proof.Machine.raiseKind; try dsimp only
  repeat' first | with_reducible assumption | with_reducible apply Kept.upd | with_reducible apply Kept.listException

theorem Kept.answer {g0 g : Segment} {e : Env} {d : DoorNo} {owed : Option Nat} {o : DoorOutcome} (h : Kept g0 g) :
    Kept g0 (answer e d owed o g) := by
  unfold Sys2Proof.Machine.answer; try dsimp only
  repeat' first | with_reducible assumption | with_reducible apply Kept.recordOutcome | split

theorem Kept.answerOwed {g0 g : Segment} {e : Env} {d : DoorNo} {o : DoorOutcome} (h : Kept g0 g) :
    Kept g0 (answerOwed e d o g) := by
  unfold Sys2Proof.Machine.answerOwed; try dsimp only
  repeat' first | with_reducible assumption | with_reducible apply Kept.upd | with_reducible apply Kept.answer

theorem Kept.answerPending {g0 g : Segment} {e : Env} {d : DoorNo} {o : DoorOutcome} (h : Kept g0 g) :
    Kept g0 (answerPending e d o g) := by
  unfold Sys2Proof.Machine.answerPending; try dsimp only
  repeat' first | with_reducible assumption | with_reducible apply Kept.upd | with_reducible apply Kept.answer | split

theorem Kept.dropPending {g0 g : Segment} {e : Env} {d : DoorNo} (h : Kept g0 g) :
    Kept g0 (dropPending e d g) := by
  unfold Sys2Proof.Machine.dropPending; try dsimp only
  repeat' first | with_reducible assumption | with_reducible apply Kept.upd

theorem Kept.postPulse {g0 g : Segment} {e : Env} {d : DoorNo} {k : PulseKind} (h : Kept g0 g) :
    Kept g0 (postPulse e d k g) := h.upd

theorem Kept.withholdPulse {g0 g : Segment} {e : Env} {d : DoorNo} (h : Kept g0 g) :
    Kept g0 (withholdPulse e d g) := h.upd

theorem Kept.cancelPulse {g0 g : Segment} {e : Env} {d : DoorNo} (h : Kept g0 g) :
    Kept g0 (cancelPulse e d g) := by
  unfold Sys2Proof.Machine.cancelPulse; try dsimp only
  repeat' first | with_reducible assumption | with_reducible apply Kept.upd

theorem Kept.stopWaiting {g0 g : Segment} {e : Env} {d : DoorNo} (h : Kept g0 g) :
    Kept g0 (stopWaiting e d g) := by
  unfold Sys2Proof.Machine.stopWaiting; try dsimp only
  repeat' first | with_reducible assumption | with_reducible apply Kept.upd | with_reducible apply Kept.dequeue

theorem Kept.revert {g0 g : Segment} {e : Env} {d : DoorNo} (h : Kept g0 g) :
    Kept g0 (revert e d g) := by
  unfold Sys2Proof.Machine.revert; try dsimp only
  repeat' first | with_reducible assumption | with_reducible apply Kept.upd | with_reducible apply Kept.clearLive | with_reducible apply Kept.stopWaiting | split

theorem Kept.grant {g0 g : Segment} {e : Env} {d : DoorNo} (h : Kept g0 g) :
    Kept g0 (grant e d g) := by
  unfold Sys2Proof.Machine.grant; try dsimp only
  repeat' first | with_reducible assumption | with_reducible apply Kept.upd | with_reducible apply Kept.setCharge | with_reducible apply Kept.dequeue | with_reducible apply Kept.enterState | with_reducible apply Kept.postPulse | with_reducible apply Kept.withholdPulse | split

theorem Kept.refuse {g0 g : Segment} {e : Env} {d : DoorNo} (h : Kept g0 g) :
    Kept g0 (refuse e d g) := by
  unfold Sys2Proof.Machine.refuse; try dsimp only
  repeat' first | with_reducible assumption | with_reducible apply Kept.dequeue | with_reducible apply Kept.raiseKind | with_reducible apply Kept.answerOwed | with_reducible apply Kept.revert

theorem Kept.considerLoop {g0 : Segment} {e : Env} (n : Nat) {g : Segment} (h : Kept g0 g) :
    Kept g0 (considerLoop e n g) := by
  induction n generalizing g with
  | zero => exact h
  | succ n ih =>
    unfold Sys2Proof.Machine.considerLoop
    split
    · exact h
    · split
      · exact ih h.grant
      · split
        · exact h
        · exact ih h.refuse

theorem Kept.consider {g0 g : Segment} {e : Env} (h : Kept g0 g) : Kept g0 (consider e g) := by
  unfold Sys2Proof.Machine.consider
  split
  · exact h
  · exact h.considerLoop _

theorem Kept.enqueue {g0 g : Segment} {e : Env} {d : DoorNo} (h : Kept g0 g) :
    Kept g0 (enqueue e d g) := by
  unfold Sys2Proof.Machine.enqueue; try dsimp only
  repeat' first | with_reducible assumption | with_reducible apply Kept.consider | with_reducible apply Kept.place

theorem Kept.forceDriveOff {g0 g : Segment} {e : Env} {d : DoorNo} (h : Kept g0 g) :
    Kept g0 (forceDriveOff e d g) := by
  unfold Sys2Proof.Machine.forceDriveOff; try dsimp only
  repeat' first | with_reducible assumption | with_reducible apply Kept.upd | with_reducible apply Kept.setCharge | with_reducible apply Kept.consider

theorem Kept.turnDriveOff {g0 g : Segment} {e : Env} {d : DoorNo} (h : Kept g0 g) :
    Kept g0 (turnDriveOff e d g) := by
  unfold Sys2Proof.Machine.turnDriveOff; try dsimp only
  repeat' first | with_reducible assumption | with_reducible apply Kept.forceDriveOff | split

theorem Kept.setDrive {g0 g : Segment} {e : Env} {d : DoorNo} {on : Bool} (h : Kept g0 g) :
    Kept g0 (setDrive e d on g) := by
  unfold Sys2Proof.Machine.setDrive; try dsimp only
  repeat' first | with_reducible assumption | with_reducible apply Kept.upd | with_reducible apply Kept.turnDriveOff | split

theorem Kept.leaveHolding {g0 g : Segment} {e : Env} {d : DoorNo} (h : Kept g0 g) :
    Kept g0 (leaveHolding e d g) := by
  unfold Sys2Proof.Machine.leaveHolding; dsimp only
  split
  · exact h
  · split
    · exact h.setDrive
    · split
      · exact h.setDrive
      · exact h.drawFree.setDrive

theorem Kept.runEnd {g0 g : Segment} {e : Env} {d : DoorNo} (h : Kept g0 g) :
    Kept g0 (runEnd e d g) := by
  unfold Sys2Proof.Machine.runEnd; try dsimp only
  repeat' first | with_reducible assumption | with_reducible apply Kept.setCharge | with_reducible apply Kept.consider | split

theorem Kept.withdraw {g0 g : Segment} {e : Env} {d : DoorNo} (h : Kept g0 g) :
    Kept g0 (withdraw e d g) := by
  unfold Sys2Proof.Machine.withdraw; try dsimp only
  repeat' first | with_reducible assumption | with_reducible apply Kept.dequeue | with_reducible apply Kept.consider | split

theorem Kept.tailEnd {g0 g : Segment} {e : Env} {d : DoorNo} (h : Kept g0 g) :
    Kept g0 (tailEnd e d g) := by
  unfold Sys2Proof.Machine.tailEnd; try dsimp only
  repeat' first | with_reducible assumption | with_reducible apply Kept.setCharge | with_reducible apply Kept.consider | split

theorem Kept.updEng {g0 g : Segment} {e : Env} {d : DoorNo} {f : Engine → Engine} (h : Kept g0 g) :
    Kept g0 (updEng e d f g) := by
  unfold Sys2Proof.Machine.updEng; try dsimp only
  repeat' first | with_reducible assumption | with_reducible apply Kept.upd

theorem Kept.clearWatch {g0 g : Segment} {e : Env} {d : DoorNo} (h : Kept g0 g) :
    Kept g0 (clearWatch e d g) := by
  unfold Sys2Proof.Machine.clearWatch; try dsimp only
  repeat' first | with_reducible assumption | with_reducible apply Kept.upd

theorem Kept.startDeferral {g0 g : Segment} {e : Env} {d : DoorNo} (h : Kept g0 g) :
    Kept g0 (startDeferral e d g) := by
  unfold Sys2Proof.Machine.startDeferral; try dsimp only
  repeat' first | with_reducible assumption | with_reducible apply Kept.updEng

theorem Kept.beginAttempt {g0 g : Segment} {e : Env} {d : DoorNo} {fb : Fallback} {prev : Option Posture} (h : Kept g0 g) :
    Kept g0 (beginAttempt e d fb prev g) := by
  unfold Sys2Proof.Machine.beginAttempt; try dsimp only
  repeat' first | with_reducible assumption | with_reducible apply Kept.updEng

theorem Kept.settleAt {g0 g : Segment} {e : Env} {d : DoorNo} {p : Posture} {o : DoorOutcome} (h : Kept g0 g) :
    Kept g0 (settleAt e d p o g) := by
  unfold Sys2Proof.Machine.settleAt; try dsimp only
  repeat' first | with_reducible assumption | with_reducible apply Kept.clearLive | with_reducible apply Kept.answerOwed | with_reducible apply Kept.setDrive | with_reducible apply Kept.updEng

theorem Kept.enterFaulted {g0 g : Segment} {e : Env} {d : DoorNo} {k : Kind} (h : Kept g0 g) :
    Kept g0 (enterFaulted e d k g) := by
  unfold Sys2Proof.Machine.enterFaulted; try dsimp only
  repeat' first | with_reducible assumption | with_reducible apply Kept.raiseKind | with_reducible apply Kept.answerOwed | with_reducible apply Kept.updEng

theorem Kept.enterVerifying {g0 g : Segment} {e : Env} {d : DoorNo} (h : Kept g0 g) :
    Kept g0 (enterVerifying e d g) := by
  unfold Sys2Proof.Machine.enterVerifying; try dsimp only
  repeat' first | with_reducible assumption | with_reducible apply Kept.enterState | with_reducible apply Kept.startTimer | with_reducible apply Kept.settleAt | split

theorem Kept.awaitGrant {g0 g : Segment} {e : Env} {d : DoorNo} (h : Kept g0 g) :
    Kept g0 (awaitGrant e d g) := by
  unfold Sys2Proof.Machine.awaitGrant; try dsimp only
  repeat' first | with_reducible assumption | with_reducible apply Kept.enterState | with_reducible apply Kept.enqueue

/-- What both branches of the test keep, the whole keeps. -/
theorem Kept.whenWired {g0 g : Segment} {e : Env} {d : DoorNo} {f : Segment → Segment}
    (hf : ∀ {g}, Kept g0 g → Kept g0 (f g)) (h : Kept g0 g) : Kept g0 (whenWired e d f g) := by
  unfold Sys2Proof.Machine.whenWired
  split
  · exact hf h
  · exact h.enterFaulted

theorem Kept.proceed {g0 g : Segment} {e : Env} {d : DoorNo} (h : Kept g0 g) :
    Kept g0 (proceed e d g) := by
  unfold Sys2Proof.Machine.proceed
  apply Kept.whenWired _ h
  intro g h
  repeat' first | with_reducible assumption | with_reducible apply Kept.turnDriveOff | with_reducible apply Kept.enterVerifying | with_reducible apply Kept.awaitGrant | split

theorem Kept.quietNotice {g0 g : Segment} {e : Env} {d : DoorNo} (h : Kept g0 g) :
    Kept g0 (quietNotice e d g) := by
  unfold Sys2Proof.Machine.quietNotice; try dsimp only
  repeat' first | with_reducible assumption | with_reducible apply Kept.enterState | with_reducible apply Kept.startTimer | with_reducible apply Kept.proceed | split

theorem Kept.evaluateWatch {g0 g : Segment} {e : Env} {d : DoorNo} (h : Kept g0 g) :
    Kept g0 (evaluateWatch e d g) := by
  unfold Sys2Proof.Machine.evaluateWatch; try dsimp only
  repeat' first | with_reducible assumption | with_reducible apply Kept.clearWatch | with_reducible apply Kept.quietNotice | split

theorem Kept.setWatch {g0 g : Segment} {e : Env} {d : DoorNo} (h : Kept g0 g) :
    Kept g0 (setWatch e d g) := by
  unfold Sys2Proof.Machine.setWatch; try dsimp only
  repeat' first | with_reducible assumption | with_reducible apply Kept.upd | with_reducible apply Kept.evaluateWatch

theorem Kept.takeReleased {g0 g : Segment} {e : Env} {d : DoorNo} {o : DoorOutcome} (h : Kept g0 g) :
    Kept g0 (takeReleased e d o g) := by
  unfold Sys2Proof.Machine.takeReleased; try dsimp only
  repeat' first | with_reducible assumption | with_reducible apply Kept.leaveHolding | with_reducible apply Kept.turnDriveOff | with_reducible apply Kept.settleAt | with_reducible apply Kept.enterFaulted | with_reducible apply Kept.enterVerifying | with_reducible apply Kept.awaitGrant | split

theorem Kept.actOnExpiry {g0 g : Segment} {e : Env} {d : DoorNo} (h : Kept g0 g) :
    Kept g0 (actOnExpiry e d g) := by
  unfold Sys2Proof.Machine.actOnExpiry; try dsimp only
  repeat' first | with_reducible assumption | with_reducible apply Kept.listException | with_reducible apply Kept.raiseKind | with_reducible apply Kept.answerOwed | with_reducible apply Kept.updEng | with_reducible apply Kept.clearWatch | with_reducible apply Kept.setWatch | with_reducible apply Kept.takeReleased | split

theorem Kept.enterQuietWait {g0 g : Segment} {e : Env} {d : DoorNo} (h : Kept g0 g) :
    Kept g0 (enterQuietWait e d g) := by
  unfold Sys2Proof.Machine.enterQuietWait; try dsimp only
  repeat' first | with_reducible assumption | with_reducible apply Kept.enterState | with_reducible apply Kept.setWatch | with_reducible apply Kept.actOnExpiry | split

theorem Kept.takeSecured {g0 g : Segment} {e : Env} {d : DoorNo} {o : DoorOutcome} (h : Kept g0 g) :
    Kept g0 (takeSecured e d o g) := by
  unfold Sys2Proof.Machine.takeSecured; try dsimp only
  repeat' first | with_reducible assumption | with_reducible apply Kept.leaveHolding | with_reducible apply Kept.startDeferral | with_reducible apply Kept.settleAt | with_reducible apply Kept.enterFaulted | with_reducible apply Kept.enterQuietWait | split

theorem Kept.takeToward {g0 g : Segment} {e : Env} {d : DoorNo} {p : Posture} {o : DoorOutcome} (h : Kept g0 g) :
    Kept g0 (takeToward e d p o g) := by
  unfold Sys2Proof.Machine.takeToward; try dsimp only
  repeat' first | with_reducible assumption | with_reducible apply Kept.takeReleased | with_reducible apply Kept.takeSecured | split

theorem Kept.adopt {g0 g : Segment} {e : Env} {d : DoorNo} {p : Posture} {params : Params} {owed : Option Nat} (h : Kept g0 g) :
    Kept g0 (adopt e d p params owed g) := by
  unfold Sys2Proof.Machine.adopt; try dsimp only
  repeat' first | with_reducible assumption | with_reducible apply Kept.answerOwed | with_reducible apply Kept.updEng

theorem Kept.holdPending {g0 g : Segment} {e : Env} {d : DoorNo} {p : Posture} {params : Params} {owed : Option Nat} (h : Kept g0 g) :
    Kept g0 (holdPending e d p params owed g) := by
  unfold Sys2Proof.Machine.holdPending; try dsimp only
  repeat' first | with_reducible assumption | with_reducible apply Kept.answerPending | with_reducible apply Kept.updEng

theorem Kept.newAttempt {g0 g : Segment} {e : Env} {d : DoorNo} {p : Posture} {params : Params} {owed : Option Nat} {fb : Option Fallback} (h : Kept g0 g) :
    Kept g0 (newAttempt e d p params owed fb g) := by
  unfold Sys2Proof.Machine.newAttempt; try dsimp only
  repeat' first | with_reducible assumption | with_reducible apply Kept.beginAttempt | with_reducible apply Kept.takeToward | with_reducible apply Kept.adopt

theorem Kept.targetSet {g0 g : Segment} {e : Env} {d : DoorNo} {p : Posture} {params : Params} {owed : Option Nat} (h : Kept g0 g) :
    Kept g0 (targetSet e d p params owed g) := by
  unfold Sys2Proof.Machine.targetSet; try dsimp only
  repeat' first | with_reducible assumption | with_reducible apply Kept.answer | with_reducible apply Kept.answerOwed | with_reducible apply Kept.withdraw | with_reducible apply Kept.updEng | with_reducible apply Kept.clearWatch | with_reducible apply Kept.startDeferral | with_reducible apply Kept.awaitGrant | with_reducible apply Kept.setWatch | with_reducible apply Kept.adopt | with_reducible apply Kept.holdPending | with_reducible apply Kept.newAttempt | split

theorem Kept.takePending {g0 g : Segment} {e : Env} {d : DoorNo} (h : Kept g0 g) :
    Kept g0 (takePending e d g) := by
  unfold Sys2Proof.Machine.takePending; try dsimp only
  repeat' first | with_reducible assumption | with_reducible apply Kept.dropPending | with_reducible apply Kept.targetSet | split

theorem Kept.readVerifying {g0 g : Segment} {e : Env} {d : DoorNo} (h : Kept g0 g) :
    Kept g0 (readVerifying e d g) := by
  unfold Sys2Proof.Machine.readVerifying; try dsimp only
  repeat' first | with_reducible assumption | with_reducible apply Kept.settleAt | with_reducible apply Kept.takePending | split

theorem Kept.retry {g0 g : Segment} {e : Env} {d : DoorNo} (h : Kept g0 g) :
    Kept g0 (retry e d g) := by
  unfold Sys2Proof.Machine.retry; try dsimp only
  apply Kept.whenWired _ h.updEng
  intro g h
  repeat' first | with_reducible assumption | with_reducible apply Kept.startTimer | with_reducible apply Kept.turnDriveOff | with_reducible apply Kept.awaitGrant | with_reducible apply Kept.enterQuietWait | split

theorem Kept.verifyFailed {g0 g : Segment} {e : Env} {d : DoorNo} (h : Kept g0 g) :
    Kept g0 (verifyFailed e d g) := by
  unfold Sys2Proof.Machine.verifyFailed; try dsimp only
  repeat' first | with_reducible assumption | with_reducible apply Kept.dropPending | with_reducible apply Kept.enterFaulted | with_reducible apply Kept.newAttempt | with_reducible apply Kept.takePending | with_reducible apply Kept.retry | split

theorem Kept.runTimerEnd {g0 g : Segment} {e : Env} {d : DoorNo} (h : Kept g0 g) :
    Kept g0 (runTimerEnd e d g) := by
  unfold Sys2Proof.Machine.runTimerEnd; try dsimp only
  repeat' first | with_reducible assumption | with_reducible apply Kept.runEnd | with_reducible apply Kept.enterVerifying | with_reducible apply Kept.takePending | split

theorem Kept.pulseAcknowledged {g0 g : Segment} {e : Env} {d : DoorNo} (h : Kept g0 g) :
    Kept g0 (pulseAcknowledged e d g) := by
  unfold Sys2Proof.Machine.pulseAcknowledged; try dsimp only
  repeat' first | with_reducible assumption | with_reducible apply Kept.updEng

theorem Kept.warningEnd {g0 g : Segment} {e : Env} {d : DoorNo} (h : Kept g0 g) :
    Kept g0 (warningEnd e d g) := by
  unfold Sys2Proof.Machine.warningEnd; try dsimp only
  repeat' first | with_reducible assumption | with_reducible apply Kept.proceed | with_reducible apply Kept.updEng | split

theorem Kept.positionOpen {g0 g : Segment} {e : Env} {d : DoorNo} (h : Kept g0 g) :
    Kept g0 (positionOpen e d g) := by
  unfold Sys2Proof.Machine.positionOpen; try dsimp only
  repeat' first | with_reducible assumption | with_reducible apply Kept.raiseKind | with_reducible apply Kept.withdraw | with_reducible apply Kept.updEng | with_reducible apply Kept.awaitGrant | with_reducible apply Kept.enterQuietWait | split

theorem Kept.positionClosed {g0 g : Segment} {e : Env} {d : DoorNo} (h : Kept g0 g) :
    Kept g0 (positionClosed e d g) := by
  unfold Sys2Proof.Machine.positionClosed; try dsimp only
  repeat' first | with_reducible assumption | with_reducible apply Kept.updEng | with_reducible apply Kept.enterVerifying | with_reducible apply Kept.takePending | with_reducible apply Kept.retry | split

theorem Kept.exitRequested {g0 g : Segment} {e : Env} {d : DoorNo} (h : Kept g0 g) :
    Kept g0 (exitRequested e d g) := by
  unfold Sys2Proof.Machine.exitRequested; try dsimp only
  repeat' first | with_reducible assumption | with_reducible apply Kept.enterState | with_reducible apply Kept.startTimer | with_reducible apply Kept.turnDriveOff | with_reducible apply Kept.updEng | split

theorem Kept.shuntEnd {g0 g : Segment} {e : Env} {d : DoorNo} (h : Kept g0 g) :
    Kept g0 (shuntEnd e d g) := by
  unfold Sys2Proof.Machine.shuntEnd; try dsimp only
  split
  · apply Kept.whenWired _ h.updEng
    intro g h
    repeat' first | with_reducible assumption | with_reducible apply Kept.updEng | with_reducible apply Kept.awaitGrant | with_reducible apply Kept.enterQuietWait | split
  · exact h

theorem Kept.exitWindowEnd {g0 g : Segment} {e : Env} {d : DoorNo} (h : Kept g0 g) :
    Kept g0 (exitWindowEnd e d g) := by
  unfold Sys2Proof.Machine.exitWindowEnd; try dsimp only
  repeat' first | with_reducible assumption | with_reducible apply Kept.updEng | split

theorem Kept.deferralEnd {g0 g : Segment} {e : Env} {d : DoorNo} (h : Kept g0 g) :
    Kept g0 (deferralEnd e d g) := by
  unfold Sys2Proof.Machine.deferralEnd; try dsimp only
  repeat' first | with_reducible assumption | with_reducible apply Kept.updEng | with_reducible apply Kept.actOnExpiry | split

theorem Kept.deferralCount {g0 g : Segment} {e : Env} {d : DoorNo} (h : Kept g0 g) :
    Kept g0 (deferralCount e d g) := by
  unfold Sys2Proof.Machine.deferralCount; try dsimp only
  repeat' first | with_reducible assumption | with_reducible apply Kept.updEng | with_reducible apply Kept.deferralEnd | split

theorem Kept.supervisionFault {g0 g : Segment} {e : Env} {d : DoorNo} {k : Kind} (h : Kept g0 g) :
    Kept g0 (supervisionFault e d k g) := by
  unfold Sys2Proof.Machine.supervisionFault; try dsimp only
  repeat' first | with_reducible assumption | with_reducible apply Kept.enterState | with_reducible apply Kept.startTimer | with_reducible apply Kept.raiseKind | with_reducible apply Kept.answerOwed | with_reducible apply Kept.forceDriveOff | with_reducible apply Kept.dequeue | with_reducible apply Kept.updEng | with_reducible apply Kept.clearWatch | with_reducible apply Kept.takePending | split

theorem Kept.coolingEnd {g0 g : Segment} {e : Env} {d : DoorNo} (h : Kept g0 g) :
    Kept g0 (coolingEnd e d g) := by
  unfold Sys2Proof.Machine.coolingEnd; try dsimp only
  repeat' first | with_reducible assumption | with_reducible apply Kept.enterState | with_reducible apply Kept.answerOwed | with_reducible apply Kept.updEng | with_reducible apply Kept.enterFaulted | with_reducible apply Kept.takeReleased | with_reducible apply Kept.takeSecured | with_reducible apply Kept.retry | split

theorem Kept.resetFaultDoor {g0 g : Segment} {e : Env} {d : DoorNo} (h : Kept g0 g) :
    Kept g0 (resetFaultDoor e d g) := by
  unfold Sys2Proof.Machine.resetFaultDoor; try dsimp only
  repeat' first | with_reducible assumption | with_reducible apply Kept.enterState | with_reducible apply Kept.clearLive | with_reducible apply Kept.beginAttempt | with_reducible apply Kept.takeToward | with_reducible apply Kept.updEng | split

theorem Kept.fireDoor {g0 g : Segment} {e : Env} {d : DoorNo} (h : Kept g0 g) :
    Kept g0 (fireDoor e d g) := by
  unfold Sys2Proof.Machine.fireDoor; try dsimp only
  repeat' first | with_reducible assumption | with_reducible apply Kept.answerOwed | with_reducible apply Kept.answerPending | with_reducible apply Kept.dropPending | with_reducible apply Kept.forceDriveOff | with_reducible apply Kept.withdraw | with_reducible apply Kept.updEng | with_reducible apply Kept.clearWatch | with_reducible apply Kept.retry | split

theorem Kept.enterEgress {g0 g : Segment} {e : Env} {d : DoorNo} (h : Kept g0 g) :
    Kept g0 (enterEgress e d g) := by
  unfold Sys2Proof.Machine.enterEgress; try dsimp only
  repeat' first | with_reducible assumption | with_reducible apply Kept.dropPending | with_reducible apply Kept.forceDriveOff | with_reducible apply Kept.updEng

theorem Kept.lostNotice {g0 g : Segment} {e : Env} {d : DoorNo} (h : Kept g0 g) :
    Kept g0 (lostNotice e d g) := by
  unfold Sys2Proof.Machine.lostNotice; try dsimp only
  repeat' first | with_reducible assumption | with_reducible apply Kept.raiseKind | with_reducible apply Kept.answerOwed | with_reducible apply Kept.answerPending | with_reducible apply Kept.leaveHolding | with_reducible apply Kept.consider | with_reducible apply Kept.withdraw | with_reducible apply Kept.updEng | with_reducible apply Kept.clearWatch | split

theorem Kept.resumeState {g0 g : Segment} {e : Env} {d : DoorNo} {st : DoorState} (h : Kept g0 g) :
    Kept g0 (resumeState e d st g) := by
  unfold Sys2Proof.Machine.resumeState; try dsimp only
  repeat' first | with_reducible assumption | with_reducible apply Kept.updEng

theorem Kept.resumeByTarget {g0 g : Segment} {e : Env} {d : DoorNo} (h : Kept g0 g) :
    Kept g0 (resumeByTarget e d g) := by
  unfold Sys2Proof.Machine.resumeByTarget; try dsimp only
  repeat' first | with_reducible assumption | with_reducible apply Kept.enterState | with_reducible apply Kept.updEng | with_reducible apply Kept.beginAttempt | with_reducible apply Kept.settleAt | with_reducible apply Kept.takeToward | split

theorem Kept.pendingAsTarget {g0 g : Segment} {e : Env} {d : DoorNo} (h : Kept g0 g) :
    Kept g0 (pendingAsTarget e d g) := by
  unfold Sys2Proof.Machine.pendingAsTarget; try dsimp only
  repeat' first | with_reducible assumption | with_reducible apply Kept.updEng

theorem Kept.foundNotice {g0 g : Segment} {e : Env} {d : DoorNo} (h : Kept g0 g) :
    Kept g0 (foundNotice e d g) := by
  unfold Sys2Proof.Machine.foundNotice; try dsimp only
  repeat' first | with_reducible assumption | with_reducible apply Kept.clearLive | with_reducible apply Kept.consider | with_reducible apply Kept.updEng | with_reducible apply Kept.beginAttempt | with_reducible apply Kept.takeReleased | with_reducible apply Kept.readVerifying | with_reducible apply Kept.enterEgress | with_reducible apply Kept.resumeState | with_reducible apply Kept.resumeByTarget | with_reducible apply Kept.pendingAsTarget | split

theorem Kept.dropOwingPending {g0 g : Segment} {e : Env} {d : DoorNo} (h : Kept g0 g) :
    Kept g0 (dropOwingPending e d g) := by
  unfold Sys2Proof.Machine.dropOwingPending; try dsimp only
  repeat' first | with_reducible assumption | with_reducible apply Kept.answerPending | with_reducible apply Kept.dropPending | split

theorem Kept.abortDoor {g0 g : Segment} {e : Env} {d : DoorNo} (h : Kept g0 g) :
    Kept g0 (abortDoor e d g) := by
  unfold Sys2Proof.Machine.abortDoor; try dsimp only
  repeat' first | with_reducible assumption | with_reducible apply Kept.answerOwed | with_reducible apply Kept.revert | with_reducible apply Kept.consider | with_reducible apply Kept.awaitGrant | with_reducible apply Kept.dropOwingPending | split

theorem Kept.proppedNotice {g0 g : Segment} {e : Env} {d : DoorNo} {begins : Bool} (h : Kept g0 g) :
    Kept g0 (proppedNotice e d begins g) := by
  unfold Sys2Proof.Machine.proppedNotice; try dsimp only
  repeat' first | with_reducible assumption | with_reducible apply Kept.clearLive | with_reducible apply Kept.raiseKind | split

theorem Kept.tamperBegins {g0 g : Segment} {e : Env} {d : DoorNo} {sub : SubReason} (h : Kept g0 g) :
    Kept g0 (tamperBegins e d sub g) := by
  unfold Sys2Proof.Machine.tamperBegins; try dsimp only
  repeat' first | with_reducible assumption | with_reducible apply Kept.raiseKind | split

theorem Kept.tamperCheck {g0 g : Segment} {e : Env} {d : DoorNo} (h : Kept g0 g) :
    Kept g0 (tamperCheck e d g) := by
  unfold Sys2Proof.Machine.tamperCheck; try dsimp only
  repeat' first | with_reducible assumption | with_reducible apply Kept.clearLive | split

theorem Kept.updMon {g0 g : Segment} {e : Env} {d : DoorNo} {f : Monitor → Monitor} (h : Kept g0 g) :
    Kept g0 (updMon e d f g) := by
  unfold Sys2Proof.Machine.updMon; try dsimp only
  repeat' first | with_reducible assumption | with_reducible apply Kept.upd

theorem Kept.endPropped {g0 g : Segment} {e : Env} {d : DoorNo} (h : Kept g0 g) :
    Kept g0 (endPropped e d g) := by
  unfold Sys2Proof.Machine.endPropped; try dsimp only
  repeat' first | with_reducible assumption | with_reducible apply Kept.proppedNotice | with_reducible apply Kept.updMon | split

theorem Kept.monitorOpen {g0 g : Segment} {e : Env} {d : DoorNo} (h : Kept g0 g) :
    Kept g0 (monitorOpen e d g) := by
  unfold Sys2Proof.Machine.monitorOpen; try dsimp only
  repeat' first | with_reducible assumption | with_reducible apply Kept.updMon | split

theorem Kept.monitorClose {g0 g : Segment} {e : Env} {d : DoorNo} (h : Kept g0 g) :
    Kept g0 (monitorClose e d g) := by
  unfold Sys2Proof.Machine.monitorClose; try dsimp only
  repeat' first | with_reducible assumption | with_reducible apply Kept.updMon | with_reducible apply Kept.endPropped | split

theorem Kept.enableOn {g0 g : Segment} {e : Env} {d : DoorNo} (h : Kept g0 g) :
    Kept g0 (enableOn e d g) := by
  unfold Sys2Proof.Machine.enableOn; try dsimp only
  repeat' first | with_reducible assumption | with_reducible apply Kept.updMon | split

theorem Kept.enableOff {g0 g : Segment} {e : Env} {d : DoorNo} (h : Kept g0 g) :
    Kept g0 (enableOff e d g) := by
  unfold Sys2Proof.Machine.enableOff; try dsimp only
  repeat' first | with_reducible assumption | with_reducible apply Kept.updMon | with_reducible apply Kept.endPropped

theorem Kept.reenable {g0 g : Segment} {e : Env} {d : DoorNo} (h : Kept g0 g) :
    Kept g0 (reenable e d g) := by
  unfold Sys2Proof.Machine.reenable; try dsimp only
  repeat' first | with_reducible assumption | with_reducible apply Kept.evaluateWatch | with_reducible apply Kept.enableOn | with_reducible apply Kept.enableOff | split

theorem Kept.beginPropped {g0 g : Segment} {e : Env} {d : DoorNo} (h : Kept g0 g) :
    Kept g0 (beginPropped e d g) := by
  unfold Sys2Proof.Machine.beginPropped; try dsimp only
  repeat' first | with_reducible assumption | with_reducible apply Kept.proppedNotice | with_reducible apply Kept.updMon

theorem Kept.dwellStep {g0 g : Segment} {e : Env} {d : DoorNo} (h : Kept g0 g) :
    Kept g0 (dwellStep e d g) := by
  unfold Sys2Proof.Machine.dwellStep; try dsimp only
  repeat' first | with_reducible assumption | with_reducible apply Kept.updMon | with_reducible apply Kept.beginPropped | split

theorem Kept.sinceStep {g0 g : Segment} {e : Env} {d : DoorNo} (h : Kept g0 g) :
    Kept g0 (sinceStep e d g) := by
  unfold Sys2Proof.Machine.sinceStep; try dsimp only
  repeat' first | with_reducible assumption | with_reducible apply Kept.evaluateWatch | with_reducible apply Kept.updMon | split

theorem Kept.giveExpected {g0 g : Segment} {e : Env} {d : DoorNo} (h : Kept g0 g) :
    Kept g0 (giveExpected e d g) := by
  unfold Sys2Proof.Machine.giveExpected; try dsimp only
  repeat' first | with_reducible assumption | with_reducible apply Kept.targetSet | split

theorem Kept.tryInitial {g0 g : Segment} {e : Env} (h : Kept g0 g) : Kept g0 (tryInitial e g) := by
  unfold Sys2Proof.Machine.tryInitial
  split
  · exact (h.forDoors (fun _ _ h => h.giveExpected)).setInitialDone
  · exact h

theorem Kept.testLearning {g0 g : Segment} {e : Env} (h : Kept g0 g) :
    Kept g0 (testLearning e g) := by
  unfold Sys2Proof.Machine.testLearning
  split
  · exact Kept.tryInitial (Kept.consider (h.setLearning (b := false)))
  · exact h

theorem Kept.learn {g0 g : Segment} {e : Env} {d : DoorNo} (h : Kept g0 g) :
    Kept g0 (learn e d g) := by
  unfold Sys2Proof.Machine.learn; try dsimp only
  repeat' first | with_reducible assumption | with_reducible apply Kept.setCharge | with_reducible apply Kept.consider | with_reducible apply Kept.testLearning

theorem Kept.takeOutOfService {g0 g : Segment} {e : Env} {d : DoorNo} (h : Kept g0 g) :
    Kept g0 (takeOutOfService e d g) := by
  unfold Sys2Proof.Machine.takeOutOfService; try dsimp only
  repeat' first | with_reducible assumption | with_reducible apply Kept.clearLive | with_reducible apply Kept.answerOwed | with_reducible apply Kept.answerPending | with_reducible apply Kept.dropPending | with_reducible apply Kept.cancelPulse | with_reducible apply Kept.forceDriveOff | with_reducible apply Kept.withdraw | with_reducible apply Kept.updEng | with_reducible apply Kept.clearWatch | with_reducible apply Kept.retry | with_reducible apply Kept.reenable | split

theorem Kept.returnToService {g0 g : Segment} {e : Env} {d : DoorNo} (h : Kept g0 g) :
    Kept g0 (returnToService e d g) := by
  unfold Sys2Proof.Machine.returnToService; try dsimp only
  repeat' first | with_reducible assumption | with_reducible apply Kept.updEng | with_reducible apply Kept.enterEgress | with_reducible apply Kept.reenable | with_reducible apply Kept.giveExpected | split

theorem Kept.setServiceMark {g0 g : Segment} {e : Env} {d : DoorNo} {on : Bool} (h : Kept g0 g) :
    Kept g0 (setServiceMark e d on g) := by
  unfold Sys2Proof.Machine.setServiceMark; try dsimp only
  repeat' first | with_reducible assumption | with_reducible apply Kept.updEng

theorem Kept.becomeFitted {g0 g : Segment} {e : Env} {d : DoorNo} (h : Kept g0 g) :
    Kept g0 (becomeFitted e d g) := by
  unfold Sys2Proof.Machine.becomeFitted; try dsimp only
  repeat' first | with_reducible assumption | with_reducible apply Kept.dequeue | with_reducible apply Kept.putDoor | with_reducible apply Kept.enterState | with_reducible apply Kept.testLearning | with_reducible apply Kept.returnToService | split

theorem Kept.ceaseFitted {g0 g : Segment} {e : Env} {d : DoorNo} (h : Kept g0 g) :
    Kept g0 (ceaseFitted e d g) := by
  unfold Sys2Proof.Machine.ceaseFitted; try dsimp only
  repeat' first | with_reducible assumption | with_reducible apply Kept.upd | with_reducible apply Kept.setCharge | with_reducible apply Kept.clearLive | with_reducible apply Kept.consider | with_reducible apply Kept.testLearning | with_reducible apply Kept.takeOutOfService | split

theorem Kept.endLastVisit {g0 g : Segment} {e : Env} {d : DoorNo} (h : Kept g0 g) :
    Kept g0 (endLastVisit e d g) := by
  unfold Sys2Proof.Machine.endLastVisit; try dsimp only
  repeat' first | with_reducible assumption | with_reducible apply Kept.dequeue | with_reducible apply Kept.upd

theorem Kept.syncFitted {g0 g : Segment} {e : Env} {was : Bool} {d : DoorNo} (h : Kept g0 g) :
    Kept g0 (syncFitted e was d g) := by
  unfold Sys2Proof.Machine.syncFitted; try dsimp only
  repeat' first | with_reducible assumption | with_reducible apply Kept.becomeFitted | with_reducible apply Kept.ceaseFitted | split

theorem Kept.reconcileProfile {g0 g : Segment} {e : Env} {d : DoorNo} (h : Kept g0 g) :
    Kept g0 (reconcileProfile e d g) := by
  unfold Sys2Proof.Machine.reconcileProfile; try dsimp only
  repeat' first | with_reducible assumption | with_reducible apply Kept.takeOutOfService | with_reducible apply Kept.returnToService | split

theorem Kept.rekindDoor {g0 g : Segment} {old e : Env} {d : DoorNo} (h : Kept g0 g) :
    Kept g0 (rekindDoor old e d g) := by
  unfold Machine.rekindDoor; dsimp only
  split
  · exact h
  · split
    · exact h.updEng
    · exact h.setCharge.updEng.consider

theorem Kept.postWithheld {g0 g : Segment} {e : Env} {d : DoorNo} {waited : Bool} (h : Kept g0 g) :
    Kept g0 (postWithheld e d waited g) := by
  unfold Machine.postWithheld
  split
  · exact h.postPulse
  · exact h

theorem Kept.markFollowing {g0 g : Segment} {d : DoorNo} {k j : Nat} (h : Kept g0 g) :
    Kept g0 (markFollowing d k j g) := h.mapRun (fun _ => rfl)

theorem Kept.classify {g0 g : Segment} {e : Env} {p : Fin 8} {k : Nat} {d : DoorNo} (h : Kept g0 g) :
    Kept g0 (classify e p k d g) := by
  unfold Sys2Proof.Machine.classify; try dsimp only
  repeat' first | with_reducible assumption | with_reducible apply Kept.recordOutcome | with_reducible apply Kept.targetSet | with_reducible apply Kept.markFollowing | split

end Sys2Proof.Machine
end

