-- ==== Sys2Proof/Laws/State.lean ====
section
/-! SUPPORT. What each update of the state leaves in each field: one lemma per field, all by definition; then what a vector
update leaves at an index. -/

namespace Sys2Proof.Machine

/-! ## Updates of the whole state -/

@[simp] theorem seg!_pending (s : State) (f : Env → Segment → Segment) : (s.seg! f).pending = s.pending := rfl
@[simp] theorem seg!_power (s : State) (f : Env → Segment → Segment) : (s.seg! f).power = s.power := rfl
@[simp] theorem seg!_fireInHigh (s : State) (f : Env → Segment → Segment) : (s.seg! f).fireInHigh = s.fireInHigh := rfl
@[simp] theorem seg!_trunk (s : State) (f : Env → Segment → Segment) : (s.seg! f).trunk = s.trunk := rfl
@[simp] theorem seg!_clock (s : State) (f : Env → Segment → Segment) : (s.seg! f).clock = s.clock := rfl
@[simp] theorem seg!_work (s : State) (f : Env → Segment → Segment) : (s.seg! f).work = s.work := rfl
@[simp] theorem seg!_stored (s : State) (f : Env → Segment → Segment) : (s.seg! f).stored = s.stored := rfl
@[simp] theorem seg!_store (s : State) (f : Env → Segment → Segment) : (s.seg! f).store = s.store := rfl
@[simp] theorem seg!_seg (s : State) (f : Env → Segment → Segment) : (s.seg! f).seg = f s.env s.seg := rfl

@[simp] theorem port_pending (s : State) (f : TrunkPort → TrunkPort) : (s.port f).pending = s.pending := rfl
@[simp] theorem port_power (s : State) (f : TrunkPort → TrunkPort) : (s.port f).power = s.power := rfl
@[simp] theorem port_fireInHigh (s : State) (f : TrunkPort → TrunkPort) : (s.port f).fireInHigh = s.fireInHigh := rfl
@[simp] theorem port_trunk (s : State) (f : TrunkPort → TrunkPort) : (s.port f).trunk = f s.trunk := rfl
@[simp] theorem port_clock (s : State) (f : TrunkPort → TrunkPort) : (s.port f).clock = s.clock := rfl
@[simp] theorem port_work (s : State) (f : TrunkPort → TrunkPort) : (s.port f).work = s.work := rfl
@[simp] theorem port_stored (s : State) (f : TrunkPort → TrunkPort) : (s.port f).stored = s.stored := rfl
@[simp] theorem port_store (s : State) (f : TrunkPort → TrunkPort) : (s.port f).store = s.store := rfl
@[simp] theorem port_seg (s : State) (f : TrunkPort → TrunkPort) : (s.port f).seg = s.seg := rfl

@[simp] theorem forward_pending (r : TrunkRecord) (s : State) : (forward r s).pending = s.pending := rfl
@[simp] theorem forward_power (r : TrunkRecord) (s : State) : (forward r s).power = s.power := rfl
@[simp] theorem forward_fireInHigh (r : TrunkRecord) (s : State) : (forward r s).fireInHigh = s.fireInHigh := rfl
@[simp] theorem forward_trunk (r : TrunkRecord) (s : State) : (forward r s).trunk = s.trunk.accept r := rfl
@[simp] theorem forward_clock (r : TrunkRecord) (s : State) : (forward r s).clock = s.clock := rfl
@[simp] theorem forward_work (r : TrunkRecord) (s : State) : (forward r s).work = s.work := rfl
@[simp] theorem forward_stored (r : TrunkRecord) (s : State) : (forward r s).stored = s.stored := rfl
@[simp] theorem forward_store (r : TrunkRecord) (s : State) : (forward r s).store = s.store := rfl
@[simp] theorem forward_seg (r : TrunkRecord) (s : State) : (forward r s).seg = s.seg := rfl

@[simp] theorem atSecond_pending (t : Nat) (s : State) : (s.atSecond t).pending = s.pending := rfl
@[simp] theorem atSecond_power (t : Nat) (s : State) : (s.atSecond t).power = s.power := rfl
@[simp] theorem atSecond_fireInHigh (t : Nat) (s : State) : (s.atSecond t).fireInHigh = s.fireInHigh := rfl
@[simp] theorem atSecond_trunk (t : Nat) (s : State) : (s.atSecond t).trunk = s.trunk := rfl
@[simp] theorem atSecond_clock (t : Nat) (s : State) : (s.atSecond t).clock = { s.clock with second := some t } := rfl
@[simp] theorem atSecond_work (t : Nat) (s : State) : (s.atSecond t).work = s.work := rfl
@[simp] theorem atSecond_stored (t : Nat) (s : State) : (s.atSecond t).stored = s.stored := rfl
@[simp] theorem atSecond_store (t : Nat) (s : State) : (s.atSecond t).store = s.store := rfl
@[simp] theorem atSecond_seg (t : Nat) (s : State) : (s.atSecond t).seg = s.seg := rfl

@[simp] theorem restartPhase_pending (s : State) : (restartPhase s).pending = s.pending := rfl
@[simp] theorem restartPhase_power (s : State) : (restartPhase s).power = s.power := rfl
@[simp] theorem restartPhase_fireInHigh (s : State) : (restartPhase s).fireInHigh = s.fireInHigh := rfl
@[simp] theorem restartPhase_trunk (s : State) : (restartPhase s).trunk = s.trunk := rfl
@[simp] theorem restartPhase_clock (s : State) : (restartPhase s).clock = { s.clock with phase := 0 } := rfl
@[simp] theorem restartPhase_work (s : State) : (restartPhase s).work = s.work := rfl
@[simp] theorem restartPhase_stored (s : State) : (restartPhase s).stored = s.stored := rfl
@[simp] theorem restartPhase_store (s : State) : (restartPhase s).store = s.store := rfl
@[simp] theorem restartPhase_seg (s : State) : (restartPhase s).seg = s.seg := rfl

@[simp] theorem setJustSet_pending (b : Bool) (s : State) : (setJustSet b s).pending = s.pending := rfl
@[simp] theorem setJustSet_power (b : Bool) (s : State) : (setJustSet b s).power = s.power := rfl
@[simp] theorem setJustSet_fireInHigh (b : Bool) (s : State) : (setJustSet b s).fireInHigh = s.fireInHigh := rfl
@[simp] theorem setJustSet_trunk (b : Bool) (s : State) : (setJustSet b s).trunk = s.trunk := rfl
@[simp] theorem setJustSet_work (b : Bool) (s : State) : (setJustSet b s).work = s.work := rfl
@[simp] theorem setJustSet_stored (b : Bool) (s : State) : (setJustSet b s).stored = s.stored := rfl
@[simp] theorem setJustSet_store (b : Bool) (s : State) : (setJustSet b s).store = s.store := rfl
@[simp] theorem setJustSet_seg (b : Bool) (s : State) : (setJustSet b s).seg = s.seg := rfl
@[simp] theorem setJustSet_clock (b : Bool) (s : State) : (setJustSet b s).clock = { s.clock with justSet := b } := rfl

@[simp] theorem headerRestarts_pending (s : State) : (headerRestarts s).pending = s.pending := rfl
@[simp] theorem headerRestarts_power (s : State) : (headerRestarts s).power = s.power := rfl
@[simp] theorem headerRestarts_fireInHigh (s : State) : (headerRestarts s).fireInHigh = s.fireInHigh := rfl
@[simp] theorem headerRestarts_trunk (s : State) : (headerRestarts s).trunk = s.trunk := rfl
@[simp] theorem headerRestarts_work (s : State) : (headerRestarts s).work = s.work := rfl
@[simp] theorem headerRestarts_stored (s : State) : (headerRestarts s).stored = s.stored := rfl
@[simp] theorem headerRestarts_store (s : State) : (headerRestarts s).store = s.store := rfl
@[simp] theorem headerRestarts_seg (s : State) : (headerRestarts s).seg = s.seg := rfl
@[simp] theorem headerRestarts_clock (s : State) : (headerRestarts s).clock = { s.clock with phase := 0, justSet := true } := rfl

@[simp] theorem setTomorrow_pending (t : Nat) (s : State) : (setTomorrow t s).pending = s.pending := rfl
@[simp] theorem setTomorrow_power (t : Nat) (s : State) : (setTomorrow t s).power = s.power := rfl
@[simp] theorem setTomorrow_fireInHigh (t : Nat) (s : State) : (setTomorrow t s).fireInHigh = s.fireInHigh := rfl
@[simp] theorem setTomorrow_trunk (t : Nat) (s : State) : (setTomorrow t s).trunk = s.trunk := rfl
@[simp] theorem setTomorrow_clock (t : Nat) (s : State) : (setTomorrow t s).clock = { s.clock with tomorrow := t } := rfl
@[simp] theorem setTomorrow_work (t : Nat) (s : State) : (setTomorrow t s).work = s.work := rfl
@[simp] theorem setTomorrow_stored (t : Nat) (s : State) : (setTomorrow t s).stored = s.stored := rfl
@[simp] theorem setTomorrow_store (t : Nat) (s : State) : (setTomorrow t s).store = s.store := rfl
@[simp] theorem setTomorrow_seg (t : Nat) (s : State) : (setTomorrow t s).seg = s.seg := rfl

@[simp] theorem setDayTypes_pending (today tomorrow : Nat) (s : State) : (setDayTypes today tomorrow s).pending = s.pending := rfl
@[simp] theorem setDayTypes_power (today tomorrow : Nat) (s : State) : (setDayTypes today tomorrow s).power = s.power := rfl
@[simp] theorem setDayTypes_fireInHigh (today tomorrow : Nat) (s : State) : (setDayTypes today tomorrow s).fireInHigh = s.fireInHigh := rfl
@[simp] theorem setDayTypes_trunk (today tomorrow : Nat) (s : State) : (setDayTypes today tomorrow s).trunk = s.trunk := rfl
@[simp] theorem setDayTypes_clock (today tomorrow : Nat) (s : State) : (setDayTypes today tomorrow s).clock = { s.clock with today := today, tomorrow := tomorrow } := rfl
@[simp] theorem setDayTypes_work (today tomorrow : Nat) (s : State) : (setDayTypes today tomorrow s).work = s.work := rfl
@[simp] theorem setDayTypes_stored (today tomorrow : Nat) (s : State) : (setDayTypes today tomorrow s).stored = s.stored := rfl
@[simp] theorem setDayTypes_store (today tomorrow : Nat) (s : State) : (setDayTypes today tomorrow s).store = s.store := rfl
@[simp] theorem setDayTypes_seg (today tomorrow : Nat) (s : State) : (setDayTypes today tomorrow s).seg = s.seg := rfl

@[simp] theorem tellMinute_pending (m : Nat) (s : State) : (tellMinute m s).pending = s.pending := rfl
@[simp] theorem tellMinute_power (m : Nat) (s : State) : (tellMinute m s).power = s.power := rfl
@[simp] theorem tellMinute_fireInHigh (m : Nat) (s : State) : (tellMinute m s).fireInHigh = s.fireInHigh := rfl
@[simp] theorem tellMinute_trunk (m : Nat) (s : State) : (tellMinute m s).trunk = s.trunk := rfl
@[simp] theorem tellMinute_clock (m : Nat) (s : State) : (tellMinute m s).clock = s.clock := rfl
@[simp] theorem tellMinute_work (m : Nat) (s : State) : (tellMinute m s).work = s.work := rfl
@[simp] theorem tellMinute_stored (m : Nat) (s : State) : (tellMinute m s).stored = s.stored := rfl
@[simp] theorem tellMinute_store (m : Nat) (s : State) : (tellMinute m s).store = s.store := rfl
@[simp] theorem tellMinute_seg (m : Nat) (s : State) : (tellMinute m s).seg = settle s.env (expireAt s.env m s.seg) := rfl

@[simp] theorem settled_pending (s : State) : (settled s).pending = s.pending := rfl
@[simp] theorem settled_power (s : State) : (settled s).power = s.power := rfl
@[simp] theorem settled_fireInHigh (s : State) : (settled s).fireInHigh = s.fireInHigh := rfl
@[simp] theorem settled_trunk (s : State) : (settled s).trunk = s.trunk := rfl
@[simp] theorem settled_clock (s : State) : (settled s).clock = s.clock := rfl
@[simp] theorem settled_work (s : State) : (settled s).work = s.work := rfl
@[simp] theorem settled_stored (s : State) : (settled s).stored = s.stored := rfl
@[simp] theorem settled_store (s : State) : (settled s).store = s.store := rfl
@[simp] theorem settled_seg (s : State) : (settled s).seg = settle s.env s.seg := rfl

@[simp] theorem initialApplication_pending (s : State) : (initialApplication s).pending = s.pending := rfl
@[simp] theorem initialApplication_power (s : State) : (initialApplication s).power = s.power := rfl
@[simp] theorem initialApplication_fireInHigh (s : State) : (initialApplication s).fireInHigh = s.fireInHigh := rfl
@[simp] theorem initialApplication_trunk (s : State) : (initialApplication s).trunk = s.trunk := rfl
@[simp] theorem initialApplication_clock (s : State) : (initialApplication s).clock = s.clock := rfl
@[simp] theorem initialApplication_work (s : State) : (initialApplication s).work = s.work := rfl
@[simp] theorem initialApplication_stored (s : State) : (initialApplication s).stored = s.stored := rfl
@[simp] theorem initialApplication_store (s : State) : (initialApplication s).store = s.store := rfl
@[simp] theorem initialApplication_seg (s : State) : (initialApplication s).seg = settle s.env (tryInitial s.env s.seg) := by
  rw [initialApplication, settled_seg]; rfl

@[simp] theorem changeTables_pending (w : Tables) (f : Env → Env → Segment → Segment) (s : State) : (changeTables w f s).pending = s.pending := rfl
@[simp] theorem changeTables_power (w : Tables) (f : Env → Env → Segment → Segment) (s : State) : (changeTables w f s).power = s.power := rfl
@[simp] theorem changeTables_fireInHigh (w : Tables) (f : Env → Env → Segment → Segment) (s : State) : (changeTables w f s).fireInHigh = s.fireInHigh := rfl
@[simp] theorem changeTables_trunk (w : Tables) (f : Env → Env → Segment → Segment) (s : State) : (changeTables w f s).trunk = s.trunk := rfl
@[simp] theorem changeTables_clock (w : Tables) (f : Env → Env → Segment → Segment) (s : State) : (changeTables w f s).clock = s.clock := rfl
@[simp] theorem changeTables_work (w : Tables) (f : Env → Env → Segment → Segment) (s : State) : (changeTables w f s).work = w := rfl
@[simp] theorem changeTables_stored (w : Tables) (f : Env → Env → Segment → Segment) (s : State) : (changeTables w f s).stored = s.stored := rfl
@[simp] theorem changeTables_store (w : Tables) (f : Env → Env → Segment → Segment) (s : State) : (changeTables w f s).store = s.store := rfl
@[simp] theorem changeTables_seg (w : Tables) (f : Env → Env → Segment → Segment) (s : State) : (changeTables w f s).seg = f s.env { s with work := w }.env s.seg := rfl

@[simp] theorem push_pending (s : State) (c : Instr) : (s.push c).pending = c :: s.pending := rfl
@[simp] theorem push_power (s : State) (c : Instr) : (s.push c).power = s.power := rfl
@[simp] theorem push_fireInHigh (s : State) (c : Instr) : (s.push c).fireInHigh = s.fireInHigh := rfl
@[simp] theorem push_trunk (s : State) (c : Instr) : (s.push c).trunk = s.trunk := rfl
@[simp] theorem push_clock (s : State) (c : Instr) : (s.push c).clock = s.clock := rfl
@[simp] theorem push_work (s : State) (c : Instr) : (s.push c).work = s.work := rfl
@[simp] theorem push_stored (s : State) (c : Instr) : (s.push c).stored = s.stored := rfl
@[simp] theorem push_store (s : State) (c : Instr) : (s.push c).store = s.store := rfl
@[simp] theorem push_seg (s : State) (c : Instr) : (s.push c).seg = s.seg := rfl

/-! ## Updates of the segment -/

@[simp] theorem putDoor_doors (g : Segment) (d : DoorNo) (x : Door) : (g.putDoor d x).doors = g.doors.set d x := rfl
@[simp] theorem putDoor_branches (g : Segment) (d : DoorNo) (x : Door) : (g.putDoor d x).branches = g.branches := rfl
@[simp] theorem putDoor_queue (g : Segment) (d : DoorNo) (x : Door) : (g.putDoor d x).queue = g.queue := rfl
@[simp] theorem putDoor_learning (g : Segment) (d : DoorNo) (x : Door) : (g.putDoor d x).learning = g.learning := rfl
@[simp] theorem putDoor_initialDone (g : Segment) (d : DoorNo) (x : Door) : (g.putDoor d x).initialDone = g.initialDone := rfl
@[simp] theorem putDoor_exceptions (g : Segment) (d : DoorNo) (x : Door) : (g.putDoor d x).exceptions = g.exceptions := rfl
@[simp] theorem putDoor_exemptions (g : Segment) (d : DoorNo) (x : Door) : (g.putDoor d x).exemptions = g.exemptions := rfl
@[simp] theorem putDoor_fire (g : Segment) (d : DoorNo) (x : Door) : (g.putDoor d x).fire = g.fire := rfl
@[simp] theorem putDoor_seqr (g : Segment) (d : DoorNo) (x : Door) : (g.putDoor d x).seqr = g.seqr := rfl
@[simp] theorem putDoor_window (g : Segment) (d : DoorNo) (x : Door) : (g.putDoor d x).window = g.window := rfl
@[simp] theorem putDoor_flash (g : Segment) (d : DoorNo) (x : Door) : (g.putDoor d x).flash = g.flash := rfl
@[simp] theorem putDoor_free (g : Segment) (d : DoorNo) (x : Door) : (g.putDoor d x).free = g.free := rfl

@[simp] theorem putBranch_doors (g : Segment) (b : BranchNo) (x : Branch) : (g.putBranch b x).doors = g.doors := rfl
@[simp] theorem putBranch_branches (g : Segment) (b : BranchNo) (x : Branch) : (g.putBranch b x).branches = g.branches.set b x := rfl
@[simp] theorem putBranch_queue (g : Segment) (b : BranchNo) (x : Branch) : (g.putBranch b x).queue = g.queue := rfl
@[simp] theorem putBranch_learning (g : Segment) (b : BranchNo) (x : Branch) : (g.putBranch b x).learning = g.learning := rfl
@[simp] theorem putBranch_initialDone (g : Segment) (b : BranchNo) (x : Branch) : (g.putBranch b x).initialDone = g.initialDone := rfl
@[simp] theorem putBranch_exceptions (g : Segment) (b : BranchNo) (x : Branch) : (g.putBranch b x).exceptions = g.exceptions := rfl
@[simp] theorem putBranch_exemptions (g : Segment) (b : BranchNo) (x : Branch) : (g.putBranch b x).exemptions = g.exemptions := rfl
@[simp] theorem putBranch_fire (g : Segment) (b : BranchNo) (x : Branch) : (g.putBranch b x).fire = g.fire := rfl
@[simp] theorem putBranch_seqr (g : Segment) (b : BranchNo) (x : Branch) : (g.putBranch b x).seqr = g.seqr := rfl
@[simp] theorem putBranch_window (g : Segment) (b : BranchNo) (x : Branch) : (g.putBranch b x).window = g.window := rfl
@[simp] theorem putBranch_flash (g : Segment) (b : BranchNo) (x : Branch) : (g.putBranch b x).flash = g.flash := rfl
@[simp] theorem putBranch_free (g : Segment) (b : BranchNo) (x : Branch) : (g.putBranch b x).free = g.free := rfl

@[simp] theorem updBranch_doors (g : Segment) (b : BranchNo) (f : Branch → Branch) : (updBranch b f g).doors = g.doors := rfl
@[simp] theorem updBranch_branches (g : Segment) (b : BranchNo) (f : Branch → Branch) : (updBranch b f g).branches = g.branches.set b (f (g.branch b)) := rfl
@[simp] theorem updBranch_queue (g : Segment) (b : BranchNo) (f : Branch → Branch) : (updBranch b f g).queue = g.queue := rfl
@[simp] theorem updBranch_learning (g : Segment) (b : BranchNo) (f : Branch → Branch) : (updBranch b f g).learning = g.learning := rfl
@[simp] theorem updBranch_initialDone (g : Segment) (b : BranchNo) (f : Branch → Branch) : (updBranch b f g).initialDone = g.initialDone := rfl
@[simp] theorem updBranch_exceptions (g : Segment) (b : BranchNo) (f : Branch → Branch) : (updBranch b f g).exceptions = g.exceptions := rfl
@[simp] theorem updBranch_exemptions (g : Segment) (b : BranchNo) (f : Branch → Branch) : (updBranch b f g).exemptions = g.exemptions := rfl
@[simp] theorem updBranch_fire (g : Segment) (b : BranchNo) (f : Branch → Branch) : (updBranch b f g).fire = g.fire := rfl
@[simp] theorem updBranch_seqr (g : Segment) (b : BranchNo) (f : Branch → Branch) : (updBranch b f g).seqr = g.seqr := rfl
@[simp] theorem updBranch_window (g : Segment) (b : BranchNo) (f : Branch → Branch) : (updBranch b f g).window = g.window := rfl
@[simp] theorem updBranch_flash (g : Segment) (b : BranchNo) (f : Branch → Branch) : (updBranch b f g).flash = g.flash := rfl
@[simp] theorem updBranch_free (g : Segment) (b : BranchNo) (f : Branch → Branch) : (updBranch b f g).free = g.free := rfl

@[simp] theorem setCharge_doors (g : Segment) (d : DoorNo) (c : Charge) : (setCharge d c g).doors = g.doors.set d { g.door d with charge := c } := rfl
@[simp] theorem setCharge_branches (g : Segment) (d : DoorNo) (c : Charge) : (setCharge d c g).branches = g.branches := rfl
@[simp] theorem setCharge_queue (g : Segment) (d : DoorNo) (c : Charge) : (setCharge d c g).queue = g.queue := rfl
@[simp] theorem setCharge_learning (g : Segment) (d : DoorNo) (c : Charge) : (setCharge d c g).learning = g.learning := rfl
@[simp] theorem setCharge_initialDone (g : Segment) (d : DoorNo) (c : Charge) : (setCharge d c g).initialDone = g.initialDone := rfl
@[simp] theorem setCharge_exceptions (g : Segment) (d : DoorNo) (c : Charge) : (setCharge d c g).exceptions = g.exceptions := rfl
@[simp] theorem setCharge_exemptions (g : Segment) (d : DoorNo) (c : Charge) : (setCharge d c g).exemptions = g.exemptions := rfl
@[simp] theorem setCharge_fire (g : Segment) (d : DoorNo) (c : Charge) : (setCharge d c g).fire = g.fire := rfl
@[simp] theorem setCharge_seqr (g : Segment) (d : DoorNo) (c : Charge) : (setCharge d c g).seqr = g.seqr := rfl
@[simp] theorem setCharge_window (g : Segment) (d : DoorNo) (c : Charge) : (setCharge d c g).window = g.window := rfl
@[simp] theorem setCharge_flash (g : Segment) (d : DoorNo) (c : Charge) : (setCharge d c g).flash = g.flash := rfl
@[simp] theorem setCharge_free (g : Segment) (d : DoorNo) (c : Charge) : (setCharge d c g).free = g.free := rfl

@[simp] theorem setSupervision_doors (g : Segment) (d : DoorNo) (c : Supervision) : (setSupervision d c g).doors = g.doors.set d { g.door d with sup := c } := rfl
@[simp] theorem setSupervision_branches (g : Segment) (d : DoorNo) (c : Supervision) : (setSupervision d c g).branches = g.branches := rfl
@[simp] theorem setSupervision_queue (g : Segment) (d : DoorNo) (c : Supervision) : (setSupervision d c g).queue = g.queue := rfl
@[simp] theorem setSupervision_learning (g : Segment) (d : DoorNo) (c : Supervision) : (setSupervision d c g).learning = g.learning := rfl
@[simp] theorem setSupervision_initialDone (g : Segment) (d : DoorNo) (c : Supervision) : (setSupervision d c g).initialDone = g.initialDone := rfl
@[simp] theorem setSupervision_exceptions (g : Segment) (d : DoorNo) (c : Supervision) : (setSupervision d c g).exceptions = g.exceptions := rfl
@[simp] theorem setSupervision_exemptions (g : Segment) (d : DoorNo) (c : Supervision) : (setSupervision d c g).exemptions = g.exemptions := rfl
@[simp] theorem setSupervision_fire (g : Segment) (d : DoorNo) (c : Supervision) : (setSupervision d c g).fire = g.fire := rfl
@[simp] theorem setSupervision_seqr (g : Segment) (d : DoorNo) (c : Supervision) : (setSupervision d c g).seqr = g.seqr := rfl
@[simp] theorem setSupervision_window (g : Segment) (d : DoorNo) (c : Supervision) : (setSupervision d c g).window = g.window := rfl
@[simp] theorem setSupervision_flash (g : Segment) (d : DoorNo) (c : Supervision) : (setSupervision d c g).flash = g.flash := rfl
@[simp] theorem setSupervision_free (g : Segment) (d : DoorNo) (c : Supervision) : (setSupervision d c g).free = g.free := rfl

@[simp] theorem dequeue_doors (g : Segment) (d : DoorNo) : (dequeue d g).doors = g.doors := rfl
@[simp] theorem dequeue_branches (g : Segment) (d : DoorNo) : (dequeue d g).branches = g.branches := rfl
@[simp] theorem dequeue_queue (g : Segment) (d : DoorNo) : (dequeue d g).queue = g.queue.filter (fun q => q.door != d) := rfl
@[simp] theorem dequeue_learning (g : Segment) (d : DoorNo) : (dequeue d g).learning = g.learning := rfl
@[simp] theorem dequeue_initialDone (g : Segment) (d : DoorNo) : (dequeue d g).initialDone = g.initialDone := rfl
@[simp] theorem dequeue_exceptions (g : Segment) (d : DoorNo) : (dequeue d g).exceptions = g.exceptions := rfl
@[simp] theorem dequeue_exemptions (g : Segment) (d : DoorNo) : (dequeue d g).exemptions = g.exemptions := rfl
@[simp] theorem dequeue_fire (g : Segment) (d : DoorNo) : (dequeue d g).fire = g.fire := rfl
@[simp] theorem dequeue_seqr (g : Segment) (d : DoorNo) : (dequeue d g).seqr = g.seqr := rfl
@[simp] theorem dequeue_window (g : Segment) (d : DoorNo) : (dequeue d g).window = g.window := rfl
@[simp] theorem dequeue_flash (g : Segment) (d : DoorNo) : (dequeue d g).flash = g.flash := rfl
@[simp] theorem dequeue_free (g : Segment) (d : DoorNo) : (dequeue d g).free = g.free := rfl

@[simp] theorem listException_doors (g : Segment) (e : Env) (door : Option DoorNo) (k : Kind) (sub : Option SubReason) : (listException e door k sub g).doors = g.doors := rfl
@[simp] theorem listException_branches (g : Segment) (e : Env) (door : Option DoorNo) (k : Kind) (sub : Option SubReason) : (listException e door k sub g).branches = g.branches := rfl
@[simp] theorem listException_queue (g : Segment) (e : Env) (door : Option DoorNo) (k : Kind) (sub : Option SubReason) : (listException e door k sub g).queue = g.queue := rfl
@[simp] theorem listException_learning (g : Segment) (e : Env) (door : Option DoorNo) (k : Kind) (sub : Option SubReason) : (listException e door k sub g).learning = g.learning := rfl
@[simp] theorem listException_initialDone (g : Segment) (e : Env) (door : Option DoorNo) (k : Kind) (sub : Option SubReason) : (listException e door k sub g).initialDone = g.initialDone := rfl
@[simp] theorem listException_exceptions (g : Segment) (e : Env) (door : Option DoorNo) (k : Kind) (sub : Option SubReason) : (listException e door k sub g).exceptions = handException (fun x => x.active g) door k sub e.minute g.exceptions := rfl
@[simp] theorem listException_exemptions (g : Segment) (e : Env) (door : Option DoorNo) (k : Kind) (sub : Option SubReason) : (listException e door k sub g).exemptions = g.exemptions := rfl
@[simp] theorem listException_fire (g : Segment) (e : Env) (door : Option DoorNo) (k : Kind) (sub : Option SubReason) : (listException e door k sub g).fire = g.fire := rfl
@[simp] theorem listException_seqr (g : Segment) (e : Env) (door : Option DoorNo) (k : Kind) (sub : Option SubReason) : (listException e door k sub g).seqr = g.seqr := rfl
@[simp] theorem listException_window (g : Segment) (e : Env) (door : Option DoorNo) (k : Kind) (sub : Option SubReason) : (listException e door k sub g).window = g.window := rfl
@[simp] theorem listException_flash (g : Segment) (e : Env) (door : Option DoorNo) (k : Kind) (sub : Option SubReason) : (listException e door k sub g).flash = g.flash := rfl
@[simp] theorem listException_free (g : Segment) (e : Env) (door : Option DoorNo) (k : Kind) (sub : Option SubReason) : (listException e door k sub g).free = g.free := rfl

@[simp] theorem startRun_doors (g : Segment) (e : Env) (p : Fin 8) : (startRun e p g).doors = g.doors := rfl
@[simp] theorem startRun_branches (g : Segment) (e : Env) (p : Fin 8) : (startRun e p g).branches = g.branches := rfl
@[simp] theorem startRun_queue (g : Segment) (e : Env) (p : Fin 8) : (startRun e p g).queue = g.queue := rfl
@[simp] theorem startRun_learning (g : Segment) (e : Env) (p : Fin 8) : (startRun e p g).learning = g.learning := rfl
@[simp] theorem startRun_initialDone (g : Segment) (e : Env) (p : Fin 8) : (startRun e p g).initialDone = g.initialDone := rfl
@[simp] theorem startRun_exceptions (g : Segment) (e : Env) (p : Fin 8) : (startRun e p g).exceptions = g.exceptions := rfl
@[simp] theorem startRun_exemptions (g : Segment) (e : Env) (p : Fin 8) : (startRun e p g).exemptions = g.exemptions := rfl
@[simp] theorem startRun_fire (g : Segment) (e : Env) (p : Fin 8) : (startRun e p g).fire = g.fire := rfl
@[simp] theorem startRun_window (g : Segment) (e : Env) (p : Fin 8) : (startRun e p g).window = g.window := rfl
@[simp] theorem startRun_flash (g : Segment) (e : Env) (p : Fin 8) : (startRun e p g).flash = g.flash := rfl
@[simp] theorem startRun_free (g : Segment) (e : Env) (p : Fin 8) : (startRun e p g).free = g.free := rfl

@[simp] theorem endRun_doors (g : Segment) (e : Env) (x : Ending) : (endRun e x g).doors = g.doors := rfl
@[simp] theorem endRun_branches (g : Segment) (e : Env) (x : Ending) : (endRun e x g).branches = g.branches := rfl
@[simp] theorem endRun_queue (g : Segment) (e : Env) (x : Ending) : (endRun e x g).queue = g.queue := rfl
@[simp] theorem endRun_learning (g : Segment) (e : Env) (x : Ending) : (endRun e x g).learning = g.learning := rfl
@[simp] theorem endRun_initialDone (g : Segment) (e : Env) (x : Ending) : (endRun e x g).initialDone = g.initialDone := rfl
@[simp] theorem endRun_exceptions (g : Segment) (e : Env) (x : Ending) : (endRun e x g).exceptions = g.exceptions := rfl
@[simp] theorem endRun_exemptions (g : Segment) (e : Env) (x : Ending) : (endRun e x g).exemptions = g.exemptions := rfl
@[simp] theorem endRun_fire (g : Segment) (e : Env) (x : Ending) : (endRun e x g).fire = g.fire := rfl
@[simp] theorem endRun_window (g : Segment) (e : Env) (x : Ending) : (endRun e x g).window = g.window := rfl
@[simp] theorem endRun_flash (g : Segment) (e : Env) (x : Ending) : (endRun e x g).flash = g.flash := rfl
@[simp] theorem endRun_free (g : Segment) (e : Env) (x : Ending) : (endRun e x g).free = g.free := rfl

@[simp] theorem stepSecond_doors (g : Segment) (e : Env) (k : Nat) : (stepSecond e k g).doors = g.doors := rfl
@[simp] theorem stepSecond_branches (g : Segment) (e : Env) (k : Nat) : (stepSecond e k g).branches = g.branches := rfl
@[simp] theorem stepSecond_queue (g : Segment) (e : Env) (k : Nat) : (stepSecond e k g).queue = g.queue := rfl
@[simp] theorem stepSecond_learning (g : Segment) (e : Env) (k : Nat) : (stepSecond e k g).learning = g.learning := rfl
@[simp] theorem stepSecond_initialDone (g : Segment) (e : Env) (k : Nat) : (stepSecond e k g).initialDone = g.initialDone := rfl
@[simp] theorem stepSecond_exceptions (g : Segment) (e : Env) (k : Nat) : (stepSecond e k g).exceptions = g.exceptions := rfl
@[simp] theorem stepSecond_exemptions (g : Segment) (e : Env) (k : Nat) : (stepSecond e k g).exemptions = g.exemptions := rfl
@[simp] theorem stepSecond_fire (g : Segment) (e : Env) (k : Nat) : (stepSecond e k g).fire = g.fire := rfl
@[simp] theorem stepSecond_window (g : Segment) (e : Env) (k : Nat) : (stepSecond e k g).window = g.window := rfl
@[simp] theorem stepSecond_flash (g : Segment) (e : Env) (k : Nat) : (stepSecond e k g).flash = g.flash := rfl
@[simp] theorem stepSecond_free (g : Segment) (e : Env) (k : Nat) : (stepSecond e k g).free = g.free := rfl

@[simp] theorem stepDue_doors (g : Segment) (e : Env) (k : Nat) : (stepDue e k g).doors = g.doors := rfl
@[simp] theorem stepDue_branches (g : Segment) (e : Env) (k : Nat) : (stepDue e k g).branches = g.branches := rfl
@[simp] theorem stepDue_queue (g : Segment) (e : Env) (k : Nat) : (stepDue e k g).queue = g.queue := rfl
@[simp] theorem stepDue_learning (g : Segment) (e : Env) (k : Nat) : (stepDue e k g).learning = g.learning := rfl
@[simp] theorem stepDue_initialDone (g : Segment) (e : Env) (k : Nat) : (stepDue e k g).initialDone = g.initialDone := rfl
@[simp] theorem stepDue_exceptions (g : Segment) (e : Env) (k : Nat) : (stepDue e k g).exceptions = g.exceptions := rfl
@[simp] theorem stepDue_exemptions (g : Segment) (e : Env) (k : Nat) : (stepDue e k g).exemptions = g.exemptions := rfl
@[simp] theorem stepDue_fire (g : Segment) (e : Env) (k : Nat) : (stepDue e k g).fire = g.fire := rfl
@[simp] theorem stepDue_window (g : Segment) (e : Env) (k : Nat) : (stepDue e k g).window = g.window := rfl
@[simp] theorem stepDue_flash (g : Segment) (e : Env) (k : Nat) : (stepDue e k g).flash = g.flash := rfl
@[simp] theorem stepDue_free (g : Segment) (e : Env) (k : Nat) : (stepDue e k g).free = g.free := rfl

@[simp] theorem flipFlash_doors (g : Segment) : (flipFlash g).doors = g.doors := rfl
@[simp] theorem flipFlash_branches (g : Segment) : (flipFlash g).branches = g.branches := rfl
@[simp] theorem flipFlash_queue (g : Segment) : (flipFlash g).queue = g.queue := rfl
@[simp] theorem flipFlash_learning (g : Segment) : (flipFlash g).learning = g.learning := rfl
@[simp] theorem flipFlash_initialDone (g : Segment) : (flipFlash g).initialDone = g.initialDone := rfl
@[simp] theorem flipFlash_exceptions (g : Segment) : (flipFlash g).exceptions = g.exceptions := rfl
@[simp] theorem flipFlash_exemptions (g : Segment) : (flipFlash g).exemptions = g.exemptions := rfl
@[simp] theorem flipFlash_fire (g : Segment) : (flipFlash g).fire = g.fire := rfl
@[simp] theorem flipFlash_seqr (g : Segment) : (flipFlash g).seqr = g.seqr := rfl
@[simp] theorem flipFlash_window (g : Segment) : (flipFlash g).window = g.window := rfl
@[simp] theorem flipFlash_flash (g : Segment) : (flipFlash g).flash = ⟨!g.flash.on, 0⟩ := rfl
@[simp] theorem flipFlash_free (g : Segment) : (flipFlash g).free = g.free := rfl

@[simp] theorem lineReturns_doors (g : Segment) (b : BranchNo) : (lineReturns b g).doors = g.doors := rfl
@[simp] theorem lineReturns_branches (g : Segment) (b : BranchNo) : (lineReturns b g).branches = g.branches.set b { g.branch b with lineFault := false } := rfl
@[simp] theorem lineReturns_queue (g : Segment) (b : BranchNo) : (lineReturns b g).queue = g.queue := rfl
@[simp] theorem lineReturns_learning (g : Segment) (b : BranchNo) : (lineReturns b g).learning = g.learning := rfl
@[simp] theorem lineReturns_initialDone (g : Segment) (b : BranchNo) : (lineReturns b g).initialDone = g.initialDone := rfl
@[simp] theorem lineReturns_exceptions (g : Segment) (b : BranchNo) : (lineReturns b g).exceptions = g.exceptions := rfl
@[simp] theorem lineReturns_exemptions (g : Segment) (b : BranchNo) : (lineReturns b g).exemptions = g.exemptions := rfl
@[simp] theorem lineReturns_fire (g : Segment) (b : BranchNo) : (lineReturns b g).fire = g.fire := rfl
@[simp] theorem lineReturns_seqr (g : Segment) (b : BranchNo) : (lineReturns b g).seqr = g.seqr := rfl
@[simp] theorem lineReturns_window (g : Segment) (b : BranchNo) : (lineReturns b g).window = g.window := rfl
@[simp] theorem lineReturns_flash (g : Segment) (b : BranchNo) : (lineReturns b g).flash = g.flash := rfl
@[simp] theorem lineReturns_free (g : Segment) (b : BranchNo) : (lineReturns b g).free = g.free := rfl

/-! ## Vectors -/

@[simp] theorem vmap_get {α β : Type} {n : Nat} (f : α → β) (v : Vector α n) (i : Fin n) : (vmap f v)[i] = f v[i] := by
  simp [vmap]

@[simp] theorem vgen_get {β : Type} (n : Nat) (f : Fin n → β) (i : Fin n) : (vgen n f)[i] = f i := by
  simp [vgen]

/-! ## A door after an update of a door -/

@[simp] theorem door_putDoor_same (g : Segment) (d : DoorNo) (x : Door) : (g.putDoor d x).door d = x := by
  simp [Segment.door, Segment.putDoor]

theorem door_putDoor_ne (g : Segment) (d j : DoorNo) (x : Door) (h : j ≠ d) : (g.putDoor d x).door j = g.door j := by
  have : d.val ≠ j.val := fun e => h (Fin.ext e.symm)
  simp [Segment.door, Segment.putDoor, this]

theorem onlyDoor_putDoor (g : Segment) (d : DoorNo) (x : Door) : OnlyDoor d g (g.putDoor d x) :=
  fun j h => door_putDoor_ne g d j x h

theorem onlyDoor_upd (g : Segment) (e : Env) (d : DoorNo) (f : Door → Door) : OnlyDoor d g (g.upd e d f) := by
  unfold Segment.upd; dsimp only; split <;> exact onlyDoor_putDoor g d _

@[simp] theorem upd_door_eng (g : Segment) (e : Env) (d : DoorNo) (f : Door → Door) :
    ((g.upd e d f).door d).eng = (f (g.door d)).eng := by
  unfold Segment.upd; dsimp only; split <;> simp

@[simp] theorem upd_door_drop (g : Segment) (e : Env) (d : DoorNo) (f : Door → Door) :
    ((g.upd e d f).door d).drop = (f (g.door d)).drop := by
  unfold Segment.upd; dsimp only; split <;> simp

@[simp] theorem upd_door_inputs (g : Segment) (e : Env) (d : DoorNo) (f : Door → Door) :
    ((g.upd e d f).door d).inputs = (f (g.door d)).inputs := by
  unfold Segment.upd; dsimp only; split <;> simp

@[simp] theorem upd_door_mon (g : Segment) (e : Env) (d : DoorNo) (f : Door → Door) :
    ((g.upd e d f).door d).mon = (f (g.door d)).mon := by
  unfold Segment.upd; dsimp only; split <;> simp

@[simp] theorem upd_door_charge (g : Segment) (e : Env) (d : DoorNo) (f : Door → Door) :
    ((g.upd e d f).door d).charge = (f (g.door d)).charge := by
  unfold Segment.upd; dsimp only; split <;> simp

@[simp] theorem upd_branches (g : Segment) (e : Env) (d : DoorNo) (f : Door → Door) : (g.upd e d f).branches = g.branches := by
  unfold Segment.upd; dsimp only; split <;> rfl

@[simp] theorem upd_queue (g : Segment) (e : Env) (d : DoorNo) (f : Door → Door) : (g.upd e d f).queue = g.queue := by
  unfold Segment.upd; dsimp only; split <;> rfl

@[simp] theorem upd_learning (g : Segment) (e : Env) (d : DoorNo) (f : Door → Door) : (g.upd e d f).learning = g.learning := by
  unfold Segment.upd; dsimp only; split <;> rfl

@[simp] theorem upd_initialDone (g : Segment) (e : Env) (d : DoorNo) (f : Door → Door) : (g.upd e d f).initialDone = g.initialDone := by
  unfold Segment.upd; dsimp only; split <;> rfl

@[simp] theorem upd_exceptions (g : Segment) (e : Env) (d : DoorNo) (f : Door → Door) : (g.upd e d f).exceptions = g.exceptions := by
  unfold Segment.upd; dsimp only; split <;> rfl

@[simp] theorem upd_exemptions (g : Segment) (e : Env) (d : DoorNo) (f : Door → Door) : (g.upd e d f).exemptions = g.exemptions := by
  unfold Segment.upd; dsimp only; split <;> rfl

@[simp] theorem upd_fire (g : Segment) (e : Env) (d : DoorNo) (f : Door → Door) : (g.upd e d f).fire = g.fire := by
  unfold Segment.upd; dsimp only; split <;> rfl

@[simp] theorem upd_seqr (g : Segment) (e : Env) (d : DoorNo) (f : Door → Door) : (g.upd e d f).seqr = g.seqr := by
  unfold Segment.upd; dsimp only; split <;> rfl

@[simp] theorem upd_window (g : Segment) (e : Env) (d : DoorNo) (f : Door → Door) : (g.upd e d f).window = g.window := by
  unfold Segment.upd; dsimp only; split <;> rfl

@[simp] theorem upd_flash (g : Segment) (e : Env) (d : DoorNo) (f : Door → Door) : (g.upd e d f).flash = g.flash := by
  unfold Segment.upd; dsimp only; split <;> rfl

@[simp] theorem upd_free (g : Segment) (e : Env) (d : DoorNo) (f : Door → Door) : (g.upd e d f).free = g.free := by
  unfold Segment.upd; dsimp only; split <;> rfl

end Sys2Proof.Machine
end

