-- ==== Sys2Proof/Laws/Ops.lean ====
section
/-! SUPPORT. What the operations that carry every command to its meaning do, said once: the guards on the power state, a slot that is
acted on, and `settle`. -/

namespace Sys2Proof.Machine

/-! ## Guards -/

theorem whenRunning_eq (f : State → State) (s : State) (h : s.power = .running) : whenRunning f s = f s := if_pos h

theorem whenRunning_else (f : State → State) (s : State) (h : s.power ≠ .running) : whenRunning f s = s := if_neg h

theorem unlessHeld_eq (f : State → State) (s : State) (h : s.power ≠ .resetHeld) : unlessHeld f s = f s := if_neg h

theorem unlessHeld_held (f : State → State) (s : State) (h : s.power = .resetHeld) : unlessHeld f s = s := if_pos h

theorem tickArrives_due (s : State) (h : s.clock.justSet = true) : tickArrives s = setJustSet false s := if_pos h

theorem tickArrives_else (s : State) (h : s.clock.justSet = false) : tickArrives s = tick s := by simp [tickArrives, h]

theorem runSegment_eq (f : Env → Segment → Segment) (s : State) (h : s.power = .running) :
    runSegment f s = settled { s with seg := f s.env s.seg } := whenRunning_eq _ s h

theorem runSegment_else (f : Env → Segment → Segment) (s : State) (h : s.power ≠ .running) : runSegment f s = s :=
  whenRunning_else _ s h

/-- A door operation that leaves the segment as it is leaves a state to settle. -/
theorem runSegment_same (f : Env → Segment → Segment) (s : State) (h : s.power = .running) (hf : f s.env s.seg = s.seg) :
    runSegment f s = settled s := by rw [runSegment_eq f s h, hf]

/-! ## Settling -/

theorem settle_of_no_run (e : Env) (g : Segment) (h : g.seqr.run = none) : settle e g = g := by
  simp [settle, runDue, h]

theorem settled_of_no_run (s : State) (h : s.seg.seqr.run = none) : settled s = s := by
  simp [settled, State.seg!, settle_of_no_run s.env s.seg h]

/-- Nothing is due and the run is not finished: settling does nothing (R141, R146). -/
theorem settle_at_rest (e : Env) (g : Segment) (r : Run) (h : g.seqr.run = some r) (hd : r.firstDue = none)
    (ha : r.steps.all (fun s => s.state == .done) = false) : settle e g = g := by
  simp [settle, runDue, h, hd, ha]

/-! ## A change that leaves a door's LOCK_DRIVE level -/

/-- A change of a door that keeps its LOCK_DRIVE level is that change and nothing else (R104). -/
theorem upd_same_level (e : Env) (d : DoorNo) (f : Door → Door) (g : Segment)
    (h : (f (g.door d)).lockLevel g.fire.latch (e.profile d) = (g.door d).lockLevel g.fire.latch (e.profile d)) :
    g.upd e d f = g.putDoor d (f (g.door d)) := by
  unfold Segment.upd
  simp [h]

/-! ## Slots that are acted on -/

theorem InFrame.route_zero {s : State} (h : InFrame s) : s.route 0 true = .management := by
  simp [State.route, h.running, h.header, h.address]

theorem Addressed.addressNo {h : ReqHead} {s : State} (a : Addressed h s) : s.addressNo = h.target.toNat := by
  simp [State.addressNo, a.target]

/-- A request in slot 0 is served by what its row says (R10). -/
theorem requestArrives_slot_zero {q : Request} {s : State} (h : InFrame s) (hp : s.trunk.phase = .slots 0) :
    requestArrives q s = managementSlot (requestRecord q) q s := by
  simp [requestArrives, State.inserted, h.inserted, hp, h.route_zero]

/-- A request addressed to this controller is answered in its slot (R10). -/
theorem requestArrives_addressed {q : Request} {s : State} (a : Addressed q.head s) :
    requestArrives q s
      = forward (responseRecord s.addressNo q (serve q s).result (serve q s).value) (serve q s).state := by
  rw [requestArrives_slot_zero a.frame a.slot]
  simp [managementSlot, a.addressNo]

/-- A slot routed as a command slot (R9). -/
theorem Awaits.routesTo_command {s : State} (a : Awaits .command s) : s.routesTo .command = true := by
  obtain ⟨n, h1, h2, hp, hr⟩ := a.slot
  have h0 : n ≠ 0 := by omega
  simp [State.routesTo, State.slotNow, State.inserted, a.frame.inserted, hp, h2, State.route, a.frame.running,
    a.frame.header, a.frame.address, h0, a.listen, hr]

/-- A command whose site group the segment knows is decoded, and acknowledged where it is taken (R11). -/
theorem commandArrives_commanded {c : CommandCode} {x : CommandSlot} {sc : Scope} {s : State} (h : Commanded x sc s) :
    commandArrives c x s
      = (let y := decodeCommand c sc x.argument s.env s.seg
         if y.1 then forward (acknowledge s.addressNo (commandRecord c.code x)) (settled { s with seg := y.2 })
         else forward (commandRecord c.code x) { s with seg := y.2 }) := by
  simp only [commandArrives, h.awaits.routesTo_command, if_true, commandSlot, h.scope]

end Sys2Proof.Machine
end

