-- ==== Sys2Proof/WellFormed.lean ====
section
/-! DEFINITION. Which commands are well formed: the operands lie in the ranges the rows of the table give
them. `exec` is total on every command, well formed or not. -/

namespace Sys2Proof

/-- The tables and fields of the WRITE row: those whose table has no write row of its own (R170). DOORSTATE (7)
counts here but for the two halves of the passage counter, whose row is WRITE_PASSAGE_COUNTER. -/
def Instr.plainWriteTable (table : Byte) : Bool := 7 ≤ table.toNat

/-- Well-formedness: a request kind of UNKNOWN_REQUEST_KIND names no kind (R181: 9..15), a step number is 1..10
(R135), a WRITE row names a table without a row of its own (R170). -/
def Instr.wf : Instr → Bool
  | .unknownRequestKind _ kind _ _ _ _ => 9 ≤ kind.toNat
  | .stepOffsetSecond step => 1 ≤ step && step ≤ 10
  | .stepStart step => 1 ≤ step && step ≤ 10
  | .write _ table _ _ _ => Instr.plainWriteTable table
  | _ => true

end Sys2Proof
end

