-- ==== Sys2Proof/Tests/Slice0.lean ====
section
/-! SUPPORT. The model's own tests: ill-formed commands, the numbers of the spec's worked examples, and for every statement that has
hypotheses a state that meets them, clause by clause, at a boundary of the clause's range. -/

namespace Sys2Proof.Tests

set_option Elab.async false

open Sys2Proof.Machine

/-! ## Well-formedness -/

theorem test_known_kind_is_illformed : (Instr.unknownRequestKind ⟨1, 0⟩ 8 0 0 0 0).wf = false := by decide
theorem test_unknown_kind_is_wellformed : (Instr.unknownRequestKind ⟨1, 0⟩ 9 0 0 0 0).wf = true := by decide
theorem test_step_zero_is_illformed : (Instr.stepStart 0).wf = false ∧ (Instr.stepOffsetSecond 0).wf = false := by decide
theorem test_step_eleven_is_illformed : (Instr.stepStart 11).wf = false ∧ (Instr.stepOffsetSecond 11).wf = false := by decide
theorem test_write_row_of_its_own_is_illformed : (Instr.write ⟨1, 0⟩ 6 0 0 0).wf = false := by decide
theorem test_write_runtime_is_wellformed : (Instr.write ⟨1, 0⟩ 7 0 0 0).wf = true := by decide
theorem test_no_word_spells_a_command : decodeTableWord 8 1 = none := by decide

/-! ## States to test on -/

/-- A running controller with address 5, in slot 0 of a frame with a valid header, at 10:00:00. -/
def slot0 : State :=
  { State.reset with
    power := .running
    trunk := { State.reset.trunk with
      inserted := true, address := some 5, headerValid := true, phase := .slots 0, state := .tracking, count := 3 }
    clock := { State.reset.clock with second := some 36000, today := 1, tomorrow := 2, yesterday := 0 }
    seg := { State.reset.seg with learning := false, initialDone := true } }

def withSeg (f : Segment → Segment) (s : State) : State := { s with seg := f s.seg }

def withDoor (d : DoorNo) (f : Door → Door) (s : State) : State := { s with seg := s.seg.putDoor d (f (s.seg.door d)) }

def withEng (d : DoorNo) (f : Engine → Engine) (s : State) : State := withDoor d (fun x => { x with eng := f x.eng }) s

def withProfile (p : Fin 8) (x : ProfileEntry) (s : State) : State :=
  { s with work := { s.work with profile := s.work.profile.set p ⟨x, false⟩ } }

def withDoorEntry (d : DoorNo) (x : DoorEntry) (s : State) : State :=
  { s with work := { s.work with door := s.work.door.set d ⟨x, false⟩ } }

def withPhase (p : FramePhase) (s : State) : State := { s with trunk := { s.trunk with phase := p } }

/-- A profile with POSITION on T1 and LOCK_DRIVE on T2. -/
def profileOf (k : LockKind) : ProfileEntry :=
  { ProfileEntry.default with
    lockKind := k, functions := #v[.position, .lockDrive, .none, .none, .none, .none], runUnits := 20, holdUnits := 8
    underLimit := 10 }

/-- Slot 7 is a command slot, slot 8 a status slot; site group 12 is local group 3. -/
def slot7 : State :=
  { slot0 with
    trunk := { slot0.trunk with phase := .slots 7 }
    work := { slot0.work with
      slotmap := (slot0.work.slotmap.set 0 ⟨some ⟨7, .command⟩, false⟩).set 1 ⟨some ⟨8, .status⟩, false⟩
      groupmap := slot0.work.groupmap.set 0 ⟨some ⟨12, 3⟩, false⟩ } }

/-- Door 3 fitted with a profile of the given lock kind, in state st with target SECURED. -/
def door3 (k : LockKind) (st : DoorState) (s : State) : State :=
  withEng 3 (fun x => { x with state := st, target := some .secured })
    (withDoorEntry 3 ⟨true, 0, 0xFFFF#16, 128, .secured⟩ (withProfile 0 (profileOf k) s))

/-- Door 3 as a good reply found it. -/
def sensing (pos drive : Option Bool) (current : Nat) (s : State) : State :=
  withDoor 3 (fun x => { x with
    drop := { x.drop with firstReply := true, reference := true }
    inputs := { x.inputs with position := pos, reportedDrive := drive, current := some current } }) s

theorem inFrame {s : State} (hp : s.power = .running) (ht : s.trunk.inserted = true) (hh : s.trunk.headerValid = true)
    (ha : s.trunk.address = some 5) : InFrame s := ⟨hp, ht, hh, by rw [ha]; rfl⟩

/-- A request to address 5 is addressed to a state that differs from `slot0` outside the trunk port alone. -/
theorem addressed {s : State} {t : BitVec 4} (hp : s.power = .running) (ht : s.trunk = slot0.trunk) :
    Addressed ⟨5, t⟩ s := by
  refine ⟨inFrame hp ?_ ?_ ?_, ?_, ?_⟩ <;> rw [ht] <;> rfl

theorem awaits_command : Awaits .command slot7 :=
  ⟨inFrame rfl rfl rfl rfl, by decide +kernel, 7, by decide +kernel⟩

theorem awaits_status : Awaits .status (withPhase (.slots 8) slot7) :=
  ⟨inFrame rfl rfl rfl rfl, by decide +kernel, 8, by decide +kernel⟩

/-- No table is under a store write while the store is idle. -/
theorem unstored_idle {t : TableName} {s : State} (h : s.store.writing = none) : Unstored t s := by
  intro x hx; rw [h] at hx; cases hx

/-- A command slot for the whole segment, and one for site group 12. -/
def toAll (argument : BitVec 12) : CommandSlot := ⟨255, argument, 0⟩
def toGroup (argument : BitVec 12) : CommandSlot := ⟨12, argument, 0⟩

theorem commanded_all {a : BitVec 12} : Commanded (toAll a) .segment slot7 := ⟨awaits_command, rfl⟩
theorem commanded_group {a : BitVec 12} : Commanded (toGroup a) (.localGroup 3) slot7 :=
  ⟨awaits_command, by show scopeOf slot7.work 12 = _; decide +kernel⟩

/-- A change of the segment leaves a command slot as it is. -/
theorem commanded_withSeg {c : CommandSlot} {sc : Scope} {f : Segment → Segment} (h : Commanded c sc slot7) :
    Commanded c sc (withSeg f slot7) :=
  ⟨⟨⟨rfl, rfl, rfl, rfl⟩, h.awaits.listen, h.awaits.slot⟩, h.scope⟩

/-! ## Worked examples of the spec -/

/-- 5.4, "a door falling still": three passages, then none, window by window. -/
theorem test_activity_falls_as_in_the_example :
    (List.range 12).foldl (fun a _ => nextActivity a 0) (nextActivity 0 3) = 5
    ∧ nextActivity 96 0 = 72 ∧ nextActivity 72 0 = 54 ∧ nextActivity 54 0 = 41 ∧ nextActivity 41 0 = 31
    ∧ nextActivity 3 0 = 0 ∧ nextActivity 4 0 = 3 := by decide

def example3 : ProfileEntry :=
  { ProfileEntry.default with
    lockKind := .strike, functions := #v[.position, .bolt, .exitRequest, .lockDrive, .indicator, .none] }

/-- 3, "a claim that moves". -/
theorem test_claim_moves_as_in_the_example :
    let a := claimFunction example3 5 .position
    let b := claimFunction a.entry 0 .sounder
    let c := claimFunction b.entry 2 .exitRequest
    a.value = 1 ∧ b.value = 0 ∧ c.value = 0
    ∧ a.entry.functions = #v[.generalIn, .bolt, .exitRequest, .lockDrive, .indicator, .position]
    ∧ c.entry.functions = #v[.sounder, .bolt, .exitRequest, .lockDrive, .indicator, .position] := by decide +kernel

def groups3 : GroupMap :=
  (((Vector.replicate 32 ⟨none, false⟩).set 0 ⟨some ⟨12, 0⟩, false⟩).set 1 ⟨some ⟨31, 3⟩, false⟩).set 2
    ⟨some ⟨60, 5⟩, false⟩

/-- 3, "sorting the group map": the first write, and the table after it. -/
theorem test_group_map_sorts_as_in_the_example :
    (match writeGroupmapField groups3 3 ⟨none, false⟩ 0 40 with
      | .ok w => (w.value, usedEntries w.entry)
      | .error _ => (99, [])) = (2, [⟨12, 0⟩, ⟨31, 3⟩, ⟨40, 0⟩, ⟨60, 5⟩]) := by decide +kernel

/-- R180 on two records, and what a record the part writes carries. -/
theorem test_check_byte : crc [] = 0xFF#8 ∧ crcByte 0 0x01#8 = 0x4D#8 ∧ crcByte 0 0x80#8 = crcByte 0x80#8 0#8
    ∧ trunkPasses (trunkSeal ⟨0, 1, 2, 3, 4, 5, 6, 0⟩) = true
    ∧ trunkPasses { trunkSeal ⟨0, 1, 2, 3, 4, 5, 6, 0⟩ with b3 := 2 } = false := by decide +kernel

/-- 12.4: the fields of DOORSTATE that this model's numbering turns on (log 27). -/
theorem test_passage_counter_fields :
    (doorstateFields slot0.env (withDoor 3 (fun x => { x with mon := { x.mon with passages := 0x12ABCD#24 } }) slot0).seg 3)[69]?
      = some 0xABCD
    ∧ (doorstateFields slot0.env
        (withDoor 3 (fun x => { x with mon := { x.mon with passages := 0x12ABCD#24 } }) slot0).seg 3)[70]? = some 0x12 := by
  decide +kernel

/-! ## One step -/

/-- The state after a command. -/
def after (c : Instr) (s : State) : State :=
  match exec c s with
  | .next t => t
  | _ => s

/-- The end of the load asserts INSERT (R15). -/
theorem test_load_end_asserts_insert :
    (after .tableLoadComplete State.reset).power = .running ∧ (after .tableLoadComplete State.reset).trunk.inserted = true := by
  decide +kernel

/-- A magnetic door that ends its warning is granted at once where its run units fit, and drives (R123, R124). -/
theorem test_warning_end_is_granted :
    let s := after (.warningExpiry 3) (door3 .magnetic .warning slot0)
    (s.seg.door 3).eng.state = .driving ∧ (s.seg.door 3).eng.drive = true ∧ (s.seg.door 3).charge = ⟨20, .run, 0, 0⟩
    ∧ s.seg.queue = [] := by decide +kernel

/-- The same door is refused where its run units never fit, with BUDGET, and comes to rest in HOLDING (R90, R119). -/
theorem test_warning_end_is_refused :
    let w := { slot0.work.segment.value with capacity := 19 }
    let s := door3 .magnetic .warning { slot0 with work := { slot0.work with segment := ⟨w, false⟩ } }
    let t := after (.warningExpiry 3) s
    (t.seg.door 3).eng.state = .holding ∧ (t.seg.door 3).eng.sticky.budget = true ∧ (t.seg.door 3).eng.target = none
    ∧ t.seg.exceptions = [⟨some 3, .budget, none, 600, 600, 1⟩] := by decide +kernel

/-- A strike door that reads SECURED is secured as its warning ends (R123, R125). -/
theorem test_warning_end_of_a_strike_is_verified :
    ((after (.warningExpiry 3) (sensing (some false) (some false) 0 (door3 .strike .warning slot0))).seg.door 3).eng.state
      = .secured := by decide +kernel

/-- A door of a fitted drop that opens unasked while SECURED is forced (R127). -/
theorem test_forced_opening :
    let s := sensing (some false) (some false) 0 (door3 .strike .secured slot0)
    let t : Segment := positionOpen s.env 3 s.seg
    (t.door 3).eng.openingMark = .forced ∧ (t.door 3).eng.sticky.forcedOpen = true ∧ (t.door 3).eng.state = .secured := by
  decide +kernel

/-- A request to an unknown table is answered BAD_TABLE in its slot, bit by bit as 12.2 lays the response out. -/
theorem test_bad_table_response :
    (after (.read ⟨5, 9⟩ 11 0 0 0) slot0).trunk.held = some (trunkSeal ⟨0x85, 0x90, 2, 11, 0, 0, 0, 0⟩) := by decide +kernel

/-- A command taken gains bit 4 of the mask, for address 5 (R11, 12.2). -/
theorem test_acknowledged_command :
    (after (.abortRun ⟨255, 0, 0x800000⟩) { slot0 with
      trunk := { slot0.trunk with phase := .slots 7 }
      work := { slot0.work with slotmap := slot0.work.slotmap.set 0 ⟨some ⟨7, .command⟩, false⟩ } }).trunk.held
      = some (trunkSeal ⟨8, 255, 0, 0, 0x80, 0, 0x10, 0⟩) := by decide +kernel

/-- The header of the third valid frame sets the clock (R4, R17). -/
theorem test_third_header_sets_clock :
    let s := { State.reset with
      power := .running, trunk := { State.reset.trunk with inserted := true, phase := .awaitHeader, count := 2 } }
    let t := after (.headerRecord (trunkSeal ⟨0, 0, 0x8C, 0xA0, 1, 2, 0, 0⟩)) s
    t.trunk.state = .tracking ∧ t.clock.second = some 36000 ∧ t.clock.today = 1 ∧ t.clock.tomorrow = 2 := by decide +kernel

/-- A MOTOR door found SECURED, opened and closed, whose profile assigns no LOCK_DRIVE, faults at its retry and is never queued
(R41, R86). -/
theorem test_retry_without_lock_drive_faults :
    let p := { profileOf .motor with functions := #v[.position, .bolt, .none, .none, .none, .none] }
    let t := after (.verifyExpiry 3) (withProfile 0 p (door3 .motor .verifying slot0))
    (t.seg.door 3).eng.state = .faulted ∧ (t.seg.door 3).eng.retry = 1 ∧ (t.seg.door 3).eng.live.notSecured = true
    ∧ t.seg.queue = [] ∧ (t.seg.door 3).drop.pulse = .none := by decide +kernel

/-- A MOTOR door granted unheard posts its pulse with the first good reply of its drop (R66). -/
theorem test_pulse_waits_for_the_first_reply :
    let s := after (.warningExpiry 3) (door3 .motor .warning slot0)
    let t := takeReply s.env 3 false false false ⟨3, 0, false, 0, 0, 0⟩ s.seg
    (s.seg.door 3).eng.state = .driving ∧ (s.seg.door 3).drop.pulse = .none
    ∧ (t.door 3).drop.pulse = .outstanding .throw ∧ (t.door 3).drop.pulseSeq = 1 ∧ (t.door 3).eng.pulseRunTime = 10 := by
  decide +kernel

/-- On a full list a LOCAL_FAULT that ends in step 3 makes room for the FORCED_OPEN of step 5 in the same reply (R58, R173). -/
theorem test_tamper_ends_before_terminal_events :
    let s := withDoor 3 (fun x => { x with
        eng := { x.eng with live := { x.eng.live with tamper := true } }, drop := { x.drop with lastLocalFault := true } })
      (sensing (some false) (some false) 0 (door3 .strike .secured slot0))
    let lost (i : Fin 31) : ExceptionEntry := ⟨some ⟨32 + i.val, by omega⟩, .lost, none, 1, 1, 1⟩
    let g : Segment := (List.finRange 31).foldl (fun g i => g.putDoor ⟨32 + i.val, by omega⟩
        { g.door ⟨32 + i.val, by omega⟩ with eng := { (g.door 32).eng with live := { Live.clear with lost := true } } })
      { s.seg with exceptions := ⟨some 3, .tamper, some .localFault, 1, 1, 1⟩ :: (List.finRange 31).map lost }
    let t := takeReply s.env 3 false false false ⟨3, 0, false, 1, 0, 0⟩ g
    (t.door 3).eng.live.tamper = false ∧ (t.door 3).eng.sticky.forcedOpen = true ∧ t.exceptions.length = 32
    ∧ t.exceptions.any (fun x => x.kind == .forcedOpen) = true ∧ t.exceptions.any (fun x => x.kind == .tamper) = false := by
  decide +kernel

/-- A MOTOR door granted within its own first reply, which ends learning, posts one pulse (R62). -/
theorem test_pulse_of_a_grant_in_the_first_reply_is_one :
    let s := withSeg (fun g => { g with learning := true, queue := [⟨3, 128⟩] }) (door3 .motor .awaitGrant slot0)
    let t := takeReply s.env 3 false false false ⟨3, 0, false, 0, 0, 0⟩ s.seg
    t.learning = false ∧ (t.door 3).eng.state = .driving ∧ (t.door 3).drop.pulse = .outstanding .throw
    ∧ (t.door 3).drop.pulseSeq = 1 := by decide +kernel

/-- A door that leaves HOLDING with its drive on and its held LOCK_DRIVE level off gives its charge back (R111, R94). -/
theorem test_leaving_holding_hands_the_drive_off :
    let s := withDoor 3 (fun x => { x with
        eng := { x.eng with drive := true }, drop := { x.drop with held := some 0 }, charge := ⟨8, .hold, 0, 0⟩ })
      (door3 .strike .holding slot0)
    let t := leaveHolding s.env 3 s.seg
    (t.door 3).eng.drive = false ∧ (t.door 3).charge = ⟨0, .none, 0, 0⟩ := by decide +kernel

/-- A MAGNETIC door is forced in every case, in an exit window that a RESTORE of its lock kind has left open too (R127). -/
theorem test_magnetic_opening_is_forced_in_a_window :
    let s := withEng 3 (fun x => { x with exitWindow := true }) (door3 .magnetic .secured slot0)
    ((positionOpen s.env 3 s.seg).door 3).eng.openingMark = .forced
    ∧ ((positionOpen s.env 3 s.seg).door 3).eng.sticky.forcedOpen = true := by decide +kernel

/-- A CLOCK_TICK behind a header that moved the clock on is not taken, and the next one is; a header one second behind leaves the tick
as it was (R22). -/
theorem test_tick_behind_a_header :
    let s := { slot0 with trunk := { slot0.trunk with phase := .awaitHeader } }
    let ahead := after (.headerRecord (trunkSeal ⟨0, 0, 0x8C, 0xA1, 1, 2, 0, 0⟩)) s
    let lagging := after (.headerRecord (trunkSeal ⟨0, 0, 0x8C, 0x9F, 1, 2, 0, 0⟩)) s
    ahead.clock.second = some 36001 ∧ (after .clockTick ahead).clock.second = some 36001
    ∧ (after .clockTick (after .clockTick ahead)).clock.second = some 36002
    ∧ lagging.clock.second = some 36000 ∧ (after .clockTick lagging).clock.second = some 36001 := by decide +kernel

/-! ## Witnesses: states that meet the hypotheses of the statements

One theorem per statement that has hypotheses; its conjuncts are the hypotheses of the statement's clauses, in their order. Statements
that hold of every state without a hypothesis have none. -/

theorem witness_StepTakesFrontCommand :
    ({ slot0 with pending := [.clockTick, .frameEnd] } : State).pending = .clockTick :: [.frameEnd] := rfl

/-- Door 3 waits for its grant, and the controller runs. -/
def queued : State := withSeg (fun g => { g with queue := [⟨3, 128⟩], learning := true }) (door3 .magnetic .awaitGrant slot0)

theorem witness_CollectionsStayBounded : SegmentOk queued.seg ∧ (∃ t, step queued = .next t) :=
  ⟨⟨by refine ⟨?_, ?_⟩ <;> decide +kernel, by refine ⟨?_, ?_⟩ <;> decide +kernel,
    ⟨by decide +kernel, by decide +kernel, (by intro r h; cases h), fun _ => by decide +kernel⟩,
    (by unfold InRankOrder; decide +kernel)⟩, ⟨_, rfl⟩⟩

theorem witness_QueueHoldsAwaitGrant : QueueOk queued.seg ∧ (∃ t, step queued = .next t) :=
  ⟨⟨by decide +kernel, by decide +kernel⟩, ⟨_, rfl⟩⟩

theorem witness_TimeStaysKnown : TimeOk slot0 ∧ (∃ t, step slot0 = .next t) := by
  refine ⟨⟨⟨by decide +kernel, by decide +kernel, ?_, ?_, by decide +kernel⟩,
    ⟨?_, by decide +kernel, by decide +kernel, by decide +kernel, by decide +kernel⟩, by decide +kernel,
    by decide +kernel⟩, ⟨_, rfl⟩⟩
  · intro a h; cases h; decide
  · show (0 : Nat) ≤ 64; decide
  · intro t h; cases h; decide

theorem witness_RecordFieldsSurvive : (⟨3, 1, true, 0x3F#6, 0#6, 255⟩ : Reply).current < 256 ∧ 63 < 64 := by decide

/-- A store write at the last entry of GROUPMAP, and one before it. -/
def storing (i : Nat) (s : State) : State := { s with store := ⟨some (.groupmap, i), 4⟩ }

theorem witness_SupplyResets :
    (Instr.powerOn 24 = .powerOn 24 ∧ 1 ≤ (24#5).toNat ∧ (24#5).toNat ≤ 24 ∧ ¬ (25#5).toNat ≤ 24)
    ∧ slot0.store.writing = none ∧ (storing 31 slot0).store.writing = some (.groupmap, 31) := by decide +kernel

theorem witness_LoadCompletes :
    FreshLoad State.reset ∧ slot0.power = .running
    ∧ ({ slot0 with power := .resetHeld } : State).power = .resetHeld ∧ State.reset.seg.exceptions = [] :=
  ⟨⟨Or.inl rfl, ⟨.default, by decide +kernel⟩, rfl, rfl, rfl, rfl⟩, rfl, rfl, rfl⟩

theorem witness_RestartKeepsClockAndTrunk :
    (Addressed ⟨5, 9⟩ (storing 0 slot0) ∧ (storing 0 slot0).store.writing.isSome = true)
    ∧ (Addressed ⟨5, 9⟩ slot0 ∧ slot0.store.writing = none)
    ∧ (slot0.power = .running
        ∧ ({ slot0 with trunk := { slot0.trunk with restartPending := true } } : State).trunk.restartPending = true
        ∧ slot0.trunk.restartPending = false) :=
  ⟨⟨addressed rfl rfl, rfl⟩, ⟨addressed rfl rfl, rfl⟩, rfl, rfl, rfl⟩

theorem witness_NothingWithoutInsertOrRunning :
    (Instr.frameStart.onTrunk = true ∧ State.reset.trunk.inserted = false)
    ∧ (Instr.windowExpiry.needsRunning = true ∧ State.reset.power ≠ .running) := by decide +kernel

theorem witness_FrameEvents :
    slot0.trunk.inserted = true ∧ slot0.trunk.phase ≠ .outside
    ∧ (withPhase .awaitHeader slot0).trunk.phase = .awaitHeader
    ∧ (withPhase .outside slot0).trunk.phase = .outside := by decide +kernel

/-- A header for the last second of the day, and one for a second that no day has. -/
def lastSecond : TrunkRecord := trunkSeal ⟨0x00, 0x01, 0x51, 0x7F, 6, 6, 2, 0⟩
def noSecond : TrunkRecord := trunkSeal ⟨0x00, 0x01, 0x51, 0x80, 6, 6, 2, 0⟩

theorem witness_InvalidHeaderAndTimeout :
    ((Instr.headerRecord noSecond).asRecord = some noSecond ∧ (withPhase .awaitHeader slot0).trunk.inserted = true
      ∧ (withPhase .awaitHeader slot0).trunk.phase = .awaitHeader ∧ headerIsValid noSecond = false)
    ∧ slot0.power ≠ .resetHeld ∧ ({ slot0 with power := .resetHeld } : State).power = .resetHeld
    ∧ slot0.trunk.sinceHeader = 0 ∧ ({ slot0 with trunk := { slot0.trunk with sinceHeader := 1 } } : State).trunk.sinceHeader ≠ 0
    ∧ (slot0.pending = [] ∧ ({ slot0 with trunk := { slot0.trunk with sinceHeader := 1999 } } : State).trunk.sinceHeader ≤ 2000) := by
  decide +kernel

theorem witness_ValidHeader :
    (Instr.headerRecord lastSecond).asRecord = some lastSecond ∧ (withPhase .awaitHeader slot0).trunk.inserted = true
    ∧ (withPhase .awaitHeader slot0).trunk.phase = .awaitHeader ∧ headerIsValid lastSecond = true := by decide +kernel

theorem witness_UnactedSlotForwarded :
    (Instr.slotRecord noSecond).asRecord = some noSecond ∧ slot0.trunk.inserted = true
    ∧ ((withPhase (.slots 63) slot0).trunk.phase = .slots 63 ∧ slotRole slot0.work 63 = none)
    ∧ (slot0.trunk.phase = .slots 0 ∧ isResponse { noSecond with b0 := 0x80 } = true)
    ∧ ({ slot0 with power := .reloading } : State).power ≠ .running
    ∧ trunkPasses { noSecond with b7 := noSecond.b7 + 1 } = false
    ∧ (withPhase (.slots 64) slot0).trunk.phase = .slots 64 ∧ (withPhase .outside slot0).trunk.phase = .outside := by
  decide +kernel

/-- A command slot whose record carries the code NONE, and one that carries the lowest code above 9 (R11, R181). -/
theorem witness_UnactedSlotForwarded_codes :
    Awaits .command slot7
    ∧ ((commandRecord 0 (toAll 0)).b0.toNat = 0 ∧ 9 < (commandRecord 10 (toAll 0)).b0.toNat
      ∧ trunkPasses (commandRecord 10 (toAll 0)) = true ∧ slot7.trunk.phase = .slots 7) :=
  ⟨awaits_command, by decide +kernel⟩

theorem witness_StatusSlotReport :
    Awaits .status (withPhase (.slots 8) slot7)
    ∧ ((Instr.statusSlot noSecond).asRecord = some noSecond ∧ trunkPasses noSecond = true
      ∧ (withPhase (.slots 8) slot7).trunk.phase = .slots 8 ∧ slot7.trunk.address = some 5
      ∧ slot7.seg.exceptions.length ≤ 32 ∧ slot7.seg.seqr.run = none) :=
  ⟨awaits_status, by decide +kernel⟩

theorem witness_ReadAnswers :
    Addressed ⟨5, 9⟩ slot0 ∧ 11 ≤ (11#8).toNat
    ∧ ([1, 8, 32, 64, 8, 80, 48, 64, 16, 32, 1][(5#8).toNat]? = some 80 ∧ 80 ≤ (80#8).toNat ∧ (79#8).toNat < 80)
    ∧ fieldAbsent 5 79 1 = true ∧ fieldAbsent 5 70 1 = false
    ∧ (entryFields slot0 7 63 0).map List.length = some 85 :=
  ⟨addressed rfl rfl, by decide +kernel⟩

theorem witness_RequestSlot :
    InFrame slot0 ∧ ((Instr.restart ⟨31, 9⟩).asRequest.isSome = true ∧ slot0.trunk.phase = .slots 0
      ∧ slot0.trunk.address = some 5 ∧ (6#5).toNat ≠ 5 ∧ (31#5).toNat = 31 ∧ (5#5).toNat = 5) :=
  ⟨inFrame rfl rfl rfl rfl, by decide +kernel⟩

theorem witness_WriteElsewhereRefused :
    Addressed ⟨5, 9⟩ slot0 ∧ 11 ≤ (11#8).toNat ∧ 9 ≤ (9#4).toNat
    ∧ ((entryFields slot0 7 63 0).map (fun fs => decide ((85#8).toNat < fs.length)) = some false
      ∧ (entryFields slot0 7 63 0).map (fun fs => decide ((84#8).toNat < fs.length)) = some true
      ∧ ¬(84 = passageLowField ∨ 84 = passageHighField))
    ∧ (64 ≤ (64#8).toNat ∧ 16 ≤ (16#8).toNat ∧ 32 ≤ (32#8).toNat ∧ 1 ≤ (1#8).toNat ∧ (15#8).toNat < 16 ∧ (31#8).toNat < 32
      ∧ (entryFields slot0 8 15 0).map List.length = some (4#8).toNat
      ∧ (entryFields slot0 9 31 0).map List.length = some (7#8).toNat
      ∧ (entryFields slot0 10 0 0).map (fun fs => decide (fs.length ≤ (255#8).toNat)) = some true) :=
  ⟨addressed rfl rfl, by decide +kernel⟩

/-- The table of each of the five rows under a store write, and the first index and field past each range. -/
theorem witness_WriteElsewhereRefused_rows :
    (∀ t : TableName, let s : State := { slot0 with store := ⟨some (t, 3), 4⟩ }
      Addressed ⟨5, 9⟩ s ∧ ¬ Unstored t s)
    ∧ (32 ≤ (32#8).toNat ∧ 64 ≤ (64#8).toNat ∧ 8 ≤ (8#8).toNat ∧ 80 ≤ (80#8).toNat ∧ 48 ≤ (48#8).toNat)
    ∧ ((31#8).toNat < 32 ∧ 2 ≤ (2#8).toNat ∧ (63#8).toNat < 64 ∧ 5 ≤ (5#8).toNat ∧ (7#8).toNat < 8 ∧ 27 ≤ (27#8).toNat)
    ∧ ((70#8).toNat < 80 ∧ (70#8).toNat % 10 = 0 ∧ (8#8).toNat < 9 ∧ (47#8).toNat < 48 ∧ (1#8).toNat < 2)
    ∧ ((79#8).toNat < 80 ∧ (79#8).toNat % 10 ≠ 0 ∧ 2 ≤ (2#8).toNat ∧ (2#8).toNat < 9) :=
  ⟨fun t => ⟨addressed rfl rfl, fun h => h (t, 3) rfl rfl⟩, by decide⟩


theorem witness_WriteSegment :
    Addressed ⟨5, 9⟩ slot0 ∧ Unstored .segment slot0
    ∧ (let s : State := { slot0 with store := ⟨some (.segment, 0), 0⟩ }
       Addressed ⟨5, 9⟩ s ∧ ¬ Unstored .segment s)
    ∧ ((4095#16).toNat ≤ 4095 ∧ 4095 < (4096#16).toNat ∧ (120#16).toNat ∈ [10, 30, 60, 120]
      ∧ (11#16).toNat ∉ [10, 30, 60, 120] ∧ (1#16).toNat ≤ 1 ∧ 7 ≤ (7#8).toNat) :=
  ⟨addressed rfl rfl, unstored_idle rfl, ⟨addressed rfl rfl, fun h => h (.segment, 0) rfl rfl⟩, by decide⟩

/-- The slot map of `slot7`, with a request in slot 0. -/
def mapped : State := { slot7 with trunk := slot0.trunk }

theorem witness_WriteSlotmap :
    Addressed ⟨5, 9⟩ mapped ∧ Unstored .slotmap mapped
    ∧ (let s : State := { mapped with store := ⟨some (.slotmap, 7), 0⟩ }
       Addressed ⟨5, 9⟩ s ∧ ¬ Unstored .slotmap s)
    ∧ ((∃ j : Fin 8, j ≠ 0 ∧ ∃ y, mapped.work.slotmap[j].value = some y ∧ y.slot = 8)
      ∧ ¬ (∃ j : Fin 8, j ≠ 0 ∧ ∃ y ∈ mapped.work.slotmap[j].value, y.slot = 63)
      ∧ mapped.work.slotmap[7].value = none ∧ mapped.work.slotmap[0].value = some ⟨7, .command⟩) :=
  ⟨addressed rfl rfl, unstored_idle rfl, ⟨addressed rfl rfl, fun h => h (.slotmap, 7) rfl rfl⟩,
    ⟨⟨1, by decide, ⟨8, .status⟩, by decide +kernel, rfl⟩, by decide +kernel, by decide +kernel, by decide +kernel⟩⟩

theorem witness_WriteGroupmap :
    Addressed ⟨5, 9⟩ mapped ∧ Unstored .groupmap mapped
    ∧ ((∃ j : Fin 32, j ≠ 31 ∧ ∃ y, mapped.work.groupmap[j].used = some y ∧ y.site = 12)
      ∧ ¬ (∃ j : Fin 32, j ≠ 31 ∧ ∃ y ∈ mapped.work.groupmap[j].used, y.site = 254)
      ∧ mapped.work.groupmap[0].used.isSome = true ∧ mapped.work.groupmap[31].used = none
      ∧ 16 ≤ (16#16).toNat ∧ (15#16).toNat < 16 ∧ 32 ≤ (32#8).toNat ∧ 255 < (256#16).toNat) :=
  ⟨addressed rfl rfl, unstored_idle rfl,
    ⟨⟨0, by decide, ⟨12, 3⟩, by decide +kernel, rfl⟩, by decide +kernel, by decide +kernel, by decide +kernel, by decide,
      by decide, by decide, by decide⟩⟩

theorem witness_WriteDoor :
    Addressed ⟨5, 9⟩ (door3 .strike .secured slot0) ∧ Unstored .door (door3 .strike .secured slot0)
    ∧ ((door3 .strike .secured slot0).seg.door 3).eng.inService = true
    ∧ ((withEng 63 (fun x => { x with inService := false }) slot0).seg.door 63).eng.inService = false
    ∧ (slot0.seg.door 63).eng.state = .absent
    ∧ ((door3 .strike .secured slot0).seg.door 3).eng.state.settled = true
    ∧ ((door3 .strike .driving slot0).seg.door 3).eng.state.settled = false :=
  ⟨addressed rfl rfl, unstored_idle rfl, by decide +kernel, by decide +kernel, by decide +kernel, by decide +kernel,
    by decide +kernel⟩

/-- Fitted YES to a door that is not fitted, NO to one that is, each OUT_OF_SERVICE by its mark, and NO to one that is not. -/
theorem witness_WriteDoor_fitted :
    let s := withEng 3 (fun x => { x with inService := false }) (door3 .strike .outOfService slot0)
    Addressed ⟨5, 9⟩ s ∧ Unstored .door s
    ∧ ((s.seg.door 3).eng.inService = false ∧ (s.seg.door 3).eng.state = .outOfService ∧ s.env.fitted 3 = true
      ∧ (let t := withDoorEntry 3 DoorEntry.default s
         t.env.fitted 3 = false ∧ (t.seg.door 3).eng.inService = false ∧ (t.seg.door 3).eng.state = .outOfService)
      ∧ (∀ e ∈ s.seg.queue, e.door ≠ 3) ∧ s.seg.learning = false) :=
  ⟨addressed rfl rfl, unstored_idle rfl, by decide +kernel⟩

/-- Door 3 out of service, with its mark. -/
def out3 (s : State) : State := withEng 3 (fun x => { x with inService := false }) (door3 .strike .outOfService s)

/-- The words that stand for an accepted WRITE: to a door out of service, to its profile field, to a settled door's rank. -/
theorem witness_WriteDoor_accepted :
    Addressed ⟨5, 9⟩ (out3 slot0) ∧ Addressed ⟨5, 9⟩ (door3 .strike .secured slot0)
    ∧ (let x := (out3 slot0).work.door[3].value
       (writeDoorField x 0 0).toOption.isSome = true ∧ (writeDoorField x 1 7).toOption.isSome = true
       ∧ (writeDoorField x 3 256).toOption.isSome = true ∧ ((out3 slot0).seg.door 3).eng.inService = false
       ∧ ((out3 slot0).seg.door 3).eng.state = .outOfService
       ∧ ((door3 .strike .secured slot0).seg.door 3).eng.state.settled = true) :=
  ⟨addressed rfl rfl, addressed rfl rfl, by decide +kernel⟩

/-- Entries of a door that keep its fitting, with the profile and without it; that begin it, with another profile too; that end it for a
door with a state, and for one in ABSENT. -/
theorem witness_WriteDoor_changed :
    let s := door3 .strike .secured slot0
    let other : State := withDoorEntry 3 ⟨true, 7, 0xFFFF#16, 128, .secured⟩ s
    let gone : State := withDoorEntry 3 DoorEntry.default s
    (s.env.fitted 3 = true ∧ other.env.fitted 3 = true ∧ (s.env.doorEntry 3).profile ≠ (other.env.doorEntry 3).profile)
    ∧ (gone.env.fitted 3 = false ∧ (s.env.doorEntry 3).profile = (gone.env.doorEntry 3).profile ∧ s.seg.learning = false)
    ∧ (slot0.env.fitted 3 = false ∧ (slot0.env.doorEntry 3).profile ≠ (other.env.doorEntry 3).profile
      ∧ (slot0.env.doorEntry 3).profile = (s.env.doorEntry 3).profile)
    ∧ (s.seg.door 3).eng.state ≠ .absent ∧ (slot0.seg.door 3).eng.state = .absent := by decide +kernel

theorem witness_WriteProfile :
    Addressed ⟨5, 9⟩ slot0 ∧ Unstored .profile slot0
    ∧ (∃ d, (door3 .motor .warning slot0).work.door[d].value.profile = 0
      ∧ ((door3 .motor .warning slot0).seg.door d).eng.state ∈
        [DoorState.warning, .awaitGrant, .driving, .verifying, .cooling, .exitShunt])
    ∧ (∃ d, (door3 .motor .secured slot0).work.door[d].value.profile = 0
      ∧ ((door3 .motor .secured slot0).seg.door d).eng.state ≠ .absent
      ∧ ((door3 .motor .secured slot0).seg.door d).eng.state ≠ .outOfService)
    ∧ (∀ d, (slot0.seg.door d).eng.state = .absent)
    ∧ (door3 .motor .secured slot0).work.profile[0].value.lockKind = .motor
    ∧ slot0.work.profile[0].value.lockKind ≠ .motor
    ∧ (1 ≤ (1#8).toNat ∧ (6#8).toNat ≤ 6 ∧ 9 ≤ (9#16).toNat) :=
  ⟨addressed rfl rfl, unstored_idle rfl, ⟨3, by decide +kernel⟩, ⟨3, by decide +kernel⟩, by decide +kernel, by decide +kernel,
    by decide +kernel, by decide⟩

/-- An accepted WRITE to a profile no door uses, and one to a threshold of a profile in service. -/
theorem witness_WriteProfile_accepted :
    Addressed ⟨5, 9⟩ slot0 ∧ Addressed ⟨5, 9⟩ (door3 .motor .secured slot0)
    ∧ (let x := (door3 .motor .secured slot0).work.profile[0].value
       (writeProfileField x 1 8).toOption.isSome = true ∧ (writeProfileField x 18 0).toOption.isSome = true
       ∧ ¬ (writeProfileField x 27 0).toOption.isSome = true)
    ∧ (∀ d, (slot0.seg.door d).eng.state = .absent)
    ∧ (∀ d, ((door3 .motor .secured slot0).seg.door d).eng.state ∉
        [DoorState.warning, .awaitGrant, .driving, .verifying, .cooling, .exitShunt]) :=
  ⟨addressed rfl rfl, addressed rfl rfl, by decide +kernel⟩

/-- The latch is set. -/
def latched (g : Segment) : Segment := { g with fire := { g.fire with latch := true, cause := some .header } }

/-- A watch with threshold 32 on door 3 in QUIET_WAIT, closed or open. -/
def watched (isOpen : Bool) (warning : Nat) : State :=
  withDoor 3 (fun x => { x with
    eng := { x.eng with params := { x.eng.params with warning := warning } }
    mon := { x.mon with watch := some ⟨32, false⟩, sinceClose := some 65535 } })
    (sensing (some isOpen) (some false) 0 (door3 .magnetic .quietWait slot0))

/-- The profile 0 of door 3 bears its mark. -/
def marked0 (s : State) : State :=
  { s with work := { s.work with profile := s.work.profile.set 0 ⟨s.work.profile[0].value, true⟩ } }

/-- A door that a mark takes out of service, doors that its clearing returns, and ones that stay; a watch that a change leaves quiet, one
it does not, and a door without one. -/
theorem witness_WriteProfile_doors :
    (let s := marked0 (door3 .strike .secured slot0)
     s.env.fitted 3 = true ∧ s.work.profile[(s.env.doorEntry 3).profile].defective = true ∧ (s.seg.door 3).eng.state = .secured
     ∧ s.env.fitted 4 = false)
    ∧ (let s := door3 .strike .outOfService slot0
       s.env.fitted 3 = true ∧ s.work.profile[(s.env.doorEntry 3).profile].defective = false
       ∧ (s.seg.door 3).eng.state = .outOfService ∧ (s.seg.door 3).eng.inService = true ∧ s.seg.fire.latch = false
       ∧ (withSeg latched s).seg.fire.latch = true ∧ expectedPosture s.env s.seg.exemptions 3 = some .secured
       ∧ expectedPosture { s.env with clock := { s.clock with second := none } } [] 3 = none)
    ∧ (∀ o, ((watched o 0).seg.door 3).mon.watch = some ⟨32, false⟩
      ∧ ((watched o 0).seg.door 3).quiet ((watched o 0).env.profile 3) ⟨32, false⟩ = !o)
    ∧ (slot0.seg.door 3).mon.watch = none
    ∧ ((door3 .strike .secured slot0).seg.door 3).lockLevel false (profileOf .strike) = false
    ∧ ((withEng 3 (fun x => { x with drive := true }) (door3 .strike .released slot0)).seg.door 3).lockLevel false
        (profileOf .strike) = true := by decide +kernel

theorem witness_FunctionClaim :
    let s := withProfile 7 example3 slot0
    Addressed ⟨5, 9⟩ s ∧ Unstored .profile s
    ∧ ((6#8).toNat = (5 : Fin 6).val + 1 ∧ TermFn.position.code = (0#16).toNat
      ∧ (∀ d, s.work.door[d].value.profile = 7 → (s.seg.door d).eng.state = .absent ∨ (s.seg.door d).eng.state = .outOfService)
      ∧ (∀ i j : Fin 6, s.work.profile[7].value.functions[i] = s.work.profile[7].value.functions[j] →
          s.work.profile[7].value.functions[i] ≠ .generalIn → s.work.profile[7].value.functions[i] ≠ .none → i = j)
      ∧ s.work.profile[7].value.functions[(0 : Fin 6)] = .position) :=
  ⟨addressed rfl rfl, unstored_idle rfl, by decide +kernel⟩

/-- A run of program 7 with one step, which delays. -/
def delaying (remaining : Nat) : StepRecord :=
  { state := .delaying, baseReached := true, remaining := remaining, sub := 0, due := false, startMinute := none
    doneMinute := none, members := [] }

def withRun (steps : List StepRecord) (q : List (Fin 8)) (s : State) : State :=
  withSeg (fun g => { g with seqr := { g.seqr with run := some ⟨7, 600, steps⟩, queue := q } }) s

theorem witness_WriteProgram :
    Addressed ⟨5, 9⟩ (withRun [delaying 1] [1] slot0) ∧ Unstored .program (withRun [delaying 1] [1] slot0)
    ∧ (80 ≤ (80#8).toNat ∧ (79 : Fin 80).val = (79#8).toNat
      ∧ (∃ r, (withRun [delaying 1] [1] slot0).seg.seqr.run = some r ∧ r.program.val = 79 / 10)
      ∧ (∃ p ∈ (withRun [delaying 1] [1] slot0).seg.seqr.queue, p.val = 10 / 10)
      ∧ slot0.seg.seqr.run = none ∧ slot0.seg.seqr.queue = [] ∧ 79 % 10 ≠ 0 ∧ 70 % 10 = 0) :=
  ⟨addressed rfl rfl, unstored_idle rfl, by decide, by decide, ⟨_, rfl, by decide⟩, ⟨1, by decide +kernel, by decide⟩,
    rfl, rfl, by decide, by decide⟩

theorem witness_WriteDayplan :
    Addressed ⟨5, 9⟩ slot0 ∧ Unstored .dayplan slot0
    ∧ (48 ≤ (48#8).toNat ∧ (47 : Fin 48).val = (47#8).toNat ∧ (65535#16).toNat = 65535 ∧ (1439#16).toNat ≤ 1439
      ∧ 1439 < (65534#16).toNat ∧ (65534#16).toNat < 65535 ∧ (7 : Fin 8).val = (7#16).toNat ∧ 8 ≤ (8#16).toNat) :=
  ⟨addressed rfl rfl, unstored_idle rfl, by decide⟩

theorem witness_WritePassageCounter :
    Addressed ⟨5, 9⟩ slot0 ∧ ((63 : DoorNo).val = (63#8).toNat ∧ (69#8).toNat = passageLowField
      ∧ (70#8).toNat = passageHighField ∧ (255#16).toNat ≤ 255 ∧ 255 < (256#16).toNat)
    ∧ (64 ≤ (64#8).toNat ∧ (63#8).toNat < 64 ∧ 85 ≤ (85#8).toNat ∧ (84#8).toNat < 85
      ∧ (84#8).toNat ≠ passageLowField ∧ (84#8).toNat ≠ passageHighField) :=
  ⟨addressed rfl rfl, by decide⟩

theorem witness_DoorService :
    Addressed ⟨5, 9⟩ (out3 slot0) ∧ Addressed ⟨5, 9⟩ (door3 .strike .driving slot0)
    ∧ (64 ≤ (64#8).toNat ∧ (3 : DoorNo).val = (3#8).toNat
      ∧ (slot0.seg.door 63).eng.inService = true ∧ (slot0.seg.door 63).eng.state = .absent
      ∧ ((door3 .strike .driving slot0).seg.door 3).eng.inService = true
      ∧ ((door3 .strike .driving slot0).seg.door 3).eng.state ≠ .absent
      ∧ ((out3 slot0).seg.door 3).eng.inService = false ∧ ((out3 slot0).seg.door 3).eng.state = .outOfService
      ∧ (out3 slot0).env.fitted 3 = true ∧ (out3 slot0).env.profileDefective 3 = false
      ∧ (out3 slot0).seg.fire.latch = false
      ∧ expectedPosture (out3 slot0).env (out3 slot0).seg.exemptions 3 = some .secured) :=
  ⟨addressed rfl rfl, addressed rfl rfl, by decide +kernel⟩

theorem witness_DoorService_fire_and_unknown_time :
    (let s := withSeg (fun g => { g with fire := { g.fire with latch := true } }) (out3 slot0)
     Addressed ⟨5, 9⟩ s ∧ s.seg.fire.latch = true ∧ (s.seg.door 3).eng.state = .outOfService)
    ∧ (let s : State := { out3 slot0 with clock := { slot0.clock with second := none } }
       Addressed ⟨5, 9⟩ s ∧ s.seg.fire.latch = false ∧ s.clock.second = none) :=
  ⟨⟨addressed rfl rfl, rfl, by decide +kernel⟩, addressed rfl rfl, rfl, rfl⟩

theorem witness_ClearRequests :
    let s := sensing (some false) (some false) 0 (door3 .strike .faulted slot0)
    Addressed ⟨5, 9⟩ s
    ∧ (64 ≤ (64#8).toNat ∧ 65 ≤ (65#8).toNat ∧ (64#8).toNat ≤ 64 ∧ 13 ≤ (13#16).toNat ∧ Kind.clockStep.code = (12#16).toNat
      ∧ (slot0.seg.door 3).eng.state ≠ .faulted ∧ (s.seg.door 3).eng.state = .faulted
      ∧ s.seg.queue = [] ∧ (s.seg.door 3).eng.target = some .secured
      ∧ (s.seg.door 3).sensedOutside (s.env.profile 3) = some .secured
      ∧ ((withEng 3 (fun x => { x with target := none }) s).seg.door 3).eng.target = none) :=
  ⟨addressed rfl rfl, by decide +kernel⟩

/-- A FAULTED door whose sensed posture does not show its target, of either posture. -/
theorem witness_ClearRequests_faulted :
    let s (q : Posture) := withEng 3 (fun x => { x with target := some q }) (sensing none none 0 (door3 .strike .faulted slot0))
    ∀ q : Posture, Addressed ⟨5, 9⟩ (s q) ∧ ((s q).seg.door 3).eng.state = .faulted ∧ ((s q).seg.door 3).eng.target = some q
      ∧ ((s q).seg.door 3).sensedOutside ((s q).env.profile 3) ≠ some q :=
  fun q => ⟨addressed rfl rfl, by cases q <;> decide +kernel⟩

theorem witness_StoreWritesEntries :
    Addressed ⟨5, 9⟩ slot0 ∧ Addressed ⟨5, 9⟩ (storing 31 slot0)
    ∧ (7 ≤ (7#8).toNat ∧ TableName.dayplan.ix.val = (6#8).toNat ∧ slot0.store.writing = none
      ∧ (storing 30 slot0).store.writing = some (.groupmap, 30) ∧ 30 + 1 < TableName.groupmap.count
      ∧ (storing 31 slot0).store.writing = some (.groupmap, 31) ∧ TableName.groupmap.count ≤ 31 + 1)
    ∧ (TableName.door.count ≤ 63 + 1 ∧ TableName.profile.count ≤ 7 + 1) :=
  ⟨addressed rfl rfl, addressed rfl rfl, by decide +kernel, by decide⟩

theorem witness_RestoreReloads :
    Addressed ⟨5, 9⟩ slot0 ∧ Addressed ⟨5, 9⟩ (door3 .motor .driving slot0)
    ∧ (TableName.door.ix.val = (3#8).toNat ∧ (∃ d, ((door3 .motor .driving slot0).seg.door d).eng.state.settled = false)
      ∧ slot0.seg.seqr.run = none ∧ slot0.seg.seqr.queue = [] ∧ (∀ d, (slot0.seg.door d).eng.state.settled = true)
      ∧ (withRun [delaying 1] [] slot0).seg.seqr.run.isSome = true) :=
  ⟨addressed rfl rfl, addressed rfl rfl, by decide, ⟨3, by decide +kernel⟩, rfl, rfl, by decide +kernel, rfl⟩

/-- A SEGMENT that a RESTORE brings with another capacity and the other level of FIRE_IN, and one it leaves as it is; lock kinds that
differ under a door, with the drive it takes over and with the other. -/
theorem witness_RestoreReloads_effects :
    (let e : SegmentEntry := { slot0.work.segment.value with capacity := 0, fireActiveHigh := !slot0.work.segment.value.fireActiveHigh }
     slot0.work.segment.value.capacity ≠ e.capacity
     ∧ (slot0.fireInHigh == slot0.work.segment.value.fireActiveHigh) = slot0.seg.fire.reading
     ∧ (slot0.fireInHigh == e.fireActiveHigh) ≠ slot0.seg.fire.reading)
    ∧ TableName.segment.ix.val = (0#8).toNat ∧ TableName.profile.ix.val = (4#8).toNat
    ∧ (let s := door3 .strike .secured slot0
       let m := door3 .magnetic .secured slot0
       let n := door3 .motor .secured (withEng 3 (fun x => { x with drive := true }) slot0)
       (s.env.profile 3).lockKind ≠ (m.env.profile 3).lockKind ∧ (s.seg.door 3).eng.drive = false
       ∧ (m.env.profile 3).lockKind ≠ (n.env.profile 3).lockKind ∧ (n.seg.door 3).eng.drive = true
       ∧ (s.env.profile 3).functions = (m.env.profile 3).functions
       ∧ (s.env.profile 3).functions ≠ (withProfile 0 example3 s |>.env.profile 3).functions) := by decide +kernel

/-- Stored tables with slot 7 and site group 12 held twice, an uncorrectable entry and a corrected one. -/
def twice : StoredTables :=
  { State.reset.stored with
    slotmap := (State.reset.stored.slotmap.set 0 (.readable (some ⟨7, .command⟩))).set 7 (.readable (some ⟨7, .status⟩))
    groupmap := ((State.reset.stored.groupmap.set 0 (.readable (some ⟨12, 3⟩))).set 31 (.correctable (some ⟨12, 4⟩))).set 1
      .uncorrectable }

theorem witness_RestoreReloads_load :
    ((loadTables twice).slotmap[0].value = some ⟨7, .command⟩ ∧ twice.slotmap[7] = .readable (some ⟨7, .status⟩))
    ∧ twice.groupmap[1] = .uncorrectable ∧ (loadTables twice).groupmap[1].defective = true
    ∧ (loadTables twice).groupmap[31].defective = true ∧ (loadTables twice).groupmap[0].used = some ⟨12, 3⟩
    ∧ (loadTables twice).corrected[2] = true ∧ (loadTables twice).corrected[1] = false := by decide +kernel

theorem witness_CommandSlotAnswer :
    Awaits .command slot7
    ∧ ((Instr.abortRun ⟨254, 0, 0⟩).asCommand = some (.abortRun, ⟨254, 0, 0⟩) ∧ (254#8) ≠ 255
      ∧ (∀ y ∈ usedEntries slot7.work.groupmap, y.site ≠ (254#8).toNat) ∧ 1 ≤ 24 ∧ 24 ≤ 24)
    ∧ (slot7.work.groupmap[0] = ⟨some ⟨12, 3⟩, false⟩
      ∧ (∀ j : Fin 32, slot7.work.groupmap[j].value.isSome = true → j = 0))
    ∧ (Instr.secureGroup (toGroup 0)).asCommand = some (.secureGroup, toGroup 0)
    ∧ Commanded (toGroup 0) (.localGroup 3) slot7 :=
  ⟨awaits_command, by decide +kernel, by decide +kernel, rfl, commanded_group⟩

theorem witness_GroupTargets :
    (Commanded (toAll 0) .segment (withSeg latched slot7) ∧ (withSeg latched slot7).seg.fire.latch = true)
    ∧ (Commanded (toGroup 0) (.localGroup 3) slot7 ∧ slot7.seg.fire.latch = false ∧ slot7.clock.second ≠ none) :=
  ⟨⟨commanded_withSeg commanded_all, rfl⟩, commanded_group, rfl, by decide +kernel⟩

/-- Group 3 keeps SECURED until 10:01. -/
def exempted (g : Segment) : Segment := { g with exemptions := [⟨3, .secured, 601, 0⟩] }

theorem witness_ExemptionCommands :
    Commanded (toAll 0) .segment slot7
    ∧ (Commanded (toGroup 0x801) (.localGroup 3) slot7 ∧ slot7.clock.second ≠ none
      ∧ (0x801#12).toNat % 2048 ≤ 1439 ∧ (0x801#12).getLsbD 11 = true ∧ slot7.seg.exemptions.length < 16)
    ∧ (Commanded (toGroup 600) (.localGroup 3) slot7 ∧ (600#12).getLsbD 11 = false
      ∧ ¬ slot7.clock.minute < (600#12).toNat % 2048)
    ∧ (Commanded (toGroup 0) (.localGroup 3) (withSeg exempted slot7)
      ∧ (withSeg exempted slot7).seg.exemptions.find? (fun y => y.group == 3) = some ⟨3, .secured, 601, 0⟩)
    ∧ ¬ (∃ y ∈ slot7.seg.exemptions, y.group = 3) :=
  ⟨commanded_all, ⟨commanded_group, by decide +kernel⟩, ⟨commanded_group, by decide +kernel⟩,
    ⟨commanded_withSeg commanded_group, by decide +kernel⟩, by decide +kernel⟩

/-- Program 7 has one step, for group 3. -/
def programmed : State :=
  { slot7 with work := { slot7.work with
      program := slot7.work.program.set 70 ⟨{ ProgramEntry.default with stepCount := 1, localGroup := 3 }, false⟩ } }

theorem commanded_programmed {c : CommandSlot} {sc : Scope} {f : Segment → Segment} (h : Commanded c sc slot7) :
    Commanded c sc (withSeg f programmed) :=
  ⟨⟨⟨rfl, rfl, rfl, rfl⟩, h.awaits.listen, h.awaits.slot⟩, h.scope⟩

/-- A day-plan entry of program 7 at the last minute it may lie. -/
def planned (i : Fin 48) (minute : Nat) : State :=
  { programmed with work := { programmed.work with dayplan := programmed.work.dayplan.set i ⟨some ⟨minute, 7⟩, false⟩ } }

/-- Exemptions that cover a door and ones that do not; an entry of today up to the minute, one of yesterday, and none of either. -/
theorem witness_GroupTargets_expected :
    (let x : DoorEntry := ⟨true, 0, 0x8008#16, 128, .secured⟩
     let a : Exemption := ⟨3, .secured, 601, 0⟩
     let b : Exemption := ⟨15, .released, 601, 0⟩
     (∃ m ∈ [b, a], m.keep = .secured ∧ x.groups.getLsbD m.group.val = true)
     ∧ ¬ (∃ m ∈ [b], m.keep = .secured ∧ x.groups.getLsbD m.group.val = true)
     ∧ (∃ m ∈ [b], m.keep = .released ∧ x.groups.getLsbD m.group.val = true)
     ∧ effectiveExemption [({ b with group := 4 } : Exemption)] x = none)
    ∧ (let e := (door3 .strike .secured (planned 6 600)).env
       e.clock.second = some 36000 ∧ e.clock.today = 1 ∧ e.planEntry 1 0 = some ⟨600, 7⟩ ∧ 600 ≤ 36000 / 60 ∧ 0 < e.stepCount 7
       ∧ (∀ i : Fin 80, i.val / 10 = 7 → e.work.program[i].defective = false)
       ∧ (e.doorEntry 3).groups.getLsbD (e.stepEntry 7 1).localGroup.val = true)
    ∧ (let e := (door3 .strike .secured (planned 0 1439)).env
       e.clock.yesterday = 0 ∧ e.planEntry 0 0 = some ⟨1439, 7⟩ ∧ (∀ i : Fin 6, e.planEntry 1 i.val = none))
    ∧ (∀ i : Fin 6, slot7.env.planEntry 1 i.val = none ∧ slot7.env.planEntry 0 i.val = none)
    ∧ (slot7.clock.second.isSome = true ∧ State.reset.clock.second = none) := by decide +kernel

theorem witness_StartRequest :
    (Commanded (toGroup 7) (.localGroup 3) slot7 ∧ Scope.localGroup 3 ≠ .segment) ∧ 8 ≤ (toAll 8).argument.toNat
    ∧ (Commanded (toAll 7) .segment (withSeg id programmed) ∧ (7 : Fin 8).val = (toAll 7).argument.toNat
      ∧ programmed.env.programDefective 7 = false ∧ programmed.env.stepCount 7 = 1 ∧ programmed.seg.seqr.run = none)
    ∧ (Commanded (toAll 7) .segment slot7 ∧ slot7.env.stepCount 7 = 0)
    ∧ (let f (g : Segment) : Segment := { g with seqr := { g.seqr with run := some ⟨1, 600, []⟩, queue := [2, 3, 4] } }
       Commanded (toAll 7) .segment (withSeg f programmed) ∧ (withSeg f programmed).seg.seqr.run.isSome = true
       ∧ (withSeg f programmed).seg.seqr.queue.length < 4) :=
  ⟨⟨commanded_group, by decide⟩, by decide, ⟨commanded_programmed commanded_all, by decide +kernel⟩,
    ⟨commanded_all, by decide +kernel⟩, commanded_programmed commanded_all, by decide +kernel⟩

theorem witness_AbortEndsRun :
    (Commanded (toGroup 0) (.localGroup 3) slot7 ∧ Scope.localGroup 3 ≠ .segment)
    ∧ (Commanded (toAll 0) .segment slot7 ∧ slot7.seg.seqr.run = none)
    ∧ (Commanded (toAll 0) .segment (withRun [delaying 1] [1] slot7)
      ∧ (withRun [delaying 1] [1] slot7).seg.seqr.run = some ⟨7, 600, [delaying 1]⟩
      ∧ (slot7.seg.door 3).eng.owes = none ∧ slot7.seg.queue = []) :=
  ⟨⟨commanded_group, by decide⟩, ⟨commanded_all, rfl⟩, commanded_withSeg commanded_all, rfl, by decide +kernel, rfl⟩

/-- A door that owes and waits, and one that owes while its pending target carries an outcome. -/
theorem witness_AbortEndsRun_doors :
    let s := withEng 3 (fun x => { x with owed := some 1 }) (door3 .strike .warning slot0)
    let t := withEng 3 (fun x => { x with pendingTarget := some ⟨.released, x.params, some 1⟩ }) (door3 .motor .driving slot0)
    (s.seg.door 3).eng.owes.isSome = true ∧ (s.seg.door 3).eng.state = .warning
    ∧ (t.seg.door 3).eng.owes.isSome = true ∧ (t.seg.door 3).eng.pendingTarget.bind (fun q => q.owed) = some 1 := by
  decide +kernel

theorem witness_FireRestoreClearsLatch :
    (let f (g : Segment) : Segment := { g with fire := { g.fire with reading := true } }
     Commanded (toAll 0) .segment (withSeg f slot7) ∧ (withSeg f slot7).seg.fire.reading = true)
    ∧ (Commanded (toAll 0) .segment slot7 ∧ slot7.seg.fire.reading = false ∧ slot7.seg.fire.lastEmergency = false
      ∧ slot7.seg.fire.latch = false)
    ∧ (Commanded (toAll 0) .segment (withSeg latched slot7) ∧ (withSeg latched slot7).seg.fire.latch = true
      ∧ (withSeg latched slot7).seg.queue = []) :=
  ⟨⟨commanded_withSeg commanded_all, rfl⟩, ⟨commanded_all, rfl, rfl, rfl⟩, commanded_withSeg commanded_all, rfl, rfl⟩

/-- Door 3 stands in EGRESS under the latch, with the clock known and unknown; it reads its expected posture. -/
def released7 (second : Option Nat) : State :=
  withSeg latched (sensing (some false) (some false) 0 (door3 .strike .egress
    { slot7 with clock := { slot7.clock with second := second } }))

theorem witness_FireRestoreClearsLatch_egress :
    (∀ t, Commanded (toAll 0) .segment (released7 t))
    ∧ ((released7 none).clock.second = none ∧ (released7 none).seg.queue = [] ∧ (released7 none).seg.fire.latch = true
      ∧ ((released7 none).seg.door 3).eng.state = .egress)
    ∧ (((released7 (some 0)).seg.door 3).eng.state = .egress ∧ (∀ q ∈ (released7 (some 0)).seg.queue, q.door ≠ 3)
      ∧ expectedPosture (released7 (some 0)).env (released7 (some 0)).seg.exemptions 3 = some .secured
      ∧ ((released7 (some 0)).seg.door 3).sensedOutside ((released7 (some 0)).env.profile 3) = some .secured) :=
  have h : Awaits .command slot7 := awaits_command
  ⟨fun _ => ⟨⟨⟨rfl, rfl, rfl, rfl⟩, h.listen, h.slot⟩, rfl⟩, by decide +kernel, by decide +kernel⟩

/-- The clock of `slot0` at another second. -/
def clockAt (t : Option Nat) : State := { slot0 with clock := { slot0.clock with second := t } }

theorem witness_ClockTickAdvances :
    ({ slot0 with power := .resetHeld } : State).power = .resetHeld ∧ (clockAt none).clock.second = none
    ∧ (clockAt (some 86399)).clock.second = some 86399 ∧ 86399 < 86400 ∧ slot0.power ≠ .resetHeld
    ∧ (clockAt (some 59)).clock.justSet = false
    ∧ ({ slot0 with clock := { slot0.clock with justSet := true } } : State).clock.justSet = true
    -- a mark that stands over a minute boundary other than midnight
    ∧ ({ slot0.clock with second := some 59, fired := slot0.clock.fired.set 47 true } : Clock).fired[47] = true ∧ 59 ≠ 86399
    ∧ (86398 + 1) % 60 ≠ 0 ∧ (59 + 1) % 60 = 0 := by decide +kernel

/-- The last day-plan entry of day type 1 names program 7 at minute 1,439, which comes next. -/
def dueAt (s : State) : State :=
  { s with
    clock := { s.clock with second := some 86339 }
    work := { s.work with dayplan := s.work.dayplan.set 11 ⟨some ⟨1439, 7⟩, false⟩ } }

/-- The program of the entry that comes due is dropped where it is DISABLED, and started where it has a step. -/
theorem witness_ClockTickAdvances_due :
    ((dueAt slot0).clock.second = some 86339 ∧ (86339 + 1) % 60 = 0 ∧ (dueAt slot0).seg.seqr.run = none
      ∧ (dueAt slot0).seg.seqr.queue = [] ∧ (dueAt slot0).seg.exemptions = [])
    ∧ duePrograms 1439 (dueAt slot0) = [7] ∧ duePrograms 1439 (dueAt programmed) = [7]
    ∧ dropReason (dueAt slot0).env 7 (dueAt slot0).seg = some .disabled
    ∧ dropReason (dueAt programmed).env 7 (dueAt programmed).seg = none := by decide +kernel

/-- Exemptions that lapse at a minute and at a rollover, and a boundary with nothing due, at midnight too. -/
theorem witness_ClockTickAdvances_expiry :
    (let a : Exemption := ⟨3, .secured, 601, 0⟩
     a.dayCount = 0 ∧ a.expiry ≤ 601 ∧ ¬ a.expiry ≤ 600 ∧ ({ a with dayCount := 1 } : Exemption).dayCount ≠ 0)
    ∧ (slot0.power ≠ .resetHeld ∧ slot0.seg.seqr.run = none ∧ (clockAt (some 59)).clock.second = some 59
      ∧ 59 < 86399 ∧ (59 + 1) % 60 = 0 ∧ duePrograms ((59 + 1) / 60) (clockAt (some 59)) = []
      ∧ (∀ i : Fin 6, (clockAt (some 86399)).env.planEntry (clockAt (some 86399)).clock.tomorrow i.val = none)) := by
  decide +kernel

/-- The clock at 23:59:58, awaiting a header. -/
def beforeMidnight (t : Nat) : State := withPhase .awaitHeader (clockAt (some t))

theorem witness_TrackingHeaderSetsClock :
    (Instr.headerRecord lastSecond).asRecord = some lastSecond ∧ headerIsValid lastSecond = true
    ∧ (beforeMidnight 86398).trunk.inserted = true ∧ (beforeMidnight 86398).trunk.phase = .awaitHeader
    ∧ (beforeMidnight 86398).trunk.state = .tracking ∧ (clockAt none).clock.second = none
    ∧ (headerOf lastSecond).second = 86399
    -- lagging, agreeing, forward in window at its limit, and steps
    ∧ clockDifference 86399 0 = -1 ∧ clockDifference 86399 86399 = 0 ∧ clockDifference 86399 86099 = 300
    ∧ clockDifference 86399 86098 = 301 ∧ clockDifference 86399 1 = -2
    -- a forward step at its day type, and a clock step by an EMERGENCY_RELEASE of no header
    ∧ lastSecond.b4.toNat = 6 ∧ ({ clockAt (some 86099) with
        clock := { (clockAt (some 86099)).clock with today := 6 } } : State).clock.today = 6
    ∧ siteOfCode 0 ≠ .emergencyRelease ∧ (clockAt (some 1)).seg.exemptions = [] ∧ (clockAt (some 1)).seg.seqr.run = none := by
  decide +kernel

/-- The first TRACKING header after learning, with doors in HOLDING; and learning that ends, with the clock known. -/
theorem witness_TrackingHeaderSetsClock_initial :
    (let s := withSeg (fun g => { g with initialDone := false }) (withPhase .awaitHeader (clockAt none))
     s.trunk.state = .tracking ∧ s.clock.second = none ∧ s.seg.initialDone = false ∧ s.seg.learning = false
     ∧ ((door3 .strike .holding s).seg.door 3).eng.state = .holding)
    ∧ (let s := withSeg (fun g => { g with learning := true, initialDone := false })
         (sensing none none 0 (door3 .strike .holding slot0))
       s.seg.learning = true ∧ s.env.loaded = true ∧ s.clock.second ≠ none
       ∧ (∀ d, s.env.fitted d = true → (s.seg.door d).drop.firstReply = true ∨ (s.seg.door d).drop.lost = true))
    ∧ State.reset.env.loaded = false := by decide +kernel

/-- FIRE_IN reads ACTIVE, for 199 ms. -/
def burning (s : State) : State := withSeg (fun g => { g with fire := { g.fire with reading := true, persistence := 199 } }) s

theorem witness_FireInput :
    (burning slot0).power = .running ∧ slot0.seg.fire.reading = false ∧ (burning slot0).seg.fire.reading = true
    ∧ (burning (withSeg latched slot0)).seg.fire.latch = true ∧ (burning slot0).seg.fire.latch = false
    ∧ ((door3 .motor .driving slot0).seg.door 3).eng.state ∉ [DoorState.absent, .outOfService, .lost]
    ∧ ((door3 .motor .lost slot0).seg.door 3).eng.state = .lost
    -- a MOTOR door in its run, its pulse not acknowledged
    ∧ (let s := after (.warningExpiry 3) (door3 .motor .warning slot0)
       (s.seg.door 3).charge.basis = .run ∧ (s.seg.door 3).eng.pulseAcked = false ∧ (s.env.profile 3).lockKind = .motor) := by
  decide +kernel

theorem witness_BranchSlotBegins :
    slot0.power = .running ∧ (slot0.seg.branch 0).visiting = none
    ∧ ((slot0.seg.branch 0).next.or (allDrops.find? (fun k => polled slot0.env (doorAt 0 k) slot0.seg))) = none
    ∧ (let s := door3 .motor .holding slot0
       (s.seg.branch 0).next.or (allDrops.find? (fun k => polled s.env (doorAt 0 k) s.seg)) = some 3)
    ∧ (let p := { profileOf .strike with functions := #v[.sounder, .indicator, .lockDrive, .none, .none, .none] }
       p.functions[(0 : Fin 6)] = .sounder ∧ p.functions[(1 : Fin 6)] = .indicator
       ∧ p.terminalOf .lockDrive = some 2 ∧ p.functions[(2 : Fin 6)] = .lockDrive)
    ∧ ¬(((door3 .strike .secured slot0).seg.door 3).eng.state = .holding) := by decide +kernel

/-- Drop 3 of branch 0 is being visited. -/
def visited (misses goods : Nat) (lost : Bool) : State :=
  withSeg (fun g => g.putBranch 0 { g.branch 0 with visiting := some 3 })
    (withDoor 3 (fun x => { x with drop := { x.drop with missCount := misses, goodCount := goods, lost := lost } })
      (door3 .motor .secured slot0))

def reply3 : BranchRecord := replyRecord ⟨3, 0, false, 0, 0, 0⟩

/-- A good reply of drop 3 in its slot. -/
theorem good_reply {r : BranchRecord} {s : State}
    (h : (s.power == .running && (s.seg.branch 0).visiting == some 3 && !(s.seg.branch 0).spoiled
      && !(s.seg.branch 0).lineFault && branchPasses r && (replyOf r).echo == BitVec.ofNat 4 3) = true) : GoodReply 0 3 r s := by
  simp only [Bool.and_eq_true, beq_iff_eq, Bool.not_eq_true'] at h
  obtain ⟨⟨⟨⟨⟨h1, h2⟩, h3⟩, h4⟩, h5⟩, h6⟩ := h
  exact ⟨h1, h2, h3, h4, h5, h6⟩

/-- A good reply of the PRESENT drop of door 3, heard before. -/
theorem heard {r : BranchRecord} {s : State} (h : GoodReply 0 3 r s)
    (hx : (s.env.fitted 3 && !(s.seg.door 3).drop.lost && (s.seg.door 3).drop.firstReply && (s.seg.door 3).drop.reference
      && (s.seg.door 3).drop.leaving == .no) = true) : Heard 0 3 r s := by
  simp only [Bool.and_eq_true, beq_iff_eq, Bool.not_eq_true'] at hx
  obtain ⟨⟨⟨⟨h1, h2⟩, h3⟩, h4⟩, h5⟩ := hx
  exact ⟨h, h1, h2, h3, h4, h5⟩

/-- The same with the queue empty. -/
theorem heard_again {r : BranchRecord} {s : State} (h : GoodReply 0 3 r s)
    (hx : (s.env.fitted 3 && !(s.seg.door 3).drop.lost && (s.seg.door 3).drop.firstReply && (s.seg.door 3).drop.reference
      && (s.seg.door 3).drop.leaving == .no && s.seg.queue.isEmpty) = true) : HeardAgain 0 3 r s := by
  rw [Bool.and_eq_true] at hx
  exact ⟨heard h hx.1, fun q hq => by rw [List.isEmpty_iff.mp hx.2] at hq; cases hq⟩

/-- POSITION on T1, LOCK_DRIVE on T2, EXIT_REQUEST on T3, TAMPER on T4; over-limit 60, hysteresis 2, under-limit 10. -/
def wired (k : LockKind) : ProfileEntry :=
  { profileOf k with functions := #v[.position, .lockDrive, .exitRequest, .tamper, .none, .none], overLimit := 60 }

/-- Drop 3 of branch 0 in its slot, door 3 of the given lock kind, state and target, closed with its lock on when last heard. -/
def hearing (k : LockKind) (st : DoorState) (f : Door → Door) : State :=
  withSeg (fun g => g.putBranch 0 { g.branch 0 with visiting := some 3, sentApply := true, sentLock := true })
    (withDoor 3 f (withDoor 3 (fun x => { x with inputs := { x.inputs with exitRequest := some false, tamper := some false } })
      (sensing (some false) (some true) 20 (withProfile 0 (wired k) (door3 k st slot0)))))

/-- The reply of drop 3 with the given levels and current. -/
def heardAs (inputs outputs : BitVec 6) (current : Nat) : BranchRecord := replyRecord ⟨3, 0, false, inputs, outputs, current⟩

/-- Door 3 LOST from a state, its drop at its seventh good reply. -/
def finding (st : DoorState) (p : Option Posture) : State :=
  hearing .strike .lost (fun x => { x with
    drop := { x.drop with lost := true, goodCount := 7 }
    eng := { x.eng with lostFrom := st, target := p, abandoned := st == .verifying && p == none } })

theorem witness_ReplyWindow_taken :
    (GoodReply 0 3 (heardAs 0 2 20) (hearing .strike .holding id)
      ∧ ((hearing .strike .holding id).seg.door 3).drop.leaving ≠ .lastVisit)
    ∧ (let s := withSeg (fun g => g.putBranch 0 { g.branch 0 with sentApply := false })
        (hearing .strike .holding (fun x => { x with drop := { x.drop with firstReply := false, reference := false } }))
       GoodReply 0 3 (heardAs 0 2 20) s ∧ (s.seg.door 3).drop.firstReply = false ∧ (s.seg.door 3).drop.held = none
       ∧ s.env.fitted 3 = true ∧ (s.seg.door 3).eng.state = .holding ∧ s.seg.learning = false
       ∧ (s.seg.branch 0).sentApply = false)
    ∧ (let x := (hearing .strike .holding id).seg.door 3
       x.inputs.tamper = some false ∧ (wired .strike).readAs .tamper (replyOf (heardAs 8 2 20)).inputs = some true
       ∧ x.drop.reference = true ∧ x.drop.lastLocalFault = false
       ∧ (replyOf (replyRecord ⟨3, 0, true, 0, 2, 20⟩)).localFault = true)
    ∧ ((hearing .strike .holding (fun x => { x with drop := { x.drop with leaving := .lastVisit } })).seg.door 3).drop.leaving
        = .lastVisit :=
  ⟨⟨good_reply (by decide +kernel), by decide +kernel⟩, ⟨good_reply (by decide +kernel), by decide +kernel⟩,
    by decide +kernel, by decide +kernel⟩

/-- The fourth miss in a state that LOST is taken from, with an owed outcome, and in one that it is not taken from; and a MOTOR door
that its first reply finds in DRIVING or grants. -/
theorem witness_ReplyWindow_lost :
    (∀ st ∈ [DoorState.absent, .outOfService, .egress, .lost, .driving, .holding, .quietWait],
      let s := withEng 3 (fun x => { x with state := st, owed := some 1 }) (visited 3 0 false)
      (s.seg.door 3).eng.state = st ∧ (s.seg.branch 0).visiting = some 3 ∧ (s.seg.door 3).drop.missCount = 3
      ∧ (s.seg.door 3).drop.lost = false ∧ s.seg.queue = [])
    ∧ (let x := (withDoor 3 (fun x => { x with drop := { x.drop with firstReply := true } }) (visited 3 0 false)).seg.door 3
       x.drop.firstReply = true ∧ x.drop.leaving ≠ .lastVisit)
    ∧ (let s := withDoor 3 (fun x => { x with eng := { x.eng with state := .driving } }) (visited 0 0 false)
       (s.seg.door 3).drop.firstReply = false ∧ (s.env.profile 3).lockKind = .motor ∧ QueueOk s.seg
       ∧ GoodReply 0 3 reply3 s) :=
  ⟨by decide +kernel, by decide +kernel, by decide +kernel, by decide +kernel,
    ⟨by decide +kernel, by decide +kernel⟩, good_reply (by decide +kernel)⟩

/-- A first reply during learning, with Apply CLEAR, and with Apply SET at a sound current. -/
theorem witness_ReplyWindow_first :
    (let s := withSeg (fun g => g.putBranch 0 { g.branch 0 with sentApply := false })
      (withSeg (fun g => { g with learning := true }) (hearing .strike .holding (fun x => { x with
        drop := { x.drop with firstReply := false, reference := false } })))
     GoodReply 0 3 (heardAs 0 2 20) s ∧ s.seg.learning = true ∧ (s.seg.branch 0).sentApply = false
     ∧ (s.seg.door 3).drop.firstReply = false ∧ (s.seg.door 3).drop.reference = false)
    ∧ (let s := hearing .strike .secured (fun x => { x with drop := { x.drop with firstReply := false, reference := false } })
       GoodReply 0 3 (heardAs 0 2 20) s ∧ (s.seg.branch 0).sentApply = true ∧ SoundCurrent (wired .strike) (heardAs 0 2 20)
       ∧ s.env.profile 3 = wired .strike ∧ (s.seg.door 3).drop.lost = false ∧ s.env.fitted 3 = true
       ∧ (s.seg.door 3).eng.state ∉ [DoorState.quietWait, .verifying] ∧ s.seg.queue = [] ∧ s.seg.learning = false) :=
  ⟨⟨good_reply (by decide +kernel), by decide +kernel⟩, good_reply (by decide +kernel), by decide +kernel,
    ⟨by decide +kernel, by decide +kernel⟩, by decide +kernel⟩

/-- The FOUND reply at a door whose drive is on, at a sound current, that does not show its target; and at one whose abandoned actuation
left a pending target. -/
theorem witness_ReplyWindow_found_elsewhere :
    let s := withEng 3 (fun x => { x with drive := true }) (finding .quietWait (some .secured))
    let t := withEng 3 (fun x => { x with abandoned := true, pendingTarget := some ⟨.secured, x.params, none⟩ })
      (finding .driving (some .released))
    let z (s : State) : Door :=
      let x := s.seg.door 3
      { x with inputs := namedInputs (wired .strike) (replyOf (heardAs 1 2 20)), drop := { x.drop with lost := false } }
    GoodReply 0 3 (heardAs 1 2 20) s ∧ GoodReply 0 3 (heardAs 1 2 20) t ∧ SoundCurrent (wired .strike) (heardAs 1 2 20)
    ∧ ((s.seg.door 3).eng.drive = true ∧ (s.seg.branch 0).sentLock = true ∧ s.env.profile 3 = wired .strike
      ∧ (s.seg.door 3).eng.lostFrom = .quietWait ∧ s.seg.fire.latch = false ∧ s.seg.queue = []
      ∧ (z s).sensedOutside (wired .strike) ≠ some .secured)
    ∧ ((t.seg.door 3).eng.lostFrom = .driving ∧ (t.seg.door 3).eng.abandoned = true
      ∧ ((t.seg.door 3).eng.pendingTarget.map (fun q => q.posture)).or (t.seg.door 3).eng.target = some .secured
      ∧ (z t).sensedOutside (wired .strike) ≠ some .secured) :=
  ⟨good_reply (by decide +kernel), good_reply (by decide +kernel), ⟨by decide +kernel, by decide +kernel⟩, by decide +kernel⟩

/-- The FOUND reply under the latch and without it, from each state R132 names; one of an abandoned actuation. -/
theorem witness_ReplyWindow_found :
    (∀ st p, GoodReply 0 3 (heardAs 0 0 0) (finding st p))
    ∧ (∀ st, ((finding st none).seg.door 3).eng.lostFrom = st ∧ ((finding st none).seg.door 3).drop.lost = true
      ∧ 7 ≤ ((finding st none).seg.door 3).drop.goodCount ∧ ((finding st none).seg.door 3).eng.state = .lost
      ∧ ((finding st none).seg.door 3).eng.drive = false ∧ (finding st none).seg.fire.latch = false
      ∧ ((finding st none).seg.door 3).drop.pulse = .none ∧ ((finding st none).seg.door 3).eng.pendingTarget = none)
    ∧ (withSeg latched (finding .secured none)).seg.fire.latch = true
    ∧ ((finding .verifying none).seg.door 3).eng.abandoned = true
    ∧ ((finding .verifying (some .secured)).seg.door 3).eng.abandoned = false
    ∧ (let z (p : Option Posture) : Door :=
        let x := (finding .verifying p).seg.door 3
        { x with inputs := namedInputs (wired .strike) (replyOf (heardAs 0 0 0)), drop := { x.drop with lost := false } }
       (z (some .secured)).sensedAs (some .secured) (wired .strike) = some .secured
       ∧ (z (some .released)).sensedAs (some .released) (wired .strike) ≠ some .released
       ∧ (z none).sensedOutside (wired .strike) = some .secured)
    ∧ ¬(((finding .faulted (some .released)).seg.door 3).eng.recordedWhileLost = true) :=
  ⟨fun st p => good_reply (by cases st <;> rcases p with _ | _ | _ <;> decide +kernel),
    by intro st; cases st <;> decide +kernel, by decide +kernel⟩

theorem witness_ReplyWindow :
    (slot0.seg.branch 0).visiting = none ∧ ((visited 3 0 false).seg.branch 0).visiting = some 3
    ∧ ((visited 3 0 false).seg.door (doorAt 0 3)).drop.leaving = .no
    ∧ (branchPasses reply3 = true ∧ (replyOf reply3).echo = BitVec.ofNat 4 3)
    ∧ ((visited 2 0 false).seg.door 3).drop.missCount < 3 ∧ ((visited 4 0 true).seg.door 3).drop.lost = true
    ∧ (((visited 3 0 false).seg.door 3).drop.missCount = 3 ∧ ((visited 3 0 false).seg.door 3).drop.lost = false)
    ∧ (((visited 0 6 true).seg.door 3).drop.goodCount < 7 ∧ ((visited 0 6 true).seg.door 3).drop.lost = true) := by
  decide +kernel

theorem witness_LineCondition :
    State.reset.power ≠ .resetHeld ∧ (slot0.seg.branch 3).lineFault = false
    ∧ ((withSeg (fun g => g.putBranch 3 { g.branch 3 with lineFault := true }) slot0).seg.branch 3).lineFault = true
    ∧ polled (door3 .motor .secured slot0).env (doorAt 0 3) (door3 .motor .secured slot0).seg = true
    ∧ branchOf 16 ≠ 0 ∧ branchOf 15 = 0 := by decide +kernel

/-- Door 3 in HOLDING with its drive request ON, a hold charge and the held levels given (T2 is LOCK_DRIVE). -/
def holdingOn (k : LockKind) (held : BitVec 6) : State :=
  withDoor 3 (fun x => { x with drop := { x.drop with held := some held }, charge := ⟨8, .hold, 0, 0⟩ })
    (withEng 3 (fun x => { x with drive := true }) (door3 k .holding slot0))

/-- R111 and R94 at a loss in HOLDING: a held level that is off is a drive-off, one that is on keeps the charge (log 82); a MOTOR door's
request goes OFF, and its hold charge stands (log 81). -/
theorem witness_LineCondition_holding :
    (∀ k ∈ [LockKind.magnetic, .strike, .motor], ((holdingOn k 0).seg.door 3).eng.state = .holding
      ∧ ((holdingOn k 0).seg.door 3).drop.held ≠ none ∧ (holdingOn k 0).seg.queue = [])
    ∧ (∀ x ∈ [(LockKind.strike, 0b000000#6, false, (⟨0, .none, 0, 0⟩ : Charge)), (.strike, 0b000010#6, true, ⟨8, .hold, 0, 0⟩),
        (.motor, 0b000010#6, false, ⟨8, .hold, 0, 0⟩)],
      let s := holdingOn x.1 x.2.1
      let y := (lostNotice s.env 3 s.seg).door 3
      y.eng.state = .lost ∧ y.eng.drive = x.2.2.1 ∧ y.charge = x.2.2.2) := by decide +kernel

/-- A polled drop that is PRESENT, one that is LOST, one that is not polled; doors whose notice keeps their state and one that loses it. -/
theorem witness_LineCondition_drops :
    (let s := visited 1 2 true
     polled s.env 3 s.seg = true ∧ (s.seg.door 3).drop.lost = true)
    ∧ (let s := visited 1 2 false
       polled s.env 3 s.seg = true ∧ (s.seg.door 3).drop.lost = false ∧ (s.seg.door 3).eng.state = .secured ∧ s.seg.queue = []
       ∧ (s.seg.door 3).eng.state ∉ [DoorState.absent, .outOfService, .egress, .lost])
    ∧ polled slot0.env 3 slot0.seg = false
    ∧ (∀ st ∈ [DoorState.absent, .outOfService, .egress, .lost], ((door3 .motor st slot0).seg.door 3).eng.state = st) := by
  decide +kernel

/-- A module that has carried out sequence 1. -/
def module3 : DropModule := ⟨3, 0, 0, some 1, none⟩
def command3 (seq kind : BitVec 2) : BranchCommand := branchCommandOf (branchCommand 3 seq kind true 0 0 50)

theorem witness_PulseExchange :
    ({ module3 with lastSeq := none } : DropModule).lastSeq = none ∧ module3.lastSeq = some (command3 1 1).seq
    ∧ module3.carriesOut (command3 2 1) = true ∧ (1 : BitVec 2) ≠ (command3 2 1).seq
    ∧ (command3 2 1).kind = 1 ∧ (command3 2 2).kind = 2 ∧ (command3 2 0).kind = 0
    ∧ ({ module3 with running := some (.throw, 1) } : DropModule).running = some (.throw, 1)
    -- an acknowledgment to a door in DRIVING, and to one lost from it
    ∧ (let x := (door3 .motor .driving slot0).seg.door 3
       { x.drop with pulseSeq := 2, pulse := .outstanding .throw }.pulse = .outstanding .throw ∧ x.eng.state = .driving)
    ∧ ((finding .driving (some .secured)).seg.door 3).eng.lostFrom = .driving := by decide +kernel

/-- Door 3 heads the queue; another door holds n units with a basis, at a capacity of 1,000 (the default). -/
def contested (n : Nat) (b : Basis) : Segment :=
  let g := (withDoor 63 (fun x => { x with charge := ⟨n, b, 0, 0⟩ }) (door3 .magnetic .awaitGrant slot0)).seg
  { g with queue := [⟨3, 128⟩], learning := false }

theorem witness_ArbiterConsiders :
    slot0.seg.queue = [] ∧ State.reset.seg.learning = true
    ∧ (let e := (door3 .magnetic .awaitGrant slot0).env
       (contested 980 .hold).queue = ⟨3, 128⟩ :: [] ∧ (contested 980 .hold).fire.latch = false
       ∧ (contested 980 .hold).load - ((contested 980 .hold).door 3).charge.units + (e.profile 3).runUnits ≤ 1000
       ∧ ¬ (contested 981 .tail).load - ((contested 981 .tail).door 3).charge.units + (e.profile 3).runUnits ≤ 1000
       ∧ ((contested 981 .tail).door 63).charge.basis = .tail ∧ ((contested 981 .hold).door 63).charge.basis = .hold
       ∧ e.work.segment.value.capacity = 1000)
    ∧ (slot0.seg.door 3).charge.basis ≠ .tail
    -- a MOTOR door before and after its drop's first good reply
    ∧ ((door3 .motor .awaitGrant slot0).seg.door 3).drop.firstReply = false
    ∧ ((sensing none none 0 (door3 .motor .awaitGrant slot0)).seg.door 3).drop.firstReply = true
    ∧ ((door3 .motor .awaitGrant slot0).env.profile 3).lockKind = .motor := by decide +kernel

/-- The fallbacks of R119, with the sensed posture they ask for and without it, and the drive on and off. -/
theorem witness_ArbiterConsiders_revert :
    (∀ f ∈ [Fallback.none, .faulted, .secured, .released],
      ((withEng 3 (fun x => { x with fallback := f }) (door3 .motor .warning slot0)).seg.door 3).eng.fallback = f)
    ∧ ((sensing (some false) (some false) 0 (door3 .strike .warning slot0)).seg.door 3).sensedOutside (profileOf .strike)
        = some .secured
    ∧ ((sensing (some false) (some true) 10 (door3 .strike .warning slot0)).seg.door 3).sensedOutside (profileOf .strike)
        = some .released
    ∧ ((sensing none none 0 (door3 .motor .warning slot0)).seg.door 3).sensedOutside (profileOf .motor) = none
    ∧ ((door3 .motor .warning slot0).seg.door 3).eng.pulseInAttempt = false
    ∧ ((withEng 3 (fun x => { x with drive := true }) (door3 .strike .driving slot0)).seg.door 3).eng.drive = true
    ∧ ((door3 .strike .driving slot0).seg.door 3).eng.drive = false := by decide +kernel

theorem witness_OverLimitCount :
    (255 : Nat) ≤ 255 ∧ (let p := { ProfileEntry.default with overLimit := 60, hysteresis := 2 }
      p.overLimit < 61 ∧ 58 ≤ p.overLimit - p.hysteresis ∧ p.overLimit - p.hysteresis < 59 ∧ 60 ≤ p.overLimit) := by decide

/-- A full list of 32 exceptions of kind LOST. -/
def full : Segment :=
  { slot0.seg with exceptions := (List.finRange 32).map (fun i => ⟨some ⟨i.val, by omega⟩, .lost, none, 1, 1, 1⟩) }

theorem witness_ExceptionHanded :
    (∃ x ∈ full.exceptions, x.door = some 31 ∧ x.kind = .lost) ∧ ¬ (∃ x ∈ full.exceptions, x.door = some 32 ∧ x.kind = .lost)
    ∧ 32 ≤ full.exceptions.length ∧ (full.exceptions.drop 1).length < 32
    ∧ full.exceptions = [] ++ ⟨some 0, .lost, none, 1, 1, 1⟩ :: full.exceptions.drop 1
    ∧ (⟨some 0, .lost, none, 1, 1, 1⟩ : ExceptionEntry).active full = false
    ∧ (⟨some 0, .lost, none, 1, 1, 1⟩ : ExceptionEntry).active
        (full.putDoor 0 { full.door 0 with eng := { (full.door 0).eng with live := { Live.clear with lost := true } } }) = true := by
  decide +kernel

theorem witness_TargetSetByState :
    (∀ st ∈ [DoorState.absent, .outOfService, .egress, .lost, .driving, .verifying, .secured, .released, .faulted, .awaitGrant,
      .exitShunt, .cooling, .warning], ((door3 .motor st slot0).seg.door 3).eng.state = st
        ∧ ((door3 .motor st slot0).seg.door 3).eng.target = some .secured) := by decide +kernel

/-- New attempts: the states they start from, with an opposite target where one is asked; the lines of R115 and R116 they are read by. -/
theorem witness_TargetSetByState_attempts :
    (∀ st ∈ [DoorState.released, .secured, .quietWait, .warning, .awaitGrant, .exitShunt, .cooling, .holding, .faulted],
      ((door3 .magnetic st slot0).seg.door 3).eng.state = st
      ∧ ((door3 .magnetic st slot0).seg.door 3).eng.target ≠ some .released
      ∧ (∀ q ∈ (door3 .magnetic st slot0).seg.queue, q.door ≠ 3))
    ∧ ((sensing (some false) (some false) 0 (door3 .magnetic .holding slot0)).seg.door 3).sensedOutside (profileOf .magnetic)
        = some .released
    ∧ ((sensing none none 0 (door3 .motor .holding slot0)).seg.door 3).sensedOutside (profileOf .motor) = none
    ∧ (let s := withEng 3 (fun x => { x with lastSettled := .released }) (sensing none none 0 (door3 .motor .holding slot0))
       (s.seg.door 3).sensedOutside (profileOf .motor) = none ∧ (s.seg.door 3).eng.lastSettled = .released
       ∧ (s.seg.door 3).eng.pulseInAttempt = false ∧ s.env.profile 3 = profileOf .motor)
    ∧ ((door3 .magnetic .holding slot0).seg.door 3).sensedOutside (profileOf .magnetic) = none
    ∧ ProfileEntry.default.assigns .lockDrive = false ∧ (profileOf .magnetic).assigns .lockDrive = true
    ∧ (profileOf .strike).lockKind ≠ .magnetic
    ∧ ((sensing (some true) (some false) 0 (door3 .magnetic .holding slot0)).seg.door 3).quiet (profileOf .magnetic) ⟨32, false⟩
        = false
    ∧ ((sensing (some false) (some false) 0 (door3 .magnetic .holding slot0)).seg.door 3).quiet (profileOf .magnetic) ⟨32, false⟩
        = true
    ∧ ((sensing (some true) (some false) 0 (door3 .magnetic .quietWait slot0)).seg.door 3).eng.target = some .secured
    ∧ reachedDriveOff .magnetic .released = true ∧ reachedDriveOff .magnetic .secured = false := by decide +kernel

/-- Each lock kind with a sensed posture of each value, outside verification and in it; the terminals that are not assigned. -/
theorem witness_TargetSetByState_sensed :
    let y (k : LockKind) (pos drive bolt : Option Bool) (i : Nat) : Door :=
      let x := (sensing pos drive i (door3 k .verifying slot0)).seg.door 3
      { x with inputs := { x.inputs with bolt := bolt }, eng := { x.eng with pulseAcked := true } }
    let bolted : ProfileEntry := { profileOf .motor with functions := #v[.position, .bolt, .none, .none, .none, .none] }
    (y .magnetic none none none 0).drop.lost = false ∧ (y .magnetic none none none 0).drop.firstReply = true
    ∧ (slot0.seg.door 3).drop.firstReply = false
    ∧ (y .magnetic (some false) (some true) none 10).sensedAs none (profileOf .magnetic) = some .secured
    ∧ (y .magnetic (some false) (some true) none 9).sensedAs none (profileOf .magnetic) = none
    ∧ (y .magnetic (some true) (some false) none 0).sensedAs none (profileOf .magnetic) = some .released
    ∧ (y .strike (some false) (some false) none 0).sensedAs none (profileOf .strike) = some .secured
    ∧ (y .strike (some true) (some true) none 10).sensedAs none (profileOf .strike) = some .released
    ∧ (y .motor (some false) none (some true) 0).sensedAs none bolted = some .secured
    ∧ (y .motor (some false) none (some false) 0).sensedAs none bolted = some .released
    ∧ (y .motor (some false) none none 0).sensedAs (some .secured) (profileOf .motor) = some .secured
    ∧ (y .motor (some true) none none 0).sensedAs (some .released) (profileOf .motor) = some .released := by decide +kernel

/-- Doors that leave HOLDING: with held levels on and off, and never heard. -/
theorem witness_TargetSetByState_leaving :
    let s (v : Option (BitVec 6)) := withDoor 3 (fun x => { x with drop := { x.drop with held := v } }) (door3 .strike .holding slot0)
    (∀ v ∈ [none, some 0, some 2], ((s v).seg.door 3).drop.held = v ∧ ((s v).seg.door 3).eng.state = .holding)
    ∧ (profileOf .strike).terminalOf .lockDrive = some 1 ∧ (profileOf .strike).lockKind ≠ .motor := by decide +kernel

theorem witness_FlashAndWindow :
    (watched true 15).power = .running ∧ ((watched true 15).seg.door 3).mon.watch = some ⟨32, false⟩
    ∧ ((watched true 15).seg.door 3).quiet ((watched true 15).env.profile 3) ⟨32, false⟩ = false
    ∧ ((watched false 15).seg.door 3).quiet ((watched false 15).env.profile 3) ⟨32, false⟩ = true
    ∧ (watched true 15).seg.queue = [] := by decide +kernel

theorem witness_ActivityBound : (32640 : Nat) ≤ 32640 ∧ (255 : Nat) ≤ 255 := by decide

def opened (dwell : Nat) (propped : Bool) : State :=
  withDoor 3 (fun x => { x with
    mon := { x.mon with enable := true, isOpen := true, dwell := dwell, latchedPropped := 10, propped := propped } })
    (door3 .magnetic .secured slot0)

theorem witness_MonitorTicks :
    ((slot0.seg.door 3).mon.enable && (slot0.seg.door 3).mon.isOpen) = false
    ∧ (((opened 98 false).seg.door 3).mon.enable && ((opened 98 false).seg.door 3).mon.isOpen) = true
    ∧ min 65535 (((opened 98 false).seg.door 3).mon.dwell + 1) < 10 * ((opened 98 false).seg.door 3).mon.latchedPropped
    ∧ 10 * ((opened 99 false).seg.door 3).mon.latchedPropped ≤ min 65535 (((opened 99 false).seg.door 3).mon.dwell + 1)
    ∧ ((opened 100 true).seg.door 3).mon.propped = true ∧ ((opened 99 false).seg.door 3).mon.propped = false
    ∧ (slot0.seg.door 3).mon.sinceClose = none ∧ ((watched false 0).seg.door 3).mon.sinceClose = some 65535
    ∧ ((watched false 0).seg.door 3).quiet ((watched false 0).env.profile 3) ⟨32, false⟩ = true
    ∧ ((watched true 0).seg.door 3).quiet ((watched true 0).env.profile 3) ⟨32, false⟩ = false
    ∧ ((watched false 1).seg.door 3).eng.state = .quietWait ∧ 0 < ((watched false 1).seg.door 3).eng.params.warning
    ∧ ((watched false 0).seg.door 3).eng.params.warning = 0 := by decide +kernel

/-- Door 3 monitored in its slot, with its monitor position and a dwell of 10 ticks, the bounce limit. -/
def monitored (isOpen : Bool) : State :=
  hearing .strike .secured (fun x => { x with
    inputs := { x.inputs with position := some isOpen }
    mon := { x.mon with enable := true, isOpen := isOpen, dwell := 10, latchedBounce := 10, propped := isOpen } })

/-- An opening, a closing that counts a passage, and a reply that changes nothing. -/
theorem witness_MonitorTicks_events :
    HeardAgain 0 3 (heardAs 1 0 0) (monitored false) ∧ HeardAgain 0 3 (heardAs 0 0 0) (monitored true)
    ∧ HeardAgain 0 3 (heardAs 0 0 0) (monitored false)
    ∧ (∀ o, ((monitored o).seg.door 3).mon.enable = true ∧ ((monitored o).seg.door 3).eng.state = .secured
      ∧ ((monitored o).seg.door 3).inputs.position = some o ∧ ((monitored o).seg.door 3).mon.isOpen = o
      ∧ (wired .strike).readAs .position (replyOf (heardAs 1 0 0)).inputs = some true
      ∧ (wired .strike).readAs .position (replyOf (heardAs 0 0 0)).inputs = some false
      ∧ ((monitored o).seg.door 3).mon.latchedBounce ≤ ((monitored o).seg.door 3).mon.dwell
      ∧ (wired .strike).assigns .position = true) :=
  ⟨heard_again (good_reply (by decide +kernel)) (by decide +kernel), heard_again (good_reply (by decide +kernel)) (by decide +kernel),
    heard_again (good_reply (by decide +kernel)) (by decide +kernel), by decide +kernel⟩

/-- The monitoring enable of door 3 turns ON at each POSITION, turns OFF with its dwell, and stands; a watch whose door is quiet, one whose
door is not, and none. -/
theorem witness_MonitorTicks_enable :
    (∀ o, let s := hearing .strike .secured (fun x => { x with
        inputs := { x.inputs with position := o }, mon := { x.mon with enable := false, isOpen := true } })
      shouldMonitor s.env 3 s.seg = true ∧ (s.seg.door 3).mon.enable = false ∧ (s.seg.door 3).inputs.position = o
      ∧ (s.seg.door 3).mon.isOpen = true)
    ∧ (let s := opened 7 true
       shouldMonitor s.env 3 s.seg = false ∧ (s.seg.door 3).mon.enable = true ∧ (s.seg.door 3).mon.propped = true
       ∧ (s.seg.door 3).eng.state ≠ .absent)
    ∧ shouldMonitor (monitored true).env 3 (monitored true).seg = ((monitored true).seg.door 3).mon.enable
    ∧ (∀ o, ((watched o 0).seg.door 3).mon.watch = some ⟨32, false⟩
      ∧ ((watched o 0).seg.door 3).quiet ((watched o 0).env.profile 3) ⟨32, false⟩ = !o)
    ∧ (slot0.seg.door 3).mon.watch = none := by
  refine ⟨fun o => ?_, by decide +kernel⟩
  rcases o with _ | o
  · decide +kernel
  · cases o <;> decide +kernel

/-- Door 3 waits with n seconds of deferral. -/
def deferring (st : DoorState) (n : Nat) (p : LatePolicy) (pos drive : Option Bool) : State :=
  withEng 3 (fun x => { x with deferral := .counting n, params := { x.params with policy := p } })
    (sensing pos drive 0 (door3 .magnetic st slot0))

theorem witness_Deferral :
    (∀ n, (slot0.seg.door 3).eng.deferral ≠ .counting n)
    ∧ (((deferring .warning 1 .force none none).seg.door 3).eng.deferral = .counting 1
      ∧ ((deferring .warning 1 .force none none).seg.door 3).eng.state = .warning
      ∧ slot0.env.siteInForce ≠ .sweepHold
      ∧ ({ slot0 with clock := { slot0.clock with lastSite := .sweepHold } } : State).env.siteInForce = .sweepHold
      ∧ ((deferring .quietWait 2 .force (some true) none).seg.door 3).eng.deferral = .counting 2
      ∧ ((deferring .quietWait 1 .force (some true) none).seg.door 3).inputs.position = some true
      ∧ (deferring .quietWait 1 .force (some true) none).env.profile 3 = profileOf .magnetic
      ∧ (profileOf .magnetic).assigns .position = true
      ∧ ((deferring .quietWait 1 .force (some false) none).seg.door 3).closed (profileOf .magnetic) = true
      ∧ ((deferring .quietWait 1 .force none none).seg.door 3).inputs.position = none
      ∧ ((deferring .quietWait 1 .leave none (some false)).seg.door 3).eng.params.policy = .leave
      ∧ ((deferring .quietWait 1 .leave none (some false)).seg.door 3).sensedOutside (profileOf .magnetic) = some .released) := by
  refine ⟨fun n h => ?_, by decide +kernel⟩
  have : (slot0.seg.door 3).eng.deferral = .none := by decide +kernel
  rw [this] at h
  exact absurd h (by simp)

/-- A LEAVE expiry at a lock that does not show RELEASED; a FORCE expiry at a closed door without a warning. -/
theorem witness_Deferral_other :
    (let s := deferring .quietWait 1 .leave (some true) (some true)
     (s.seg.door 3).eng.params.policy = .leave ∧ (s.seg.door 3).eng.state = .quietWait
     ∧ (s.seg.door 3).sensedOutside (profileOf .magnetic) ≠ some .released)
    ∧ (let s := withEng 3 (fun x => { x with params := { x.params with warning := 0 } })
        (deferring .quietWait 1 .force (some false) (some false))
       (s.seg.door 3).eng.params.warning = 0 ∧ (s.seg.door 3).eng.params.policy = .force
       ∧ (s.seg.door 3).closed (s.env.profile 3) = true) := by decide +kernel

theorem witness_WarningEnds :
    ((door3 .motor .secured slot0).seg.door 3).eng.state ≠ .warning
    ∧ ((door3 .motor .warning slot0).seg.door 3).eng.state = .warning
    ∧ ((door3 .motor .warning slot0).env.profile 3).lockKind ≠ .strike
    ∧ ((door3 .strike .warning slot0).env.profile 3).lockKind = .strike
    ∧ ((door3 .strike .warning slot0).seg.door 3).eng.target = some .secured ∧ slot0.seg.queue = []
    ∧ ((door3 .strike .warning slot0).env.profile 3).assigns .lockDrive = true
    ∧ ((withProfile 0 ProfileEntry.default (door3 .motor .warning slot0)).env.profile 3).assigns .lockDrive = false
    ∧ ((sensing (some false) (some false) 0 (door3 .strike .warning slot0)).seg.door 3).sensedOutside (profileOf .strike)
        = some .secured
    ∧ ((sensing (some true) (some false) 0 (door3 .strike .warning slot0)).seg.door 3).sensedOutside (profileOf .strike)
        ≠ some .secured := by decide +kernel

/-- What the operations behind the waiting states ask: a quiet door and one that is not, with the deferral EXPIRED and without it, a
warning of 0 and of more, and a door in another state. -/
theorem witness_WarningEnds_operations :
    (∀ o, ∀ n ∈ [0, 15], ∀ y ∈ [Deferral.none, .expired],
      let s := withEng 3 (fun x => { x with deferral := y }) (watched o n)
      (s.seg.door 3).quiet (s.env.profile 3) ⟨32, false⟩ = !o ∧ (s.seg.door 3).eng.deferral = y
      ∧ (s.seg.door 3).eng.params.warning = n ∧ (s.seg.door 3).eng.params.threshold = 32 ∧ (s.seg.door 3).eng.force = false
      ∧ (s.seg.door 3).eng.state = .quietWait)
    ∧ (slot0.seg.door 3).eng.state ≠ .quietWait := by decide +kernel

/-- Door 3 waits closed for its warning or its grant; the queue holds it where it waits for the grant. -/
def waiting (st : DoorState) (q : Posture) (x : Deferral) (p : LatePolicy) : State :=
  withSeg (fun g => { g with queue := if st = .awaitGrant then [⟨3, 128⟩] else [] })
    (hearing .magnetic st (fun z => { z with eng := { z.eng with
      target := some q, deferral := x, params := { z.eng.params with policy := p } } }))

/-- The door opens in WARNING, and in AWAIT_GRANT to secure and to release, with its deferral counting and EXPIRED. -/
theorem witness_WarningEnds_opens :
    (Heard 0 3 (heardAs 1 2 20) (waiting .warning .secured (.counting 1) .force)
      ∧ Heard 0 3 (heardAs 1 2 20) (waiting .awaitGrant .secured (.counting 1) .leave)
      ∧ Heard 0 3 (heardAs 1 2 20) (waiting .awaitGrant .released (.counting 1) .force)
      ∧ Heard 0 3 (heardAs 1 2 20) (waiting .warning .released .expired .force)
      ∧ Heard 0 3 (heardAs 1 2 20) (waiting .awaitGrant .secured .expired .leave))
    ∧ SoundCurrent (wired .magnetic) (heardAs 1 2 20)
    ∧ (∀ st ∈ [DoorState.warning, .awaitGrant], ∀ x ∈ [Deferral.counting 1, .expired],
        let z := (waiting st .secured x .leave).seg.door 3
        z.eng.state = st ∧ z.eng.target = some .secured ∧ z.eng.deferral = x ∧ z.eng.params.policy = .leave
        ∧ z.inputs.position = some false ∧ (waiting st .secured x .leave).env.profile 3 = wired .magnetic
        ∧ (∀ e ∈ (waiting st .secured x .leave).seg.queue, e.door = 3 → z.eng.state = .awaitGrant))
    ∧ (wired .magnetic).readAs .position (replyOf (heardAs 1 2 20)).inputs = some true := by
  refine ⟨⟨heard (good_reply ?_) ?_, heard (good_reply ?_) ?_, heard (good_reply ?_) ?_, heard (good_reply ?_) ?_,
    heard (good_reply ?_) ?_⟩, ⟨?_, ?_⟩, ?_, ?_⟩ <;> decide +kernel

/-- Door 3 with a timer that counts and a retry count. -/
def timed (k : LockKind) (st : DoorState) (p : Posture) (retry : Nat) : State :=
  withEng 3 (fun x => { x with timer := ⟨1, 0, true⟩, retry := retry, target := some p })
    (sensing (some true) (some true) 10 (door3 k st slot0))

theorem witness_RunAndVerify :
    (((timed .magnetic .driving .secured 0).seg.door 3).eng.state = .driving
      ∧ ((timed .magnetic .driving .secured 0).seg.door 3).eng.timer.running = true
      ∧ (timed .magnetic .driving .secured 0).seg.queue = []
      ∧ ((timed .magnetic .driving .secured 0).seg.door 3).sensedAs (some .secured) (profileOf .magnetic) ≠ some .secured
      ∧ ((timed .strike .driving .released 0).seg.door 3).sensedAs (some .released) (profileOf .strike) = some .released
      ∧ ((timed .strike .driving .released 0).seg.door 3).eng.pendingTarget = none)
    ∧ (((timed .magnetic .verifying .released 0).seg.door 3).eng.state = .verifying
      ∧ ((timed .magnetic .verifying .released 0).seg.door 3).eng.retry < (profileOf .magnetic).retryLimit
      ∧ (profileOf .magnetic).retryLimit ≤ ((timed .magnetic .verifying .released 1).seg.door 3).eng.retry
      ∧ (profileOf .motor).lockKind = .motor ∧ (profileOf .strike).lockKind ≠ .magnetic
      ∧ ((timed .strike .verifying .secured 0).seg.door 3).closed (profileOf .strike) = false
      ∧ ((timed .strike .verifying .secured 0).seg.door 3).eng.deferral ≠ .expired)
    ∧ ((withEng 3 (fun x => { x with pendingTarget := some ⟨.released, x.params, none⟩ })
        (timed .strike .verifying .secured 0)).seg.door 3).eng.pendingTarget ≠ none
    ∧ (profileOf .strike).assigns .lockDrive = true ∧ ProfileEntry.default.assigns .lockDrive = false
    -- a pending target that the lock shows already, and ones that it does not
    ∧ ((timed .strike .verifying .secured 0).seg.door 3).sensedOutside (profileOf .strike) = some .released
    ∧ ((timed .magnetic .verifying .released 0).seg.door 3).sensedOutside (profileOf .magnetic) ≠ some .secured
    ∧ ((timed .magnetic .verifying .released 0).seg.door 3).closed (profileOf .magnetic) = false
    ∧ ((timed .magnetic .verifying .secured 0).seg.door 3).sensedOutside (profileOf .magnetic) ≠ some .released
    -- one of each posture at the run end and at the retry limit
    ∧ (∀ q : Posture, ∀ st ∈ [DoorState.driving, .verifying],
        let s := withEng 3 (fun x => { x with pendingTarget := some ⟨q, x.params, some 1⟩ }) (timed .strike st .released 1)
        (s.seg.door 3).eng.pendingTarget = some ⟨q, (s.seg.door 3).eng.params, some 1⟩
        ∧ (s.seg.door 3).eng.target = some .released ∧ (profileOf .strike).retryLimit ≤ (s.seg.door 3).eng.retry
        ∧ (s.seg.door 3).sensedAs (some .released) (profileOf .strike) = some .released) :=
  ⟨by decide +kernel, by decide +kernel, by decide +kernel, by decide +kernel, by decide +kernel, by decide +kernel,
    by decide +kernel, by decide +kernel, by decide +kernel, fun q => by cases q <;> decide +kernel⟩

/-- A retry toward SECURED at a closed door, and at an open one whose deferral is EXPIRED, of each lock kind with a lock drive. -/
theorem witness_RunAndVerify_retry :
    ∀ k ∈ [LockKind.magnetic, .strike],
      let s := sensing (some false) (some true) 0 (timed k .verifying .secured 0)
      let t := withEng 3 (fun x => { x with deferral := .expired }) (timed k .verifying .secured 0)
      (s.seg.door 3).closed (profileOf k) = true ∧ (s.seg.door 3).eng.state = .verifying
      ∧ (s.seg.door 3).eng.retry < (profileOf k).retryLimit ∧ (s.seg.door 3).eng.target = some .secured
      ∧ (t.seg.door 3).eng.deferral = .expired ∧ (t.seg.door 3).closed (profileOf k) = false
      ∧ (t.seg.door 3).eng.target = some .secured ∧ (t.seg.door 3).eng.pendingTarget = none := by decide +kernel

/-- A good reply that shows the target of a VERIFYING door, with a pending target and without one, and one that does not. -/
theorem witness_RunAndVerify_reply :
    let s (y : Option PendingTarget) : State := hearing .strike .verifying (fun x => { x with eng := { x.eng with pendingTarget := y } })
    let y : PendingTarget := ⟨.released, State.reset.work.segment.value.params, some 1⟩
    (HeardAgain 0 3 (heardAs 0 0 20) (s none) ∧ HeardAgain 0 3 (heardAs 0 0 20) (s (some y))
      ∧ HeardAgain 0 3 (heardAs 0 2 20) (s (some y)))
    ∧ SoundCurrent (wired .strike) (heardAs 0 2 20)
    ∧ (∀ o ∈ [none, some y], let x := ((s o).seg.door 3).eng
      x.state = .verifying ∧ x.target = some .secured ∧ x.pendingTarget = o ∧ (s o).seg.queue = [])
    ∧ (let z (r : BranchRecord) : Door := { (s none).seg.door 3 with inputs := namedInputs (wired .strike) (replyOf r) }
       (z (heardAs 0 0 20)).sensedAs (some .secured) (wired .strike) = some .secured
       ∧ (z (heardAs 0 2 20)).sensedAs (some .secured) (wired .strike) ≠ some .secured) := by
  refine ⟨⟨heard_again (good_reply ?_) ?_, heard_again (good_reply ?_) ?_, heard_again (good_reply ?_) ?_⟩, ⟨?_, ?_⟩, ?_, ?_⟩
    <;> decide +kernel

theorem witness_ExitTimers :
    ((sensing (some false) none 0 (door3 .magnetic .exitShunt slot0)).seg.door 3).eng.state = .exitShunt
    ∧ ((sensing (some false) none 0 (door3 .magnetic .exitShunt slot0)).seg.door 3).closed (profileOf .magnetic) = true
    ∧ ((sensing (some true) none 0 (door3 .magnetic .exitShunt slot0)).seg.door 3).closed (profileOf .magnetic) = false
    ∧ ((withEng 3 (fun x => { x with exitWindow := true }) (door3 .strike .secured slot0)).seg.door 3).eng.exitWindow = true
    ∧ ((door3 .strike .secured slot0).seg.door 3).eng.exitWindow = false
    ∧ (profileOf .magnetic).assigns .lockDrive = true ∧ ProfileEntry.default.assigns .lockDrive = false
    ∧ ((door3 .magnetic .exitShunt slot0).seg.door 3).eng.target = some .secured := by decide +kernel

/-- An exit request, an opening within and without the window, and the closing of a marked door, at a sound current. -/
theorem witness_ExitTimers_events :
    (HeardAgain 0 3 (heardAs 4 2 20) (hearing .magnetic .secured id) ∧ HeardAgain 0 3 (heardAs 4 2 20) (hearing .strike .secured id)
      ∧ HeardAgain 0 3 (heardAs 4 2 20) (hearing .magnetic .exitShunt id))
    ∧ (let s := hearing .strike .secured (fun x => { x with eng := { x.eng with exitWindow := true } })
       HeardAgain 0 3 (heardAs 1 2 20) s ∧ (s.seg.door 3).eng.exitWindow = true ∧ (wired .strike).lockKind ≠ .magnetic)
    ∧ (let s := hearing .strike .secured (fun x => { x with
         inputs := { x.inputs with position := some true }, eng := { x.eng with openingMark := .forced } })
       HeardAgain 0 3 (heardAs 0 2 20) s ∧ HeardAgain 0 3 (heardAs 0 0 20) s ∧ (s.seg.door 3).eng.openingMark ≠ .none
       ∧ (s.seg.door 3).inputs.position = some true ∧ (s.seg.door 3).eng.target = some .secured
       ∧ (s.seg.door 3).eng.pendingTarget = none)
    ∧ (let x := (hearing .strike .secured id).seg.door 3
       x.inputs.exitRequest = some false ∧ x.inputs.position = some false ∧ x.eng.exitWindow = false
       ∧ (wired .strike).readAs .exitRequest (replyOf (heardAs 4 2 20)).inputs = some true
       ∧ (wired .strike).readAs .position (replyOf (heardAs 4 2 20)).inputs = some false
       ∧ (wired .strike).readAs .position (replyOf (heardAs 1 2 20)).inputs = some true)
    ∧ SoundCurrent (wired .strike) (heardAs 1 2 20) ∧ SoundCurrent (wired .strike) (heardAs 1 2 60) :=
  ⟨⟨heard_again (good_reply (by decide +kernel)) (by decide +kernel), heard_again (good_reply (by decide +kernel)) (by decide +kernel),
      heard_again (good_reply (by decide +kernel)) (by decide +kernel)⟩,
    ⟨heard_again (good_reply (by decide +kernel)) (by decide +kernel), by decide +kernel⟩,
    ⟨heard_again (good_reply (by decide +kernel)) (by decide +kernel), heard_again (good_reply (by decide +kernel)) (by decide +kernel),
      by decide +kernel⟩, by decide +kernel, ⟨by decide +kernel, by decide +kernel⟩, by decide +kernel, by decide +kernel⟩

theorem witness_CoolingEnds :
    ((timed .strike .cooling .secured 0).seg.door 3).eng.state = .cooling
    ∧ ((timed .strike .cooling .secured 0).seg.door 3).eng.retry < (profileOf .strike).retryLimit
    ∧ (profileOf .strike).retryLimit ≤ ((timed .strike .cooling .secured 1).seg.door 3).eng.retry
    ∧ ((timed .strike .cooling .released 0).seg.door 3).sensedOutside (profileOf .strike) = some .released
    ∧ ((timed .strike .cooling .secured 0).seg.door 3).sensedOutside (profileOf .strike) ≠ some .secured
    ∧ (profileOf .strike).assigns .lockDrive = true
    ∧ ((timed .strike .cooling .secured 0).seg.door 3).closed (profileOf .strike) = false
    ∧ ((door3 .strike .cooling slot0).seg.door 3).sensedOutside ProfileEntry.default = none
    ∧ ProfileEntry.default.assigns .lockDrive = false ∧ ProfileEntry.default.lockKind ≠ .motor
    ∧ ((timed .magnetic .cooling .released 0).seg.door 3).sensedOutside (profileOf .magnetic) ≠ some .released
    ∧ ((sensing (some true) (some false) 10 (timed .strike .cooling .released 0)).seg.door 3).sensedOutside (profileOf .strike)
        ≠ some .released
    ∧ ((withEng 3 (fun x => { x with target := none }) (door3 .strike .cooling slot0)).seg.door 3).eng.target = none := by
  decide +kernel

/-- The end of cooling at a closed door whose target is SECURED. -/
theorem witness_CoolingEnds_closed :
    let s := sensing (some false) (some true) 10 (timed .strike .cooling .secured 0)
    (s.seg.door 3).eng.state = .cooling ∧ (s.seg.door 3).eng.retry < (profileOf .strike).retryLimit
    ∧ (s.seg.door 3).eng.target = some .secured ∧ (s.seg.door 3).closed (profileOf .strike) = true ∧ s.seg.queue = []
    ∧ (s.seg.door 3).sensedOutside (profileOf .strike) ≠ some .secured := by decide +kernel

/-- A compared reply of a door with its drive on that leaves counts, one that raises OVERCURRENT, one that raises OPEN_CIRCUIT, and
one that is not compared. -/
theorem witness_CoolingEnds_compared :
    let s := hearing .magnetic .secured (fun x => { x with eng := { x.eng with drive := true }, sup := ⟨2, 2⟩ })
    HeardAgain 0 3 (heardAs 0 2 60) s ∧ HeardAgain 0 3 (heardAs 0 2 61) s ∧ HeardAgain 0 3 (heardAs 0 2 9) s
    ∧ ((wired .magnetic).lockKind ≠ .motor ∧ (wired .magnetic).assigns .lockDrive = true
      ∧ (s.seg.branch 0).sentApply = true ∧ (s.seg.branch 0).sentLock = true ∧ (s.seg.door 3).eng.drive = true
      ∧ s.seg.fire.latch = false ∧ s.env.profile 3 = wired .magnetic
      ∧ (wired .magnetic).readAs .position (replyOf (heardAs 0 2 60)).inputs = (s.seg.door 3).inputs.position
      ∧ (wired .magnetic).readAs .exitRequest (replyOf (heardAs 0 2 60)).inputs = (s.seg.door 3).inputs.exitRequest
      ∧ 60 + (wired .magnetic).hysteresis > (wired .magnetic).overLimit ∧ (s.seg.door 3).eng.state ≠ .verifying
      ∧ (s.seg.door 3).mon.watch = none ∧ (s.seg.door 3).eng.pendingTarget = none)
    ∧ (overCount (wired .magnetic) 61 2 = 3 ∧ underCount (wired .magnetic) 9 2 = 3 ∧ (wired .magnetic).persistence = 3
      ∧ overCount (wired .magnetic) 60 2 = 2 ∧ (wired .magnetic).faultLatch = true)
    ∧ ((hearing .magnetic .driving id).seg.door 3).eng.drive = false ∧ (wired .motor).lockKind = .motor :=
  ⟨heard_again (good_reply (by decide +kernel)) (by decide +kernel), heard_again (good_reply (by decide +kernel)) (by decide +kernel),
    heard_again (good_reply (by decide +kernel)) (by decide +kernel), by decide +kernel⟩

/-- A compared reply that raises OVERCURRENT at a door with a pending target, and at one with a quiet watch, both of them monitored. -/
theorem witness_CoolingEnds_watched :
    let s := hearing .magnetic .driving (fun x => { x with
      eng := { x.eng with drive := true, pendingTarget := some ⟨.released, x.eng.params, some 1⟩ }
      mon := { x.mon with enable := true }, sup := ⟨2, 0⟩ })
    let t := hearing .magnetic .quietWait (fun x => { x with
      eng := { x.eng with drive := true }
      mon := { x.mon with enable := true, watch := some ⟨32, false⟩ }, sup := ⟨2, 0⟩ })
    HeardAgain 0 3 (heardAs 0 2 61) s ∧ HeardAgain 0 3 (heardAs 0 2 61) t
    ∧ ((s.seg.door 3).eng.pendingTarget ≠ none ∧ (s.seg.door 3).drop.pulse = .none ∧ (s.seg.door 3).eng.state = .driving
      ∧ (s.seg.door 3).mon.watch = none ∧ (s.seg.door 3).mon.enable = (wired .magnetic).assigns .position)
    ∧ ((t.seg.door 3).mon.watch = some ⟨32, false⟩ ∧ (t.seg.door 3).eng.pendingTarget = none
      ∧ (t.seg.door 3).mon.enable = (wired .magnetic).assigns .position)
    ∧ overCount (wired .magnetic) 61 2 = (wired .magnetic).persistence :=
  ⟨heard_again (good_reply (by decide +kernel)) (by decide +kernel), heard_again (good_reply (by decide +kernel)) (by decide +kernel),
    by decide +kernel⟩

theorem witness_StepTimers :
    slot0.seg.seqr.run = none
    ∧ (withRun [delaying 1] [] slot0).seg.seqr.run = some ⟨7, 600, [delaying 1]⟩
    ∧ ([delaying 1] : List StepRecord)[1 - 1]? = some (delaying 1) ∧ ([delaying 1] : List StepRecord)[2 - 1]? = none
    ∧ ((delaying 1).state = .delaying ∧ (delaying 1).baseReached = true ∧ (delaying 1).due = false)
    ∧ ¬ (({ delaying 1 with baseReached := false } : StepRecord).state = .delaying
      ∧ ({ delaying 1 with baseReached := false } : StepRecord).baseReached = true)
    ∧ (∃ z ∈ [delaying 1], z.state ≠ .done) := by decide +kernel

/-- A step of the active run that begins; members that each line of R142 takes; an outcome that a step awaits and one that none does;
a queue with a program and one without. -/
theorem witness_StepTimers_members :
    let z : StepRecord := { delaying 0 with state := .active, members := [⟨3, .nothing⟩, ⟨4, .following 1⟩] }
    (∀ st ∈ [DoorState.outOfService, .lost, .secured, .holding], ((door3 .strike st programmed).seg.door 3).eng.state = st)
    ∧ effectiveExemption [⟨3, .released, 601, 0⟩] ((door3 .strike .holding programmed).env.doorEntry 3) = some .released
    ∧ (programmed.env.stepEntry 7 1).kind = .lockup
    ∧ ((withEng 3 (fun x => { x with owed := some 1 }) (door3 .strike .warning slot0)).seg.door 3).eng.owed = some 1
    ∧ ((withRun [z] [] slot0).seg.seqr.run = some ⟨7, 600, [z]⟩ ∧ ([z] : List StepRecord)[1 - 1]? = some z
      ∧ ⟨3, .nothing⟩ ∈ z.members ∧ ¬ (∃ m ∈ z.members, m.door = 4 ∧ m.mark = .nothing))
    ∧ (withRun [z] [1, 2] slot0).seg.seqr.queue = 1 :: [2] := by decide +kernel

/-- An outcome that is the last one a step waits for, and one that is not. -/
theorem witness_StepTimers_done :
    let z (ms : List Member) : StepRecord := { delaying 0 with state := .active, members := ms }
    let t (ms : List Member) := recordOutcome slot0.env 3 1 .done (withRun [z ms] [] slot0).seg
    ((t [⟨3, .nothing⟩]).seqr.run.map (fun r => r.steps.map (fun z => (z.state, z.doneMinute)))) = some [(.done, some 600)]
    ∧ ((t [⟨3, .nothing⟩, ⟨4, .nothing⟩]).seqr.run.map (fun r => r.steps.map (fun z => (z.state, z.doneMinute))))
        = some [(.active, none)] := by decide +kernel

end Sys2Proof.Tests
end

