-- ==== Sys2Proof/Proofs/DoorTrafficMonitor.lean ====
section
/-! The door traffic monitor: the activity at a window expiry (R77) and its bound (R78). -/

namespace Sys2Proof.Machine

/-- The floor case of R77. -/
theorem nextActivity_floor {a n : Nat} (h : n = 0 ∧ a < 4) : nextActivity a n = 0 := if_pos h

/-- The other case of R77: a quarter is removed and the window count is weighed in. -/
theorem nextActivity_decay {a n : Nat} (h : ¬(n = 0 ∧ a < 4)) : nextActivity a n = a - a / 4 + 32 * n := if_neg h

/-- What is left of an activity in range once its quarter is removed: three quarters of 32,640 at most, where the rounding of
`a / 4` no longer shows. -/
theorem activity_after_quarter_le {a : Nat} (ha : a ≤ 32640) : a - a / 4 ≤ 24480 := by omega

/-- Settles O53: in the decay case at most 24,480 remains, and a full window adds 8,160, the quarter that 32,640 loses. -/
theorem activityBound : Obligations.ActivityBound := by
  intro a n ha hn
  by_cases hfloor : n = 0 ∧ a < 4
  · rw [nextActivity_floor hfloor]
    exact Nat.zero_le _
  · calc nextActivity a n = a - a / 4 + 32 * n := nextActivity_decay hfloor
      _ ≤ 24480 + 32 * 255 := Nat.add_le_add (activity_after_quarter_le ha) (Nat.mul_le_mul_left 32 hn)
      _ = 32640 := rfl

end Sys2Proof.Machine
end

