-- ==== Sys2Proof/Proofs/DriveSupervision.lean ====
section
/-! Drive supervision: the over-limit count after a compared reply (R101). -/

namespace Sys2Proof.Machine

section OverCount

variable {p : ProfileEntry} {i count : Nat}

/-- The lower edge of R101's band is the truncated difference of `Nat`. -/
theorem lowerEdge_eq_sub (o h : Nat) : (if o < h then 0 else o - h) = o - h :=
  ite_eq_right_iff.mpr fun hlt => (Nat.sub_eq_zero_of_le hlt.le).symm

/-- The first line of R101: a reading above the over-limit is counted. -/
theorem overCount_of_above (h : p.overLimit < i) : overCount p i count = count + 1 := if_pos h

/-- The second line of R101: a reading at or below the lower edge clears the count. -/
theorem overCount_of_le_edge (h : i ≤ p.overLimit - p.hysteresis) : overCount p i count = 0 :=
  (if_neg (h.trans (Nat.sub_le _ _)).not_gt).trans (if_pos h)

/-- The third line of R101: a reading inside the band leaves the count. -/
theorem overCount_of_in_band (hlow : p.overLimit - p.hysteresis < i) (hhigh : i ≤ p.overLimit) :
    overCount p i count = count :=
  (if_neg hhigh.not_gt).trans (if_neg hlow.not_ge)

/-- Only a reading above the over-limit raises the count. -/
theorem overCount_le_of_not_above (hhigh : i ≤ p.overLimit) : overCount p i count ≤ count := by
  by_cases hedge : i ≤ p.overLimit - p.hysteresis
  · rw [overCount_of_le_edge hedge]
    exact Nat.zero_le _
  · rw [overCount_of_in_band (not_le.mp hedge) hhigh]

/-- With hysteresis 0 the band is empty: a reading at the over-limit clears the count. -/
theorem overCount_at_limit_of_no_hysteresis (hH : p.hysteresis = 0) : overCount p p.overLimit count = 0 :=
  overCount_of_le_edge (by rw [hH, Nat.sub_zero])

end OverCount

/-- Settles O49: the three lines of R101, and their cases at hysteresis 0 and at the over-limits 0 and 255. -/
theorem overLimitCount : Obligations.OverLimitCount := by
  intro p i count edge
  have hedge : edge = p.overLimit - p.hysteresis := lowerEdge_eq_sub _ _
  rw [hedge]
  refine ⟨overCount_of_above, overCount_of_le_edge, overCount_of_in_band, overCount_at_limit_of_no_hysteresis,
    fun hO => ⟨fun hi => ?_, ?_⟩, fun hO hi => ?_⟩
  · exact overCount_of_above (hO ▸ hi)
  · exact overCount_of_le_edge (Nat.zero_le _)
  · exact overCount_le_of_not_above (hO ▸ hi)

end Sys2Proof.Machine
end

section
/-! The dispatch by groups of commands, and what the operations of the branch pollers and of the table store keep of the segment
(`Kept`, Laws/Frame.lean). -/

namespace Sys2Proof.Machine

/-! ## The dispatch -/

/-- Every management command is its request arriving in slot 0 (R10). -/
theorem exec_of_asRequest {c : Instr} {q : Request} (h : c.asRequest = some q) (s : State) :
    exec c s = .next (requestArrives q s) := by
  cases c <;> simp only [Instr.asRequest, Option.some.injEq, reduceCtorEq] at h <;> subst h <;> rfl

/-- Every group command is its command slot arriving (R11). -/
theorem exec_of_asCommand {c : Instr} {k : CommandCode} {x : CommandSlot} (h : c.asCommand = some (k, x)) (s : State) :
    exec c s = .next (commandArrives k x s) := by
  cases c <;> simp only [Instr.asCommand, Option.some.injEq, Prod.mk.injEq, reduceCtorEq] at h <;>
    obtain ⟨rfl, rfl⟩ := h <;> rfl

/-- Every complete record is a record arriving, whatever its row is called (R1). -/
theorem exec_of_asRecord {c : Instr} {r : TrunkRecord} (h : c.asRecord = some r) (s : State) :
    exec c s = .next (recordArrives r s) := by
  cases c <;> simp only [Instr.asRecord, Option.some.injEq, reduceCtorEq] at h <;> subst h <;> rfl

/-- Every frame mark is a change of the trunk port where it receives (R1, R15). -/
theorem exec_of_isMark {c : Instr} (h : c.isMark = true) (s : State) : ∃ f, exec c s = .next (whenInserted f s) := by
  cases c <;> simp only [Instr.isMark, Bool.false_eq_true] at h <;> exact ⟨_, rfl⟩

/-! ## What more door-side operations keep -/

section
variable {g0 g : Segment} {e old : Env} {d : DoorNo}

theorem Kept.setSupervision {c : Supervision} (h : Kept g0 g) : Kept g0 (setSupervision d c g) := h.putDoor

theorem Kept.clearSupervision (h : Kept g0 g) : Kept g0 (clearSupervision d g) := h.putDoor

theorem Kept.clearReference (h : Kept g0 g) : Kept g0 (clearReference e d g) := h.upd

theorem Kept.remapDoor (h : Kept g0 g) : Kept g0 (remapDoor old e d g) := by
  unfold Machine.remapDoor; dsimp only
  split
  · exact h.clearSupervision.clearReference.reenable
  · exact h.clearReference.reenable

theorem Kept.doorChanged (h : Kept g0 g) : Kept g0 (doorChanged old e d g) := by
  unfold Machine.doorChanged; dsimp only
  apply Kept.reconcileProfile
  split
  · exact h.syncFitted
  · exact h.syncFitted.clearSupervision.rekindDoor.reenable

theorem Kept.profileChanged (h : Kept g0 g) : Kept g0 (profileChanged old e d g) := by
  unfold Machine.profileChanged; dsimp only
  apply Kept.reconcileProfile
  split
  · exact h.rekindDoor.remapDoor
  · exact h.rekindDoor

theorem Kept.fieldWritten {field : Nat} (h : Kept g0 g) : Kept g0 (fieldWritten field old e d g) := by
  unfold Machine.fieldWritten; dsimp only
  apply Kept.reconcileProfile
  repeat' first | with_reducible assumption | with_reducible apply Kept.evaluateWatch | with_reducible apply Kept.remapDoor | split

theorem Kept.doorWritten {field : Nat} (h : Kept g0 g) : Kept g0 (doorWritten field d old e g) := by
  unfold Machine.doorWritten
  split
  · exact h.clearSupervision.doorChanged
  · exact h.doorChanged

theorem Kept.superviseCompared {i : Nat} (h : Kept g0 g) : Kept g0 (superviseCompared e d i g) := by
  unfold Machine.superviseCompared; dsimp only
  repeat' first | with_reducible assumption | with_reducible apply Kept.supervisionFault | with_reducible apply Kept.setSupervision | with_reducible apply Kept.clearLive | split

theorem Kept.supervise {apply lock : Bool} {i : Nat} (h : Kept g0 g) : Kept g0 (supervise e d apply lock i g) := by
  unfold Machine.supervise
  split
  · exact h.superviseCompared
  · exact h

theorem Kept.takeFirstReply {r : Reply} (h : Kept g0 g) : Kept g0 (takeFirstReply e d r g) := by
  unfold Machine.takeFirstReply; dsimp only
  repeat' first | with_reducible assumption | with_reducible apply Kept.learn | with_reducible apply Kept.upd | split

theorem Kept.takeCondition {r : Reply} (h : Kept g0 g) : Kept g0 (takeCondition e d r g) := by
  unfold Machine.takeCondition; dsimp only
  repeat' first | with_reducible assumption | with_reducible apply Kept.tamperBegins | with_reducible apply Kept.tamperCheck | with_reducible apply Kept.upd | split

theorem Kept.positionEvent {o : Bool} (h : Kept g0 g) : Kept g0 (positionEvent e d o g) := by
  unfold Machine.positionEvent
  split
  · exact h.monitorOpen.evaluateWatch.positionOpen
  · exact h.monitorClose.evaluateWatch.positionClosed

theorem Kept.terminalEvents {was now : Inputs} (h : Kept g0 g) : Kept g0 (terminalEvents e d was now g) := by
  unfold Machine.terminalEvents; dsimp only
  repeat' first | with_reducible assumption | with_reducible apply Kept.tamperBegins | with_reducible apply Kept.exitRequested | with_reducible apply Kept.positionEvent | split

theorem Kept.takeEvents {was now : Inputs} (h : Kept g0 g) : Kept g0 (takeEvents e d was now g) := by
  unfold Machine.takeEvents
  apply Kept.tamperCheck
  split
  · exact h.terminalEvents
  · exact h.upd

theorem Kept.takePulse {r : Reply} (h : Kept g0 g) : Kept g0 (takePulse e d r g) := by
  unfold Machine.takePulse; dsimp only
  split
  · exact h.upd.pulseAcknowledged
  · exact h.upd

theorem Kept.takeReply {apply lock found : Bool} {r : Reply} (h : Kept g0 g) :
    Kept g0 (takeReply e d apply lock found r g) := by
  have taken := h.upd (e := e) (d := d) (f := fun x => { x with inputs := namedInputs (e.profile d) r })
  unfold Machine.takeReply; dsimp only
  apply Kept.readVerifying
  split
  · exact taken.takeFirstReply.takeCondition.takeEvents.supervise.takePulse.postWithheld.reenable.foundNotice
  · exact taken.takeFirstReply.takeCondition.takeEvents.supervise.takePulse.postWithheld.reenable

theorem Kept.becomeLost (h : Kept g0 g) : Kept g0 (becomeLost e d g) := by
  unfold Machine.becomeLost; dsimp only
  split
  · exact h.upd.lostNotice.reenable
  · exact h.upd.lostNotice.reenable.testLearning

theorem Kept.missReply (h : Kept g0 g) : Kept g0 (missReply e d g) := by
  unfold Machine.missReply; dsimp only
  split
  · exact h.upd.becomeLost
  · exact h.upd

theorem Kept.goodReply {apply lock : Bool} {r : Reply} (h : Kept g0 g) : Kept g0 (goodReply e d apply lock r g) := by
  unfold Machine.goodReply; dsimp only
  repeat' first | with_reducible assumption | with_reducible apply Kept.takeReply | with_reducible apply Kept.upd | split

theorem Kept.faultDrop (h : Kept g0 g) : Kept g0 (faultDrop e d g) := by
  unfold Machine.faultDrop; dsimp only
  repeat' first | with_reducible assumption | with_reducible apply Kept.becomeLost | with_reducible apply Kept.upd | split

theorem Kept.listMany {k : Kind} (n : Nat) (h : Kept g0 g) : Kept g0 (listMany e k n g) := by
  induction n generalizing g with
  | zero => exact h
  | succ n ih => exact ih h.listException

theorem Kept.timerExpires (h : Kept g0 g) : Kept g0 (timerExpires e d g) := by
  unfold Machine.timerExpires
  split
  · exact h.warningEnd
  · exact h.runTimerEnd
  · exact h.verifyFailed
  · exact h.shuntEnd
  · exact h.coolingEnd
  · exact h.exitWindowEnd
  · exact h

end

end Sys2Proof.Machine
end

section
/-! Invariants of the segment: what has to be shown of single operations for a predicate to hold through every step, and the induction
over the operations of a command, done once for every such predicate. -/

namespace Sys2Proof.Machine

/-! ## Operations that touch no collection -/

/-- The actuation queue, every door's state, the exemption table, the run queue and the active run's program are the same; the exception
list is within its bounds if it was. -/
structure Still (g h : Segment) : Prop where
  queue : h.queue = g.queue
  states : ∀ d, (h.door d).eng.state = (g.door d).eng.state
  exceptions : Listed g.exceptions → Listed h.exceptions
  exemptions : h.exemptions = g.exemptions
  runQueue : h.seqr.queue = g.seqr.queue
  program : h.seqr.run.map (fun r => r.program) = g.seqr.run.map (fun r => r.program)

theorem Still.refl (g : Segment) : Still g g := ⟨rfl, fun _ => rfl, id, rfl, rfl, rfl⟩

theorem Still.trans {g h k : Segment} (a : Still g h) (b : Still h k) : Still g k :=
  ⟨b.queue.trans a.queue, fun d => (b.states d).trans (a.states d), fun x => b.exceptions (a.exceptions x),
    b.exemptions.trans a.exemptions, b.runQueue.trans a.runQueue, b.program.trans a.program⟩

/-- What a door-side operation keeps, with the queue and the door states on top of it. -/
theorem Still.ofKept {g h : Segment} (k : Kept g h) (hq : h.queue = g.queue)
    (hs : ∀ d, (h.door d).eng.state = (g.door d).eng.state) : Still g h :=
  ⟨hq, hs, k.exceptions, k.exemptions, k.runQueue, k.program⟩

section
variable {g0 g : Segment} {e : Env} {d : DoorNo}

theorem door_putDoor (g : Segment) (d j : DoorNo) (x : Door) : (g.putDoor d x).door j = if j = d then x else g.door j := by
  split
  · next h => rw [h, door_putDoor_same]
  · next h => exact door_putDoor_ne g d j x h

theorem door_upd_ne (g : Segment) (e : Env) (f : Door → Door) {d j : DoorNo} (h : j ≠ d) :
    (g.upd e d f).door j = g.door j := onlyDoor_upd g e d f j h

theorem Still.putDoor {x : Door} (h : Still g0 g) (hx : x.eng.state = (g.door d).eng.state) : Still g0 (g.putDoor d x) := by
  refine h.trans ⟨rfl, fun j => ?_, id, rfl, rfl, rfl⟩
  rw [door_putDoor]
  split
  · next hj => rw [hx, hj]
  · rfl

theorem Still.upd {f : Door → Door} (h : Still g0 g) (hf : (f (g.door d)).eng.state = (g.door d).eng.state) :
    Still g0 (g.upd e d f) := by
  unfold Segment.upd; dsimp only; split <;> exact h.putDoor hf

theorem Still.updEng {f : Engine → Engine} (h : Still g0 g) (hf : (f (g.door d).eng).state = (g.door d).eng.state) :
    Still g0 (updEng e d f g) := h.upd hf

theorem Still.setCharge {c : Charge} (h : Still g0 g) : Still g0 (setCharge d c g) := h.putDoor rfl

theorem Still.setSupervision {c : Supervision} (h : Still g0 g) : Still g0 (setSupervision d c g) := h.putDoor rfl

theorem Still.clearSupervision (h : Still g0 g) : Still g0 (clearSupervision d g) := h.putDoor rfl

theorem Still.listException {door : Option DoorNo} {k : Kind} {sub : Option SubReason} (h : Still g0 g) :
    Still g0 (listException e door k sub g) :=
  h.trans ⟨rfl, fun _ => rfl, handException_listed _ _ _ _ _ _, rfl, rfl, rfl⟩

theorem Still.listMany {k : Kind} (n : Nat) (h : Still g0 g) : Still g0 (listMany e k n g) := by
  induction n generalizing g with
  | zero => exact h
  | succ n ih => exact ih h.listException

/-- A change of each step of the active run. -/
theorem Still.mapRun {f : Run → Run} (h : Still g0 g) (hf : ∀ r, (f r).program = r.program) :
    Still g0 { g with seqr := { g.seqr with run := g.seqr.run.map f } } :=
  h.trans ⟨rfl, fun _ => rfl, id, rfl, rfl, by cases g.seqr.run <;> simp [hf]⟩

theorem Still.setRun {r r' : Run} (h : Still g0 g) (hr : g.seqr.run = some r) (hp : r'.program = r.program) :
    Still g0 { g with seqr := { g.seqr with run := some r' } } :=
  h.trans ⟨rfl, fun _ => rfl, id, rfl, rfl, by simp [hr, hp]⟩

theorem Still.recordOutcome {k : Nat} {o : DoorOutcome} (h : Still g0 g) : Still g0 (recordOutcome e d k o g) := by
  unfold Machine.recordOutcome
  split
  · exact h
  · next r hr =>
    split
    · exact h
    · split
      · exact h.setRun hr (by simp)
      · exact h

theorem Still.answer {owed : Option Nat} {o : DoorOutcome} (h : Still g0 g) : Still g0 (answer e d owed o g) := by
  unfold Machine.answer
  split
  · exact h
  · exact h.recordOutcome

theorem Still.answerOwed {o : DoorOutcome} (h : Still g0 g) : Still g0 (answerOwed e d o g) := (h.upd rfl).answer

theorem Still.answerPending {o : DoorOutcome} (h : Still g0 g) : Still g0 (answerPending e d o g) := by
  unfold Machine.answerPending
  split
  · exact h
  · exact (h.upd rfl).answer

theorem Still.dropPending (h : Still g0 g) : Still g0 (dropPending e d g) := h.upd rfl

theorem Still.clearLive {ks : List Kind} (h : Still g0 g) : Still g0 (clearLive e d ks g) := h.upd rfl

theorem Still.raiseKind {k : Kind} {sub : Option SubReason} (h : Still g0 g) : Still g0 (raiseKind e d k sub g) :=
  (h.upd rfl).listException

theorem Still.startTimer {n : Nat} (h : Still g0 g) : Still g0 (startTimer e d n g) := h.upd rfl

theorem Still.postPulse {k : PulseKind} (h : Still g0 g) : Still g0 (postPulse e d k g) := h.upd rfl

theorem Still.withholdPulse (h : Still g0 g) : Still g0 (withholdPulse e d g) := h.upd rfl

theorem Still.cancelPulse (h : Still g0 g) : Still g0 (cancelPulse e d g) := h.upd rfl

theorem Still.clearWatch (h : Still g0 g) : Still g0 (clearWatch e d g) := h.upd rfl

theorem Still.clearReference (h : Still g0 g) : Still g0 (clearReference e d g) := h.upd rfl

theorem Still.startDeferral (h : Still g0 g) : Still g0 (startDeferral e d g) := h.updEng rfl

theorem Still.beginAttempt {fb : Fallback} {prev : Option Posture} (h : Still g0 g) :
    Still g0 (beginAttempt e d fb prev g) := h.updEng rfl

theorem Still.adopt {p : Posture} {params : Params} {owed : Option Nat} (h : Still g0 g) :
    Still g0 (adopt e d p params owed g) := h.answerOwed.updEng rfl

theorem Still.holdPending {p : Posture} {params : Params} {owed : Option Nat} (h : Still g0 g) :
    Still g0 (holdPending e d p params owed g) := h.answerPending.updEng rfl

theorem Still.updMon {f : Monitor → Monitor} (h : Still g0 g) : Still g0 (updMon e d f g) := h.upd rfl

theorem Still.proppedNotice {begins : Bool} (h : Still g0 g) : Still g0 (proppedNotice e d begins g) := by
  unfold Machine.proppedNotice
  split
  · exact h
  · split
    · exact h.raiseKind
    · exact h.clearLive

theorem Still.tamperBegins {sub : SubReason} (h : Still g0 g) : Still g0 (tamperBegins e d sub g) := by
  unfold Machine.tamperBegins
  split
  · exact h
  · exact h.raiseKind

theorem Still.tamperCheck (h : Still g0 g) : Still g0 (tamperCheck e d g) := by
  unfold Machine.tamperCheck; dsimp only
  split
  · exact h.clearLive
  · exact h

theorem Still.endPropped (h : Still g0 g) : Still g0 (endPropped e d g) := by
  unfold Machine.endPropped
  split
  · exact h.updMon.proppedNotice
  · exact h

theorem Still.beginPropped (h : Still g0 g) : Still g0 (beginPropped e d g) := h.updMon.proppedNotice

theorem Still.monitorOpen (h : Still g0 g) : Still g0 (monitorOpen e d g) := by
  unfold Machine.monitorOpen; dsimp only
  split
  · exact h.updMon
  · exact h

theorem Still.monitorClose (h : Still g0 g) : Still g0 (monitorClose e d g) := by
  unfold Machine.monitorClose; dsimp only
  split
  · exact h.updMon.endPropped
  · exact h

theorem Still.enableOn (h : Still g0 g) : Still g0 (enableOn e d g) := by
  unfold Machine.enableOn; dsimp only
  split
  · exact h.updMon.updMon
  · exact h.updMon.updMon
  · exact h.updMon

theorem Still.enableOff (h : Still g0 g) : Still g0 (enableOff e d g) := h.updMon.endPropped

theorem Still.dwellStep (h : Still g0 g) : Still g0 (dwellStep e d g) := by
  unfold Machine.dwellStep; dsimp only
  repeat' first | with_reducible assumption | with_reducible apply Still.beginPropped | with_reducible apply Still.updMon | split

theorem Still.proppedNow (h : Still g0 g) : Still g0 (proppedNow e d g) := by
  unfold Machine.proppedNow; dsimp only
  split
  · exact h.updMon.beginPropped
  · exact h

theorem Still.pulseAcknowledged (h : Still g0 g) : Still g0 (pulseAcknowledged e d g) :=
  h.updEng (by split <;> [rfl; split <;> rfl])

theorem Still.takeCondition {r : Reply} (h : Still g0 g) : Still g0 (takeCondition e d r g) := by
  unfold Machine.takeCondition; dsimp only
  split
  · exact h.upd rfl
  · split
    · exact (h.upd rfl).tamperBegins
    · exact (h.upd rfl).tamperCheck

theorem Still.takePulse {r : Reply} (h : Still g0 g) : Still g0 (takePulse e d r g) := by
  unfold Machine.takePulse; dsimp only
  split
  · exact (h.upd rfl).pulseAcknowledged
  · exact h.upd rfl

theorem Still.postWithheld {waited : Bool} (h : Still g0 g) : Still g0 (postWithheld e d waited g) := by
  unfold Machine.postWithheld
  split
  · exact h.postPulse
  · exact h

theorem Still.exitWindowEnd (h : Still g0 g) : Still g0 (exitWindowEnd e d g) := by
  unfold Machine.exitWindowEnd; dsimp only
  split
  · exact h.updEng rfl
  · exact h

theorem Still.dropOwingPending (h : Still g0 g) : Still g0 (dropOwingPending e d g) := by
  unfold Machine.dropOwingPending
  repeat' first | with_reducible assumption | with_reducible apply Still.dropPending | with_reducible apply Still.answerPending | split

theorem Still.pendingAsTarget (h : Still g0 g) : Still g0 (pendingAsTarget e d g) :=
  h.updEng (by split <;> rfl)

/-- A door whose LOCK_DRIVE level was on has its supervision counts at 0; every other one is as before (R104, R165). -/
theorem setLatchFlag_door (e : Env) (cause : LatchCause) (g : Segment) (d : DoorNo) :
    (setLatchFlag e cause g).door d
      = if (g.door d).lockLevel g.fire.latch (e.profile d) then { g.door d with sup := ⟨0, 0⟩ } else g.door d :=
  vgen_get 64 _ d

/-- A change of every door that keeps each state. -/
theorem Still.mapDoors {v : Vector Door 64} (h : Still g0 g) (hv : ∀ d : DoorNo, v[d].eng.state = (g.door d).eng.state) :
    Still g0 { g with doors := v } := h.trans ⟨rfl, hv, id, rfl, rfl, rfl⟩

/-- Only what is no collection of the segment has changed. -/
theorem Still.ofSides {h : Segment} (hd : h.doors = g.doors) (hq : h.queue = g.queue) (hx : h.exceptions = g.exceptions)
    (hm : h.exemptions = g.exemptions) (hs : h.seqr = g.seqr) : Still g h :=
  ⟨hq, fun d => by rw [Segment.door, Segment.door, hd], fun a => hx ▸ a, hm, by rw [hs], by rw [hs]⟩

/-- The count of drops that wait for the end of the load is cleared. -/
theorem Still.forgetDrops (h : Still g0 g) : Still g0 { g with seqr := { g.seqr with unlistedDrops := 0 } } :=
  h.trans ⟨rfl, fun _ => rfl, id, rfl, rfl, rfl⟩

theorem Still.startPollers (h : Still g0 g) : Still g0 (startPollers e g) := h.trans (.ofSides rfl rfl rfl rfl rfl)

theorem Still.startClocks (h : Still g0 g) : Still g0 (startClocks e g) := h.trans (.ofSides rfl rfl rfl rfl rfl)

theorem Still.updBranch {b : BranchNo} {f : Branch → Branch} (h : Still g0 g) : Still g0 (updBranch b f g) :=
  h.trans (.ofSides rfl rfl rfl rfl rfl)

end

/-! ## Invariants of the segment -/

section
variable {P : Segment → Prop} {g : Segment} {s : State}

theorem forDoors_keeps {ds : List DoorNo} {f : DoorNo → Segment → Segment} (hf : ∀ d g, P g → P (f d g)) (hg : P g) :
    P (forDoors ds f g) := by
  unfold Machine.forDoors
  induction ds generalizing g with
  | nil => exact hg
  | cons d ds ih => exact ih (hf d g hg)

theorem whenRunning_keeps {f : State → State} (hf : ∀ s, P s.seg → P (f s).seg) (hs : P s.seg) : P (whenRunning f s).seg := by
  unfold Machine.whenRunning; split <;> [exact hf s hs; exact hs]

theorem unlessHeld_keeps {f : State → State} (hf : ∀ s, P s.seg → P (f s).seg) (hs : P s.seg) : P (unlessHeld f s).seg := by
  unfold Machine.unlessHeld; split <;> [exact hs; exact hf s hs]

theorem whenInserted_keeps {f : TrunkPort → TrunkPort} (hs : P s.seg) : P (whenInserted f s).seg := by
  unfold Machine.whenInserted; split <;> exact hs

end

/-- What makes a predicate an invariant of the segment: it holds after a reset, it does not depend on what is no collection, and every
operation that moves a door between its states or changes a collection keeps it. -/
structure SegmentInvariant (P : Segment → Prop) : Prop where
  initial : ∀ x n, P (Segment.initial x n)
  still : ∀ {g h}, Still g h → P g → P h
  consider : ∀ {e g}, P g → P (consider e g)
  targetSet : ∀ {e d p params owed g}, P g → P (targetSet e d p params owed g)
  evaluateWatch : ∀ {e d g}, P g → P (evaluateWatch e d g)
  positionOpen : ∀ {e d g}, P g → P (positionOpen e d g)
  positionClosed : ∀ {e d g}, P g → P (positionClosed e d g)
  exitRequested : ∀ {e d g}, P g → P (exitRequested e d g)
  supervisionFault : ∀ {e d k g}, P g → P (supervisionFault e d k g)
  foundNotice : ∀ {e d g}, P g → P (foundNotice e d g)
  readVerifying : ∀ {e d g}, P g → P (readVerifying e d g)
  lostNotice : ∀ {e d g}, P g → P (lostNotice e d g)
  warningEnd : ∀ {e d g}, P g → P (warningEnd e d g)
  runTimerEnd : ∀ {e d g}, P g → P (runTimerEnd e d g)
  verifyFailed : ∀ {e d g}, P g → P (verifyFailed e d g)
  shuntEnd : ∀ {e d g}, P g → P (shuntEnd e d g)
  coolingEnd : ∀ {e d g}, P g → P (coolingEnd e d g)
  deferralEnd : ∀ {e d g}, P g → P (deferralEnd e d g)
  fireDoor : ∀ {e d g}, P g → P (fireDoor e d g)
  restoreDoor : ∀ {e d g}, P g → P (restoreDoor e d g)
  takeOutOfService : ∀ {e d g}, P g → P (takeOutOfService e d g)
  returnToService : ∀ {e d g}, P g → P (returnToService e d g)
  replaceDoor : ∀ {e d x g}, x.eng.state = .absent → P g → P (enterState e d .outOfService ((dequeue d g).putDoor d x))
  endLastVisit : ∀ {e d g}, P g → P (endLastVisit e d g)
  resetFaultDoor : ∀ {e d g}, P g → P (resetFaultDoor e d g)
  abortDoor : ∀ {e d g}, P g → P (abortDoor e d g)
  enterDoors : ∀ {e g}, P g → P (enterDoors e g)
  startRequest : ∀ {e p g}, P g → P (startRequest e p g).2
  completeRun : ∀ {e r g}, g.seqr.run = some r → P g → P (completeRun e r g)
  endRun : ∀ {e x g}, P g → P (endRun e x g)
  addExemption : ∀ {m expiry nextDay k keep n g}, exemptAccepted m expiry nextDay k g.exemptions = true → P g →
    P { g with exemptions := insertExemption ⟨k, keep, expiry, n⟩ g.exemptions }
  filterExemptions : ∀ {p g}, P g → P { g with exemptions := g.exemptions.filter p }
  turnExemptions : ∀ {g}, P g →
    P { g with exemptions := g.exemptions.map (fun x => if x.dayCount = 0 then x else { x with dayCount := 0 }) }
  filterExceptions : ∀ {p g}, P g → P { g with exceptions := g.exceptions.filter p }

namespace SegmentInvariant

variable {P : Segment → Prop} (I : SegmentInvariant P) {e old : Env} {d : DoorNo} {g : Segment}

include I

theorem sides {h : Segment} (hg : P g) (same : (h.doors, h.queue, h.exceptions, h.exemptions, h.seqr)
    = (g.doors, g.queue, g.exceptions, g.exemptions, g.seqr)) : P h := by
  simp only [Prod.mk.injEq] at same
  obtain ⟨hd, hq, hx, hm, hs⟩ := same
  exact I.still (.ofSides hd hq hx hm hs) hg

theorem upd {f : Door → Door} (hf : ∀ x, (f x).eng.state = x.eng.state) (hg : P g) :
    P (g.upd e d f) :=
  I.still ((Still.refl g).upd (hf _)) hg

/-! ### The runs -/

theorem classify {p : Fin 8} {k : Nat} (hg : P g) : P (classify e p k d g) := by
  unfold Machine.classify; dsimp only
  split
  · exact I.still (Still.refl g).recordOutcome hg
  · split
    · exact I.targetSet hg
    · split
      · exact I.still (Still.refl g).recordOutcome hg
      · split
        · exact I.still (Still.refl g).recordOutcome hg
        · split
          · split
            · exact I.still ((Still.refl g).mapRun (fun _ => rfl)) hg
            · exact I.targetSet hg
          · exact I.targetSet hg

theorem beginStep {k : Nat} (hg : P g) : P (beginStep e k g) := by
  unfold Machine.beginStep
  split
  · exact hg
  · next r hr =>
    dsimp only
    apply I.still ((Still.refl _).mapRun (fun r => Run.judgeAll_program e r))
    apply forDoors_keeps (fun _ _ h => I.classify h)
    apply I.still ((Still.refl g).setRun hr _) hg
    split <;> rfl

theorem runDue (n : Nat) (hg : P g) : P (runDue e n g) := by
  induction n generalizing g with
  | zero => exact hg
  | succ n ih =>
    unfold Machine.runDue
    split
    · exact hg
    · next r hr =>
      split
      · exact ih (I.beginStep hg)
      · split
        · exact ih (I.completeRun hr hg)
        · exact hg

theorem settle (hg : P g) : P (settle e g) := I.runDue 64 hg

theorem abortActive (hg : P g) : P (abortActive e g) := by
  unfold Machine.abortActive
  split
  · exact I.endRun (forDoors_keeps (fun _ _ h => I.abortDoor h) hg)
  · exact I.endRun hg

/-! ### Expected postures and learning -/

theorem giveExpected (hg : P g) : P (giveExpected e d g) := by
  unfold Machine.giveExpected
  split
  · exact I.targetSet hg
  · exact hg

theorem tryInitial (hg : P g) : P (tryInitial e g) := by
  unfold Machine.tryInitial
  split
  · exact I.sides (forDoors_keeps (fun _ _ h => I.giveExpected h) hg) rfl
  · exact hg

theorem testLearning (hg : P g) : P (testLearning e g) := by
  unfold Machine.testLearning
  split
  · exact I.tryInitial (I.consider (I.sides hg rfl))
  · exact hg

theorem learn (hg : P g) : P (learn e d g) :=
  I.testLearning (I.consider (I.still (Still.refl g).setCharge hg))

theorem reenable (hg : P g) : P (reenable e d g) := by
  unfold Machine.reenable; dsimp only
  split
  · exact hg
  · apply I.evaluateWatch
    split
    · exact I.still (Still.refl g).enableOn hg
    · exact I.still (Still.refl g).enableOff hg

/-! ### Doors that come and go -/

theorem becomeFitted (hg : P g) : P (becomeFitted e d g) := by
  unfold Machine.becomeFitted; dsimp only
  apply I.testLearning
  split
  · exact I.returnToService (I.replaceDoor rfl hg)
  · exact I.replaceDoor rfl hg

theorem ceaseFitted (hg : P g) : P (ceaseFitted e d g) := by
  unfold Machine.ceaseFitted; dsimp only
  split
  · exact hg
  · exact I.testLearning (I.consider (I.still (((Still.refl _).clearLive.setCharge).upd rfl) (I.takeOutOfService hg)))

theorem syncFitted {was : Bool} (hg : P g) : P (syncFitted e was d g) := by
  unfold Machine.syncFitted
  split
  · exact I.becomeFitted hg
  · split
    · exact I.ceaseFitted hg
    · exact hg

theorem reconcileProfile (hg : P g) : P (reconcileProfile e d g) := by
  unfold Machine.reconcileProfile; dsimp only
  repeat' first | with_reducible assumption | with_reducible apply I.takeOutOfService | with_reducible apply I.returnToService | split

theorem rekindDoor (hg : P g) : P (rekindDoor old e d g) := by
  unfold Machine.rekindDoor; dsimp only
  split
  · exact hg
  · split
    · exact I.still ((Still.refl g).updEng rfl) hg
    · exact I.consider (I.still ((Still.refl g).setCharge.updEng rfl) hg)

theorem doorChanged (hg : P g) : P (doorChanged old e d g) := by
  unfold Machine.doorChanged; dsimp only
  apply I.reconcileProfile
  split
  · exact I.syncFitted hg
  · exact I.reenable (I.rekindDoor (I.still (Still.refl _).clearSupervision (I.syncFitted hg)))

theorem remapDoor (hg : P g) : P (remapDoor old e d g) := by
  unfold Machine.remapDoor; dsimp only
  apply I.reenable
  refine I.still (Still.refl _).clearReference ?_
  split
  · exact I.still (Still.refl _).clearSupervision hg
  · exact hg

theorem profileChanged (hg : P g) : P (profileChanged old e d g) := by
  unfold Machine.profileChanged; dsimp only
  apply I.reconcileProfile
  split
  · exact I.remapDoor (I.rekindDoor hg)
  · exact I.rekindDoor hg

theorem fieldWritten {field : Nat} (hg : P g) : P (fieldWritten field old e d g) := by
  unfold Machine.fieldWritten; dsimp only
  apply I.reconcileProfile
  repeat' first | with_reducible assumption | with_reducible apply I.evaluateWatch | with_reducible apply I.remapDoor | split

theorem doorWritten {field : Nat} (hg : P g) : P (doorWritten field d old e g) := by
  unfold Machine.doorWritten
  split
  · exact I.doorChanged (I.still (Still.refl _).clearSupervision hg)
  · exact I.doorChanged hg

theorem judgeFireIn {active : Bool} (hg : P g) : P (judgeFireIn active g) := by
  unfold Machine.judgeFireIn
  split
  · exact hg
  · exact I.sides hg rfl

theorem segmentChanged {high : Bool} (hg : P g) : P (segmentChanged high old e g) := by
  unfold Machine.segmentChanged; dsimp only
  apply I.judgeFireIn
  split
  · exact hg
  · exact I.consider hg

theorem segmentWritten {high : Bool} {field : Nat} (hg : P g) : P (segmentWritten high field old e g) := by
  unfold Machine.segmentWritten; dsimp only
  apply I.judgeFireIn
  split
  · exact I.consider hg
  · exact hg

theorem storedEffect {t : TableName} (hg : P g) : P (storedEffect t old e g) := by
  unfold Machine.storedEffect
  split
  · exact forDoors_keeps (fun _ _ h => I.doorChanged h) hg
  · exact forDoors_keeps (fun _ _ h => I.profileChanged h) hg
  · exact hg

theorem restoredEffect {high : Bool} {t : TableName} (hg : P g) : P (restoredEffect high t old e g) := by
  unfold Machine.restoredEffect
  split
  · exact I.segmentChanged hg
  · exact forDoors_keeps (fun _ _ h => I.doorChanged h) hg
  · exact forDoors_keeps (fun _ _ h => I.profileChanged h) hg
  · exact hg

/-! ### Replies -/

theorem superviseCompared {i : Nat} (hg : P g) : P (superviseCompared e d i g) := by
  unfold Machine.superviseCompared; dsimp only
  repeat' first
    | with_reducible assumption
    | with_reducible apply I.supervisionFault
    | apply I.still (Still.refl _).setSupervision
    | apply I.still (Still.refl _).clearLive
    | split

theorem supervise {apply lock : Bool} {i : Nat} (hg : P g) : P (supervise e d apply lock i g) := by
  unfold Machine.supervise
  split
  · exact I.superviseCompared hg
  · exact hg

theorem takeFirstReply {r : Reply} (hg : P g) : P (takeFirstReply e d r g) := by
  unfold Machine.takeFirstReply; dsimp only
  split
  · exact hg
  · split
    · exact I.learn (I.upd (fun _ => rfl) hg)
    · exact I.upd (fun _ => rfl) hg

theorem positionEvent {o : Bool} (hg : P g) : P (positionEvent e d o g) := by
  unfold Machine.positionEvent
  split
  · exact I.positionOpen (I.evaluateWatch (I.still (Still.refl g).monitorOpen hg))
  · exact I.positionClosed (I.evaluateWatch (I.still (Still.refl g).monitorClose hg))

theorem terminalEvents {was now : Inputs} (hg : P g) : P (terminalEvents e d was now g) := by
  unfold Machine.terminalEvents; dsimp only
  repeat' first
    | with_reducible assumption
    | with_reducible apply I.positionEvent
    | with_reducible apply I.exitRequested
    | apply I.still (Still.refl _).tamperBegins
    | split

theorem takeEvents {was now : Inputs} (hg : P g) : P (takeEvents e d was now g) := by
  unfold Machine.takeEvents
  apply I.still (Still.refl _).tamperCheck
  split
  · exact I.terminalEvents hg
  · exact I.upd (fun _ => rfl) hg

theorem takeReply {apply lock found : Bool} {r : Reply} (hg : P g) : P (takeReply e d apply lock found r g) := by
  unfold Machine.takeReply; dsimp only
  apply I.readVerifying
  have taken := I.still ((Still.refl _).takeCondition (e := e) (d := d) (r := r)) (I.takeFirstReply (e := e) (d := d) (r := r)
    (I.upd (e := e) (d := d) (f := fun x => { x with inputs := namedInputs (e.profile d) r }) (fun _ => rfl) hg))
  have supervised := I.supervise (e := e) (d := d) (apply := apply) (lock := lock) (i := r.current)
    (I.takeEvents (e := e) (d := d) (was := (g.door d).inputs) (now := namedInputs (e.profile d) r) taken)
  have posted := I.reenable (e := e) (d := d) (I.still ((Still.refl _).takePulse (e := e) (d := d) (r := r)
    |>.postWithheld (e := e) (d := d) (waited := (g.door d).awaitsPulse (e.profile d))) supervised)
  split
  · exact I.foundNotice posted
  · exact posted

theorem becomeLost (hg : P g) : P (becomeLost e d g) := by
  unfold Machine.becomeLost; dsimp only
  have lost := I.reenable (e := e) (d := d) (I.lostNotice (e := e) (d := d) (I.upd (e := e) (d := d)
    (f := fun x => { x with drop := { x.drop with lost := true, reference := false } }) (fun _ => rfl) hg))
  split
  · exact lost
  · exact I.testLearning lost

theorem missReply (hg : P g) : P (missReply e d g) := by
  unfold Machine.missReply; dsimp only
  split
  · exact I.becomeLost (I.upd (fun _ => rfl) hg)
  · exact I.upd (fun _ => rfl) hg

theorem goodReply {apply lock : Bool} {r : Reply} (hg : P g) : P (goodReply e d apply lock r g) := by
  unfold Machine.goodReply; dsimp only
  split
  · exact I.takeReply (I.upd (fun _ => rfl) hg)
  · split
    · exact I.takeReply (I.upd (fun _ => rfl) (I.upd (fun _ => rfl) hg))
    · exact I.upd (fun _ => rfl) hg

theorem endVisit {b : BranchNo} {k : DropNo} (hg : P g) : P (endVisit e b k g) := by
  unfold Machine.endVisit; dsimp only
  apply I.still (Still.refl _).updBranch
  split
  · exact I.endLastVisit hg
  · exact hg

theorem replyEnd {b : BranchNo} {received : List Reception} (hg : P g) : P (replyEnd e b received g) := by
  unfold Machine.replyEnd; dsimp only
  split
  · exact hg
  · apply I.endVisit
    split
    · exact I.goodReply hg
    · exact I.missReply hg

theorem slotStart {b : BranchNo} (hg : P g) : P (slotStart e b g) := by
  unfold Machine.slotStart; dsimp only
  split
  · exact hg
  · split
    · unfold Machine.beginVisit; dsimp only
      apply I.still (Still.refl _).updBranch
      refine I.upd (fun _ => rfl) ?_
      split
      · exact I.sides hg rfl
      · exact hg
    · exact hg

theorem faultDrop (hg : P g) : P (faultDrop e d g) := by
  unfold Machine.faultDrop; dsimp only
  split
  · split
    · exact I.upd (fun _ => rfl) hg
    · exact I.becomeLost (I.upd (fun _ => rfl) hg)
  · exact hg

theorem lineFaults {b : BranchNo} (hg : P g) : P (lineFaults e b g) := by
  unfold Machine.lineFaults
  split
  · exact hg
  · exact forDoors_keeps (fun _ _ h => I.faultDrop h) (I.still (Still.refl g).updBranch hg)

/-! ### Fire -/

theorem setLatch {cause : LatchCause} (hg : P g) : P (setLatch e cause g) := by
  unfold Machine.setLatch; dsimp only
  split
  · exact hg
  · apply forDoors_keeps (fun _ _ h => I.fireDoor h)
    refine I.endRun (g := { Machine.forDoors allDoors (Machine.cancelPulse e) (setLatchFlag e cause g) with seqr := _ }) ?_
    refine I.still ((Still.refl _).mapRun (fun _ => rfl)) ?_
    apply forDoors_keeps (fun _ g h => I.still (Still.refl g).cancelPulse h)
    apply I.still _ hg
    refine ⟨rfl, fun d => ?_, id, rfl, rfl, rfl⟩
    rw [setLatchFlag_door]
    split <;> rfl

theorem fireHeader {c : SiteCommand} (hg : P g) : P (fireHeader e c g) := by
  unfold Machine.fireHeader; dsimp only
  split
  · exact I.setLatch (I.sides hg rfl)
  · exact I.sides hg rfl

theorem persistenceEnd (hg : P g) : P (persistenceEnd e g) := by
  unfold Machine.persistenceEnd
  split
  · exact I.setLatch (I.sides hg rfl)
  · exact hg

theorem clearLatch (hg : P g) : P (clearLatch e g) :=
  forDoors_keeps (fun _ _ h => I.restoreDoor h) (I.consider (I.sides hg rfl))

/-! ### Exemptions and group commands -/

theorem setAll {p : Posture} {ds : List DoorNo} (hg : P g) : P (setAll e p ds g) :=
  forDoors_keeps (fun _ _ h => I.targetSet h) hg

theorem afterRemoval {removed : Posture} (hg : P g) : P (afterRemoval e removed d g) := by
  unfold Machine.afterRemoval
  split
  · exact I.giveExpected hg
  · split
    · exact hg
    · exact I.targetSet hg

theorem removeExemption {k : Fin 16} (hg : P g) : P (removeExemption e k g) := by
  unfold Machine.removeExemption
  split
  · exact hg
  · exact forDoors_keeps (fun _ _ h => I.afterRemoval h) (I.filterExemptions hg)

theorem removeAll (ks : List (Fin 16)) (hg : P g) : P (removeAll e ks g) := by
  unfold Machine.removeAll
  induction ks generalizing g with
  | nil => exact hg
  | cons k ks ih => exact ih (I.removeExemption hg)

theorem expireAt {m : Nat} (hg : P g) : P (expireAt e m g) := I.removeAll _ hg

theorem rolloverExemptions (hg : P g) : P (rolloverExemptions e g) := I.removeAll _ (I.turnExemptions hg)

theorem exempt {keep : Posture} {sc : Scope} {arg : BitVec 12} (hg : P g) : P (exempt e keep sc arg g).2 := by
  unfold Machine.exempt; dsimp only
  split
  · exact hg
  · split
    · next h => exact I.setAll (I.addExemption (Bool.and_eq_true_iff.1 h).2 hg)
    · exact hg

theorem decodeCommand {c : CommandCode} {sc : Scope} {arg : BitVec 12} (hg : P g) : P (decodeCommand c sc arg e g).2 := by
  cases c with
  | secureGroup => unfold Machine.decodeCommand Machine.secureGroup; dsimp only; split <;> [exact hg; exact I.setAll hg]
  | releaseGroup => unfold Machine.decodeCommand Machine.releaseGroup; dsimp only; split <;> [exact hg; exact I.setAll hg]
  | exemptReleased => exact I.exempt hg
  | exemptSecured => exact I.exempt hg
  | endExemption =>
    unfold Machine.decodeCommand Machine.endExemption; dsimp only
    split <;> [exact hg; exact I.removeExemption hg]
  | resumeSchedule =>
    unfold Machine.decodeCommand Machine.resumeSchedule; dsimp only
    split <;> [exact hg; exact forDoors_keeps (fun _ _ h => I.giveExpected h) hg]
  | startProgram =>
    unfold Machine.decodeCommand Machine.startProgram; dsimp only
    split
    · exact hg
    · split <;> [exact I.startRequest hg; exact hg]
  | abortRun =>
    unfold Machine.decodeCommand Machine.abortRun; dsimp only
    split <;> [exact hg; exact I.abortActive hg]
  | fireRestore =>
    unfold Machine.decodeCommand Machine.fireRestore; dsimp only
    split
    · exact hg
    · split
      · exact hg
      · split <;> dsimp only <;> [exact I.clearLatch hg; exact hg]

/-! ### The clock, on the whole state -/

variable {s : State}

theorem settled (hs : P s.seg) : P (settled s).seg := I.settle hs

theorem fireEntry {m i : Nat} (hs : P s.seg) : P (fireEntry m i s).seg := by
  unfold Machine.fireEntry
  split
  · exact hs
  · dsimp only; split <;> [exact I.startRequest hs; exact hs]

theorem fireMinute {m : Nat} (hs : P s.seg) : P (fireMinute m s).seg := by
  apply I.settled
  generalize List.range 6 = is
  induction is generalizing s with
  | nil => exact hs
  | cons i is ih => exact ih (I.fireEntry hs)

theorem tellMinute {m : Nat} (hs : P s.seg) : P (tellMinute m s).seg := I.settle (I.expireAt hs)

theorem boundary (hs : P s.seg) : P (boundary s).seg := by
  have drawn : P { s.seg with free := s.seg.free + 1 } := I.sides hs rfl
  unfold Machine.boundary; dsimp only
  split
  · exact I.fireMinute (I.tellMinute (s := { s with seg := _ }) drawn)
  · exact I.tellMinute (I.fireMinute (s := { s with seg := _ }) drawn)

theorem rollover (hs : P s.seg) : P (rollover s).seg := I.settle (I.rolloverExemptions hs)

theorem secondPasses (hs : P s.seg) : P (secondPasses s).seg := by
  unfold Machine.secondPasses
  split
  · exact hs
  · dsimp only
    repeat' first | with_reducible assumption | with_reducible apply I.boundary | with_reducible apply I.rollover | exact hs | split

theorem secondsPass (n : Nat) (hs : P s.seg) : P (secondsPass n s).seg := by
  induction n generalizing s with
  | zero => exact hs
  | succ n ih => exact ih (I.secondPasses hs)

theorem tick (hs : P s.seg) : P (tick s).seg := I.settled (I.secondPasses (s := restartPhase s) hs)

theorem clockStep {dd : Int} {c : Nat} {h : Header} (hs : P s.seg) : P (clockStep dd c h s).seg := by
  unfold Machine.clockStep; dsimp only
  apply I.tellMinute
  rw [seg!_seg]
  apply I.still (Still.refl _).listException
  rw [setDayTypes_seg]
  have set : P (if dd = 0 then restartPhase (s.atSecond h.second) else headerRestarts (s.atSecond h.second)).seg := by
    split <;> exact hs
  split <;> [exact I.rollover set; exact set]

theorem trackingHeader {h : Header} (hs : P s.seg) : P (trackingHeader h s).seg := by
  unfold Machine.trackingHeader; dsimp only
  split
  · exact I.settle (I.tryInitial hs)
  · split
    · exact hs
    · exact hs
    · exact I.secondsPass (s := { s with clock := _ }) _ hs
    · exact I.clockStep (s := { s with clock := _ }) hs

/-! ### Requests, command slots, records -/

omit I in
theorem changeTables {w : Tables} {f : Env → Env → Segment → Segment} (hf : ∀ old e g, P g → P (f old e g)) (hs : P s.seg) :
    P (changeTables w f s).seg := hf _ _ _ hs

theorem storeEntryDone (hs : P s.seg) : P (storeEntryDone s).seg := by
  unfold Machine.storeEntryDone
  split
  · exact hs
  · dsimp only
    split
    · exact hs
    · exact I.settled (changeTables (s := { s with stored := _, store := _ }) (fun _ _ _ h => I.storedEffect h) hs)

theorem restoreTable {t : TableName} (hs : P s.seg) : P (restoreTable t s).seg := by
  unfold Machine.restoreTable; dsimp only
  exact I.settled (changeTables (s := { s with clock := _ })
    (fun _ _ g h => I.restoredEffect (I.still ((Still.refl g).listMany _) h)) hs)

theorem serveWrite {table i field : Nat} {v : Value} (hs : P s.seg) : P (serveWrite table i field v s).state.seg := by
  unfold Machine.serveWrite
  split
  · exact hs
  · split
    · next t _ =>
      unfold Machine.writeStored
      split
      · exact hs
      · cases t with
        | segment =>
          unfold serveWriteSegment; dsimp only
          split <;> [exact hs; exact I.settled (changeTables (fun _ _ _ h => I.segmentWritten h) hs)]
        | slotmap =>
          unfold serveWriteSlotmap; dsimp only
          split <;> [exact hs; split <;> exact hs]
        | groupmap =>
          unfold serveWriteGroupmap; dsimp only
          split <;> [exact hs; split <;> exact hs]
        | door =>
          unfold serveWriteDoor; dsimp only
          split
          · split
            · exact hs
            · split <;> [exact hs; exact I.settled (changeTables (fun _ _ _ h => I.doorWritten h) hs)]
          · exact hs
        | profile =>
          unfold serveWriteProfile; dsimp only
          split
          · split
            · exact hs
            · split
              · exact hs
              · exact I.settled (changeTables (fun _ _ _ h => forDoors_keeps (fun _ _ h => I.fieldWritten h) h) hs)
          · exact hs
        | program =>
          unfold serveWriteProgram; dsimp only
          split
          · exact hs
          · split
            · exact hs
            · split <;> exact hs
        | dayplan =>
          unfold serveWriteDayplan; dsimp only
          split <;> [exact hs; split <;> exact hs]
    · have passage : ∀ high v', P (serveWritePassage i high v' s).state.seg := by
        intro high v'
        unfold serveWritePassage; dsimp only
        split
        · rw [seg!_seg]
          exact I.still (Still.refl s.seg).updMon hs
        · exact hs
      unfold writeRuntime
      split
      · exact passage _ _
      · split
        · exact passage _ _
        · exact hs

theorem serveDoorService {i v : Nat} (hs : P s.seg) : P (serveDoorService i v s).state.seg := by
  have marked : ∀ {e d on g}, P g → P (setServiceMark e d on g) := fun {_ _ _ g} h => I.still ((Still.refl g).updEng rfl) h
  unfold Machine.serveDoorService
  split
  · exact hs
  · exact hs
  · dsimp only
    split
    · exact hs
    · apply I.settled
      rw [seg!_seg]
      split
      · exact I.returnToService (marked hs)
      · exact I.takeOutOfService (marked hs)

theorem serve {q : Request} (hs : P s.seg) : P (serve q s).state.seg := by
  have drawn : ∀ {g n}, P g → P { g with free := n } := fun {g _} h => I.sides h rfl
  unfold Machine.serve; dsimp only
  split
  · exact hs
  · unfold serveRead; split <;> exact hs
  · exact I.serveWrite hs
  · exact I.serveDoorService hs
  · unfold serveClearEvents
    split
    · exact hs
    · refine drawn ?_
      rw [seg!_seg]
      exact I.still ((Still.refl s.seg).updEng rfl) hs
  · unfold serveResetFault
    split
    · exact hs
    · exact I.settled (I.resetFaultDoor hs)
  · unfold serveClearException
    split
    · exact hs
    · split
      · exact hs
      · exact I.filterExceptions hs
  · unfold serveStore
    split
    · exact hs
    · split <;> exact hs
  · unfold serveRestore
    split
    · exact hs
    · split
      · exact hs
      · split
        · exact hs
        · exact I.restoreTable hs
  · unfold serveRestart
    split
    · exact hs
    · exact drawn hs

theorem managementSlot {r : TrunkRecord} {q : Request} (hs : P s.seg) : P (managementSlot r q s).seg := by
  unfold Machine.managementSlot; dsimp only
  split
  · exact I.serve hs
  · split
    · exact I.serve hs
    · exact hs

theorem commandSlot {r : TrunkRecord} {c : CommandCode} {x : CommandSlot} (hs : P s.seg) : P (commandSlot r c x s).seg := by
  unfold Machine.commandSlot
  split
  · exact hs
  · dsimp only
    split
    · exact I.settle (I.decodeCommand hs)
    · exact I.decodeCommand hs

theorem recordArrives {r : TrunkRecord} (hs : P s.seg) : P (recordArrives r s).seg := by
  unfold Machine.recordArrives
  split
  · split
    · exact hs
    · unfold headerArrives
      split
      · unfold validHeaderArrives; dsimp only
        apply I.settled
        rw [seg!_seg]
        apply I.fireHeader
        split
        · exact I.trackingHeader hs
        · exact hs
      · exact hs
    · split
      · unfold slotArrives
        split
        · exact hs
        · split
          · exact hs
          · exact I.managementSlot hs
        · split
          · exact hs
          · exact I.commandSlot hs
        · exact hs
      · exact hs
  · exact hs

theorem requestArrives {q : Request} (hs : P s.seg) : P (requestArrives q s).seg := by
  unfold Machine.requestArrives; dsimp only
  split
  · exact I.managementSlot hs
  · exact I.recordArrives hs

theorem commandArrives {c : CommandCode} {x : CommandSlot} (hs : P s.seg) : P (commandArrives c x s).seg := by
  unfold Machine.commandArrives; dsimp only
  split
  · exact I.commandSlot hs
  · exact I.recordArrives hs

/-! ### Resets -/

theorem listWaiting (hg : P g) : P (listWaiting e g) :=
  I.still ((Still.refl g).listMany _ |>.forgetDrops.listMany _) hg

theorem loadEnds {high : Bool} (hg : P g) : P (loadEnds high e g) := by
  have started : P (startClocks e (startPollers e (Machine.enterDoors e g))) :=
    I.still (Still.refl _).startPollers.startClocks (I.enterDoors hg)
  exact I.tryInitial (I.testLearning (I.listWaiting (I.judgeFireIn started)))

theorem completeLoad (hs : P s.seg) : P (completeLoad s).seg := by
  unfold Machine.completeLoad; dsimp only
  split
  · exact I.settle (I.loadEnds hs)
  · exact hs

/-! ### Time -/

theorem runSegment {f : Env → Segment → Segment} (hf : ∀ e g, P g → P (f e g)) (hs : P s.seg) : P (runSegment f s).seg := by
  unfold Machine.runSegment Machine.whenRunning
  split
  · exact I.settle (hf _ _ hs)
  · exact hs

theorem advance (hg : P g) : P g.advance := by
  apply I.still _ hg
  refine ⟨rfl, fun d => ?_, id, rfl, rfl, ?_⟩
  · simp only [Segment.advance, Segment.door, vmap_get]; rfl
  · simp only [Segment.advance]; cases g.seqr.run <;> rfl

theorem deferralCount (hg : P g) : P (deferralCount e d g) := by
  unfold Machine.deferralCount; dsimp only
  split
  · split
    · have counted := I.still ((Still.refl g).updEng (e := e) (d := d) (f := fun x => { x with deferralSub := 0 }) rfl) hg
      split
      · exact counted
      · split
        · exact I.deferralEnd counted
        · exact I.still ((Still.refl _).updEng rfl) counted
    · exact hg
  · exact hg

theorem deferralExpires (hg : P g) : P (deferralExpires e d g) := by
  unfold Machine.deferralExpires; dsimp only
  split
  · split <;> [exact I.deferralEnd hg; exact hg]
  · exact hg

theorem sinceStep (hg : P g) : P (sinceStep e d g) := by
  unfold Machine.sinceStep
  split
  · exact hg
  · exact I.evaluateWatch (I.still (Still.refl g).updMon hg)

theorem tailEnd (hg : P g) : P (tailEnd e d g) := by
  unfold Machine.tailEnd
  split
  · exact I.consider (I.still (Still.refl g).setCharge hg)
  · exact hg

theorem timerExpires (hg : P g) : P (timerExpires e d g) := by
  unfold Machine.timerExpires
  split
  · exact I.warningEnd hg
  · exact I.runTimerEnd hg
  · exact I.verifyFailed hg
  · exact I.shuntEnd hg
  · exact I.coolingEnd hg
  · exact I.still (Still.refl g).exitWindowEnd hg
  · exact hg

theorem doorExpiries (hg : P g) : P (doorExpiries e d g) := by
  unfold Machine.doorExpiries timerUnit tailTick; dsimp only
  repeat' first
    | with_reducible assumption
    | with_reducible apply I.timerExpires
    | with_reducible apply I.deferralCount
    | with_reducible apply I.tailEnd
    | with_reducible apply I.sinceStep
    | with_reducible apply I.still (Still.refl _).dwellStep
    | with_reducible apply I.still (Still.refl _).setCharge
    | with_reducible apply I.still ((Still.refl _).updEng _)
    | split
    | rfl

theorem stepSecond {k : Nat} (hg : P g) : P (stepSecond e k g) := I.still ((Still.refl g).mapRun (fun _ => rfl)) hg

theorem stepDue {k : Nat} (hg : P g) : P (stepDue e k g) := I.still ((Still.refl g).mapRun (fun _ => rfl)) hg

theorem stepExpiries (hg : P g) : P (stepExpiries e g) := by
  unfold Machine.stepExpiries
  generalize List.range 10 = is
  induction is generalizing g with
  | nil => exact hg
  | cons i is ih =>
    rw [List.foldl_cons]
    apply ih
    repeat' first | with_reducible assumption | with_reducible apply I.settle | with_reducible apply I.stepSecond | split

theorem windowEnd (hg : P g) : P (windowEnd e g) := by
  apply forDoors_keeps (fun _ _ h => I.evaluateWatch h)
  apply I.still _ hg
  exact ⟨rfl, fun d => by simp only [Segment.door, vmap_get], id, rfl, rfl, rfl⟩

theorem segmentMs (hg : P g) : P (segmentMs e g) := by
  unfold Machine.segmentMs
  apply I.stepExpiries
  apply forDoors_keeps (fun _ _ h => I.doorExpiries h)
  have flash : ∀ {g}, P g → P (flashMsPasses g) := by
    intro g h; unfold flashMsPasses; split <;> exact I.sides h rfl
  have persist : ∀ {g}, P g → P (persistenceMs e g) := by
    intro g h; unfold persistenceMs
    split
    · exact h
    · split
      · exact I.sides h rfl
      · exact I.persistenceEnd h
  unfold windowMs
  split
  · exact I.sides (flash (persist hg)) rfl
  · exact I.windowEnd (flash (persist hg))

theorem storeMs (hs : P s.seg) : P (storeMs s).seg := by
  unfold Machine.storeMs
  split
  · exact hs
  · split
    · exact hs
    · exact I.storeEntryDone hs

theorem elapse (hs : P s.seg) : P (elapse s).seg := by
  unfold Machine.elapse unlessHeld
  split
  · exact hs
  · dsimp only
    have advanced : P (if s.power = .running then { s with seg := s.seg.advance } else s).seg := by
      split <;> [exact I.advance hs; exact hs]
    have header : ∀ {s : State}, P s.seg → P (headerMs s).seg := by
      intro s h; unfold headerMs; repeat' first | exact h | split
    have clock : ∀ {s : State}, P s.seg → P (clockMs s).seg := by
      intro s h; unfold clockMs; dsimp only; split <;> [exact h; exact I.tick (s := setJustSet false s) h]
    have run := I.runSegment (f := Machine.segmentMs) (fun _ _ h => I.segmentMs h) (clock (header advanced))
    exact whenRunning_keeps (fun _ h => I.storeMs h) run

/-! ### One step -/

theorem exec {c : Instr} (hs : P s.seg) : ∃ t, exec c s = .next t ∧ P t.seg := by
  cases c with
  | powerOn | resetNRelease => exact ⟨_, rfl, I.initial _ _⟩
  | resetNAssert => exact ⟨_, rfl, I.initial _ _⟩
  | tableLoadComplete => exact ⟨_, rfl, I.completeLoad hs⟩
  | frameStart | frameTruncated | frameEnd => exact ⟨_, rfl, whenInserted_keeps hs⟩
  | headerRecord | slotRecord | statusSlot => exact ⟨_, rfl, I.recordArrives hs⟩
  | headerTimeout => exact ⟨_, rfl, unlessHeld_keeps (fun _ h => h) hs⟩
  | read | write | writeSlotmap | writeGroupmap | writeDoor | writeProfile | writeProgram | writeDayplan | writeSegment
  | writePassageCounter | doorServiceOut | doorServiceReturn | clearDoorEvents | resetFault | clearException | store | restore
  | restart | unknownRequestKind => exact ⟨_, rfl, I.requestArrives hs⟩
  | secureGroup | releaseGroup | resumeSchedule | exemptReleased | exemptSecured | endExemption | startProgram | abortRun
  | fireRestore => exact ⟨_, rfl, I.commandArrives hs⟩
  | storeEntryComplete => exact ⟨_, rfl, whenRunning_keeps (fun _ h => I.storeEntryDone h) hs⟩
  | restartBegin =>
    refine ⟨_, rfl, whenRunning_keeps (fun s h => ?_) hs⟩
    split <;> [exact I.initial _ _; exact h]
  | clockTick =>
    refine ⟨_, rfl, unlessHeld_keeps (fun s h => ?_) hs⟩
    unfold tickArrives
    split <;> [exact h; exact I.tick h]
  | fireInChange => exact ⟨_, rfl, whenRunning_keeps (fun _ h => I.judgeFireIn h) (s := { s with fireInHigh := _ }) hs⟩
  | firePersistenceExpiry => exact ⟨_, rfl, I.runSegment (fun _ _ h => I.persistenceEnd h) hs⟩
  | branchSlotStart => exact ⟨_, rfl, whenRunning_keeps (fun _ h => I.slotStart h) hs⟩
  | replyWindowEnd => exact ⟨_, rfl, I.runSegment (fun _ _ h => I.replyEnd h) hs⟩
  | lineFault => exact ⟨_, rfl, unlessHeld_keeps (fun _ h => I.settle (I.lineFaults h)) hs⟩
  | lineNormal => exact ⟨_, rfl, unlessHeld_keeps (fun s h => I.sides (g := s.seg) h rfl) hs⟩
  | flashPhaseFlip => exact ⟨_, rfl, whenRunning_keeps (fun s h => I.sides (g := s.seg) h rfl) hs⟩
  | dwellTick => exact ⟨_, rfl, I.runSegment (fun _ g h => I.still (Still.refl g).dwellStep h) hs⟩
  | proppedBegins => exact ⟨_, rfl, I.runSegment (fun _ g h => I.still (Still.refl g).proppedNow h) hs⟩
  | timeSinceCloseTick => exact ⟨_, rfl, I.runSegment (fun _ _ h => I.sinceStep h) hs⟩
  | windowExpiry => exact ⟨_, rfl, I.runSegment (fun _ _ h => I.windowEnd h) hs⟩
  | tailExpiry => exact ⟨_, rfl, I.runSegment (fun _ _ h => I.tailEnd h) hs⟩
  | deferralSecond => exact ⟨_, rfl, I.runSegment (fun _ _ h => I.deferralCount h) hs⟩
  | deferralExpiry => exact ⟨_, rfl, I.runSegment (fun _ _ h => I.deferralExpires h) hs⟩
  | warningExpiry => exact ⟨_, rfl, I.runSegment (fun _ _ h => I.warningEnd h) hs⟩
  | runTimerExpiry => exact ⟨_, rfl, I.runSegment (fun _ _ h => I.runTimerEnd h) hs⟩
  | verifyExpiry => exact ⟨_, rfl, I.runSegment (fun _ _ h => I.verifyFailed h) hs⟩
  | exitShuntExpiry => exact ⟨_, rfl, I.runSegment (fun _ _ h => I.shuntEnd h) hs⟩
  | exitWindowExpiry => exact ⟨_, rfl, I.runSegment (fun _ g h => I.still (Still.refl g).exitWindowEnd h) hs⟩
  | coolingExpiry => exact ⟨_, rfl, I.runSegment (fun _ _ h => I.coolingEnd h) hs⟩
  | stepOffsetSecond => exact ⟨_, rfl, I.runSegment (fun _ _ h => I.stepSecond h) hs⟩
  | stepStart => exact ⟨_, rfl, I.runSegment (fun _ _ h => I.stepDue h) hs⟩

/-- A predicate that every operation of the segment keeps holds through every step. -/
theorem step {t : State} (hs : P s.seg) (h : step s = .next t) : P t.seg := by
  unfold Machine.step at h
  split at h
  · obtain rfl := Host.Outcome.next.inj h
    exact I.elapse hs
  · next c rest _ =>
    obtain ⟨u, hu, hP⟩ := I.exec (c := c) (s := { s with pending := rest }) hs
    obtain rfl := Host.Outcome.next.inj (hu.symm.trans h)
    exact hP

end SegmentInvariant

end Sys2Proof.Machine
end

section
/-! The bounded collections of the segment (R87, R139, R159, R173). -/

namespace Sys2Proof.Machine

/-! ## What is kept is bounded -/

theorem RunQueueOk.congr {q q' : Sequencer} (hq : q'.queue = q.queue)
    (hp : q'.run.map (fun r => r.program) = q.run.map (fun r => r.program)) (h : RunQueueOk q) : RunQueueOk q' where
  atMostFour := hq ▸ h.atMostFour
  noneTwice := hq ▸ h.noneTwice
  notActive r hr := by
    rw [hr] at hp
    obtain ⟨r', hr', hpr⟩ := Option.map_eq_some_iff.1 hp.symm
    rw [hq, show r.program = r'.program from hpr.symm]
    exact h.notActive r' hr'
  idle hn := by
    rw [hn, Option.map_none] at hp
    rw [hq]
    exact h.idle (Option.map_eq_none_iff.1 hp.symm)

theorem Kept.segmentOk {g h : Segment} (k : Kept g h) (hg : SegmentOk g) : SegmentOk h :=
  ⟨k.exceptions hg.exceptions, k.exemptions ▸ hg.exemptions, hg.runQueue.congr k.runQueue k.program,
    k.actuation hg.actuation⟩

theorem Still.segmentOk {g h : Segment} (k : Still g h) (hg : SegmentOk g) : SegmentOk h :=
  ⟨k.exceptions hg.exceptions, k.exemptions ▸ hg.exemptions, hg.runQueue.congr k.runQueue k.program, k.queue ▸ hg.actuation⟩

theorem Kept.restoreDoor {g0 g : Segment} {e : Env} {d : DoorNo} (h : Kept g0 g) : Kept g0 (restoreDoor e d g) := by
  unfold Machine.restoreDoor
  split
  · exact h.upd.giveExpected
  · exact h

/-! ## The run queue (R138, R139, R146) -/

theorem RunQueueOk.empty {q : Sequencer} (h : q.queue = []) : RunQueueOk q where
  atMostFour := by simp [h]
  noneTwice := by simp [h]
  notActive := by simp [h]
  idle _ := h

/-- A request that is dropped changes neither the run nor the queue. -/
theorem dropRequest_still (e : Env) (p : Fin 8) (reason : DropReason) (g : Segment) : Still g (dropRequest e p reason g) := by
  unfold dropRequest; dsimp only
  split
  · exact ⟨rfl, fun _ => rfl, id, rfl, rfl, rfl⟩
  · exact ⟨rfl, fun _ => rfl, handException_listed _ _ _ _ _ _, rfl, rfl, rfl⟩

/-- What a request that is not dropped has passed (R138): its program is neither active nor queued, and with a run active there is
room. -/
theorem dropReason_none {e : Env} {p : Fin 8} {g : Segment} (h : dropReason e p g = none) :
    (∀ r, g.seqr.run = some r → r.program ≠ p) ∧ p ∉ g.seqr.queue
      ∧ (g.seqr.run.isSome = true → g.seqr.queue.length < Config.maxRunQueue) := by
  unfold dropReason at h
  simp only [ite_eq_iff, reduceCtorEq, and_false, false_or, and_true, Bool.and_eq_true, decide_eq_true_eq,
    List.contains_iff_mem, not_and, not_le] at h
  obtain ⟨-, -, -, -, hactive, hqueued, hfull⟩ := h
  refine ⟨fun r hr hp => hactive (by simp [hr, hp]), hqueued, hfull⟩

theorem segmentOk_startRun {e : Env} {p : Fin 8} {g : Segment} (hg : SegmentOk g) (hp : p ∉ g.seqr.queue) :
    SegmentOk (startRun e p g) where
  exceptions := hg.exceptions
  exemptions := hg.exemptions
  actuation := hg.actuation
  runQueue :=
    { atMostFour := hg.runQueue.atMostFour
      noneTwice := hg.runQueue.noneTwice
      notActive := fun r hr => by
        obtain rfl := Option.some.inj hr
        exact hp
      idle := fun h => nomatch h }

theorem segmentOk_startRequest {e : Env} {p : Fin 8} {g : Segment} (hg : SegmentOk g) : SegmentOk (startRequest e p g).2 := by
  unfold startRequest
  split
  · exact (dropRequest_still e p _ g).segmentOk hg
  · next hnone =>
    obtain ⟨hactive, hqueued, hroom⟩ := dropReason_none hnone
    split
    · exact segmentOk_startRun hg hqueued
    · next hrun =>
      have hlen := hroom (by simpa [Option.isSome_iff_ne_none] using hrun)
      refine ⟨hg.exceptions, hg.exemptions, ⟨?_, ?_, ?_, ?_⟩, hg.actuation⟩
      · simpa using hlen
      · exact List.nodup_append.2 ⟨hg.runQueue.noneTwice, by simp, by rintro a ha b hb rfl; simp_all⟩
      · intro r hr
        simpa using ⟨hg.runQueue.notActive r hr, hactive r hr⟩
      · intro h
        exact absurd (show g.seqr.run = none from h) (by simpa using hrun)

/-- The active run completes (R146): with none queued no run is active, else the oldest program leaves the queue and runs. -/
theorem segmentOk_completeRun {e : Env} {r : Run} {g : Segment} (hg : SegmentOk g) : SegmentOk (completeRun e r g) := by
  have hq := hg.runQueue.noneTwice
  have hlen := hg.runQueue.atMostFour
  unfold completeRun; dsimp only
  split
  · next hnil => exact ⟨hg.exceptions, hg.exemptions, .empty hnil, hg.actuation⟩
  · next p ps hcons =>
    rw [hcons] at hq hlen
    obtain ⟨hfresh, hps⟩ := List.nodup_cons.1 hq
    have hle : ps.length ≤ Config.maxRunQueue := by
      rw [List.length_cons] at hlen
      omega
    refine ⟨hg.exceptions, hg.exemptions, ⟨hle, hps, fun r hr => ?_, fun h => nomatch h⟩, hg.actuation⟩
    obtain rfl := Option.some.inj hr
    exact hfresh

/-! ## The exemption table (R159, R160) -/

theorem mem_insertExemption {x y : Exemption} {xs : List Exemption} (h : y ∈ insertExemption x xs) : y = x ∨ y ∈ xs := by
  induction xs with
  | nil => simpa [insertExemption] using h
  | cons z zs ih =>
    unfold insertExemption at h
    split at h
    · simpa using h
    · split at h
      · rw [List.mem_cons] at h ⊢
        tauto
      · rcases List.mem_cons.1 h with rfl | h
        · simp
        · rcases ih h with h | h <;> simp [h]

/-- An entry placed in its group leaves the table in ascending local group. -/
theorem insertExemption_pairwise (x : Exemption) {xs : List Exemption} (h : xs.Pairwise (fun a b => a.group < b.group)) :
    (insertExemption x xs).Pairwise (fun a b => a.group < b.group) := by
  induction xs with
  | nil => simp [insertExemption]
  | cons y ys ih =>
    obtain ⟨hy, hys⟩ := List.pairwise_cons.1 h
    unfold insertExemption
    split
    · next hlt => exact List.pairwise_cons.2 ⟨List.forall_mem_cons.2 ⟨hlt, fun z hz => lt_trans hlt (hy z hz)⟩, h⟩
    · next hge =>
      split
      · next heq => exact List.pairwise_cons.2 ⟨fun z hz => heq ▸ hy z hz, hys⟩
      · next hne =>
        refine List.pairwise_cons.2 ⟨fun z hz => ?_, ih hys⟩
        rcases mem_insertExemption hz with rfl | hz
        · exact lt_of_le_of_ne (not_lt.1 hge) (fun h => hne h.symm)
        · exact hy z hz

/-- The table grows by one entry at most. -/
theorem insertExemption_length_le (x : Exemption) (xs : List Exemption) :
    (insertExemption x xs).length ≤ xs.length + 1 := by
  induction xs with
  | nil => simp [insertExemption]
  | cons y ys ih =>
    unfold insertExemption
    split
    · simp
    · split
      · simp
      · simpa using ih

/-- An entry whose group stands in the table takes the place of that entry. -/
theorem insertExemption_length_eq {x : Exemption} {xs : List Exemption} (hs : xs.Pairwise (fun a b => a.group < b.group))
    (h : ∃ y ∈ xs, y.group = x.group) : (insertExemption x xs).length = xs.length := by
  induction xs with
  | nil => simp at h
  | cons y ys ih =>
    obtain ⟨hy, hys⟩ := List.pairwise_cons.1 hs
    obtain ⟨z, hz, hzx⟩ := h
    unfold insertExemption
    split
    · next hlt =>
      rcases List.mem_cons.1 hz with rfl | hz
      · exact absurd hlt (by rw [hzx]; exact lt_irrefl _)
      · exact absurd (lt_trans hlt (hy z hz)) (by rw [hzx]; exact lt_irrefl _)
    · split
      · rfl
      · next hne =>
        rcases List.mem_cons.1 hz with rfl | hz
        · exact absurd hzx.symm hne
        · simp [ih hys ⟨z, hz, hzx⟩]

/-- An exemption that R160 accepts leaves the table within its bounds. -/
theorem exemptionsOk_insert {m expiry : Nat} {nextDay : Bool} {k : Fin 16} {keep : Posture} {n : Nat} {xs : List Exemption}
    (ha : exemptAccepted m expiry nextDay k xs = true) (h : ExemptionsOk xs) :
    ExemptionsOk (insertExemption ⟨k, keep, expiry, n⟩ xs) := by
  obtain ⟨hlen, hsorted⟩ := h
  refine ⟨?_, insertExemption_pairwise _ hsorted⟩
  simp only [exemptAccepted, Bool.and_eq_true, Bool.or_eq_true, List.any_eq_true, beq_iff_eq, decide_eq_true_eq] at ha
  rcases ha.2 with hin | hroom
  · rw [insertExemption_length_eq hsorted hin]
    exact hlen
  · exact (insertExemption_length_le _ _).trans hroom

/-! ## The invariant -/

/-- The bounds of the collections are an invariant of the segment. -/
theorem segmentOk_invariant : SegmentInvariant SegmentOk where
  initial _ _ := ⟨⟨by simp [Segment.initial], by simp [Segment.initial]⟩, ⟨by simp [Segment.initial], by simp [Segment.initial]⟩,
    .empty rfl, by simp [Segment.initial, InRankOrder]⟩
  still k h := k.segmentOk h
  consider h := (Kept.refl _).consider.segmentOk h
  targetSet h := (Kept.refl _).targetSet.segmentOk h
  evaluateWatch h := (Kept.refl _).evaluateWatch.segmentOk h
  positionOpen h := (Kept.refl _).positionOpen.segmentOk h
  positionClosed h := (Kept.refl _).positionClosed.segmentOk h
  exitRequested h := (Kept.refl _).exitRequested.segmentOk h
  supervisionFault h := (Kept.refl _).supervisionFault.segmentOk h
  foundNotice h := (Kept.refl _).foundNotice.segmentOk h
  readVerifying h := (Kept.refl _).readVerifying.segmentOk h
  lostNotice h := (Kept.refl _).lostNotice.segmentOk h
  warningEnd h := (Kept.refl _).warningEnd.segmentOk h
  runTimerEnd h := (Kept.refl _).runTimerEnd.segmentOk h
  verifyFailed h := (Kept.refl _).verifyFailed.segmentOk h
  shuntEnd h := (Kept.refl _).shuntEnd.segmentOk h
  coolingEnd h := (Kept.refl _).coolingEnd.segmentOk h
  deferralEnd h := (Kept.refl _).deferralEnd.segmentOk h
  fireDoor h := (Kept.refl _).fireDoor.segmentOk h
  restoreDoor h := (Kept.refl _).restoreDoor.segmentOk h
  takeOutOfService h := (Kept.refl _).takeOutOfService.segmentOk h
  returnToService h := (Kept.refl _).returnToService.segmentOk h
  replaceDoor _ h := (Kept.refl _).dequeue.putDoor.enterState.segmentOk h
  endLastVisit h := (Kept.refl _).endLastVisit.segmentOk h
  resetFaultDoor h := (Kept.refl _).resetFaultDoor.segmentOk h
  abortDoor h := (Kept.refl _).abortDoor.segmentOk h
  enterDoors h := ((Kept.refl _).forDoors (fun _ _ k => k.enterState)).segmentOk
    ⟨h.exceptions, h.exemptions, h.runQueue, List.Pairwise.nil⟩
  startRequest h := segmentOk_startRequest h
  completeRun _ h := segmentOk_completeRun h
  endRun h := ⟨h.exceptions, h.exemptions, .empty rfl, h.actuation⟩
  addExemption ha h := ⟨h.exceptions, exemptionsOk_insert ha h.exemptions, h.runQueue, h.actuation⟩
  filterExemptions h := ⟨h.exceptions, ⟨(List.length_filter_le _ _).trans h.exemptions.1, h.exemptions.2.filter _⟩, h.runQueue,
    h.actuation⟩
  turnExemptions h := by
    refine ⟨h.exceptions, ⟨by simpa using h.exemptions.1, List.pairwise_map.2 (h.exemptions.2.imp fun {a b} hab => ?_)⟩, h.runQueue,
      h.actuation⟩
    split <;> split <;> exact hab
  filterExceptions h := ⟨listed_filter _ _ h.exceptions, h.exemptions, h.runQueue, h.actuation⟩

/-- Settles O5: the bounds are an invariant of the segment, so every step keeps them. -/
theorem collectionsStayBounded : Obligations.CollectionsStayBounded :=
  fun _ _ hs h => segmentOk_invariant.step hs h

end Sys2Proof.Machine
end

section
/-! The actuation queue holds exactly the doors in AWAIT_GRANT (R87). An operation that takes a door out of AWAIT_GRANT first takes it
out of the queue, and one that brings it there enqueues it afterwards; in between the queue is right but for that door, which stands
in no place of it (`QueueBut`). -/

namespace Sys2Proof.Machine

/-- The queue holds every other door exactly while it awaits a grant, none twice; door d, if one is named, stands in no place of it. -/
structure QueueBut (x : Option DoorNo) (g : Segment) : Prop where
  awaits : ∀ d, x ≠ some d → ((∃ q ∈ g.queue, q.door = d) ↔ (g.door d).eng.state = .awaitGrant)
  once : (g.queue.map (fun q => q.door)).Nodup
  out : ∀ d, x = some d → ∀ q ∈ g.queue, q.door ≠ d

theorem queueBut_none_iff {g : Segment} : QueueBut none g ↔ QueueOk g :=
  ⟨fun h => ⟨fun d => h.awaits d (by simp), h.once⟩, fun h => ⟨fun d _ => h.awaits d, h.once, by simp⟩⟩

section
variable {x : Option DoorNo} {g h : Segment} {e old : Env} {d : DoorNo}

theorem QueueBut.still (k : Still g h) (hg : QueueBut x g) : QueueBut x h where
  awaits j hj := by rw [k.queue, k.states]; exact hg.awaits j hj
  once := by rw [k.queue]; exact hg.once
  out := by rw [k.queue]; exact hg.out

theorem QueueOk.still (k : Still g h) (hg : QueueOk g) : QueueOk h :=
  queueBut_none_iff.1 ((queueBut_none_iff.2 hg).still k)

/-- Only the queue and the states count. -/
theorem QueueOk.congr (hg : QueueOk g) (hq : h.queue = g.queue := by rfl) (hd : h.doors = g.doors := by rfl) :
    QueueOk h where
  awaits j := by rw [hq, show h.door j = g.door j by rw [Segment.door, Segment.door, hd]]; exact hg.awaits j
  once := by rw [hq]; exact hg.once

/-! ### Leaving and entering the queue -/

/-- A door that does not await a grant stands in no place of the queue. -/
theorem QueueOk.but (hg : QueueOk g) (hd : (g.door d).eng.state ≠ .awaitGrant) : QueueBut (some d) g where
  awaits j _ := hg.awaits j
  once := hg.once
  out j hj q hq hqj := by
    obtain rfl := Option.some.inj hj
    exact hd ((hg.awaits d).1 ⟨q, hq, hqj⟩)

theorem queued_after_dequeue {i j : DoorNo} (h : i ≠ j) (qs : List QueueEntry) :
    (∃ q ∈ qs.filter (fun q => q.door != j), q.door = i) ↔ ∃ q ∈ qs, q.door = i := by
  refine ⟨fun ⟨q, hq, hqi⟩ => ⟨q, (List.mem_filter.1 hq).1, hqi⟩, fun ⟨q, hq, hqi⟩ => ⟨q, List.mem_filter.2 ⟨hq, ?_⟩, hqi⟩⟩
  simpa [hqi] using h

theorem not_queued_after_dequeue {j : DoorNo} {qs : List QueueEntry} {q : QueueEntry}
    (h : q ∈ qs.filter (fun q => q.door != j)) : q.door ≠ j := by
  simpa using (List.mem_filter.1 h).2

theorem once_after_dequeue {qs : List QueueEntry} (j : DoorNo) (h : (qs.map (fun q => q.door)).Nodup) :
    ((qs.filter (fun q => q.door != j)).map (fun q => q.door)).Nodup :=
  (List.filter_sublist.map _).nodup h

/-- Door j leaves the queue for a state other than AWAIT_GRANT, and every other door keeps its state. -/
structure Leaves (j : DoorNo) (g h : Segment) : Prop where
  queue : h.queue = g.queue.filter (fun q => q.door != j)
  others : ∀ i, i ≠ j → (h.door i).eng.state = (g.door i).eng.state
  state : (h.door j).eng.state ≠ .awaitGrant

theorem Leaves.still {j : DoorNo} {k : Segment} (l : Leaves j g h) (s : Still h k) : Leaves j g k :=
  ⟨s.queue.trans l.queue, fun i hi => (s.states i).trans (l.others i hi), by rw [s.states]; exact l.state⟩

/-- A door that leaves the queue twice has left it once. -/
theorem Leaves.afterDequeue {j : DoorNo} {k : Segment} (s : Still (dequeue j g) h) (l : Leaves j h k) : Leaves j g k where
  queue := by rw [l.queue, s.queue, dequeue_queue, List.filter_filter]; simp
  others i hi := (l.others i hi).trans (s.states i)
  state := l.state

theorem QueueBut.leave {j : DoorNo} (hg : QueueBut x g) (l : Leaves j g h) : QueueBut x h where
  awaits i hi := by
    rw [l.queue]
    by_cases hij : i = j
    · rw [hij]
      exact ⟨fun ⟨q, hq', hqj⟩ => absurd hqj (not_queued_after_dequeue hq'), fun hs => absurd hs l.state⟩
    · rw [l.others i hij, ← hg.awaits i hi, queued_after_dequeue hij]
  once := by rw [l.queue]; exact once_after_dequeue j hg.once
  out i hi q hq' := by
    rw [l.queue] at hq'
    exact hg.out i hi q (List.mem_filter.1 hq').1

/-- A door taken out of the queue, whatever its state. -/
theorem QueueOk.dequeue (hg : QueueOk g) : QueueBut (some d) (dequeue d g) where
  awaits i hi := by
    rw [dequeue_queue, queued_after_dequeue (fun h => hi (by rw [h]))]
    exact hg.awaits i
  once := once_after_dequeue d hg.once
  out i hi q hq := by
    obtain rfl := Option.some.inj hi
    exact not_queued_after_dequeue hq

/-- A door that is in no place of the queue takes a state other than AWAIT_GRANT. -/
theorem QueueBut.enter (hg : QueueBut (some d) g) (hq : h.queue = g.queue)
    (hothers : ∀ i, i ≠ d → (h.door i).eng.state = (g.door i).eng.state) (hd : (h.door d).eng.state ≠ .awaitGrant) :
    QueueOk h where
  awaits i := by
    rw [hq]
    by_cases hid : i = d
    · rw [hid]
      exact ⟨fun ⟨q, hq', hqd⟩ => absurd hqd (hg.out d rfl q hq'), fun hs => absurd hs hd⟩
    · rw [hothers i hid]
      exact hg.awaits i (fun h => hid (Option.some.inj h).symm)
  once := hq ▸ hg.once

theorem QueueBut.upd {f : Door → Door} (hg : QueueBut (some d) g) (hf : (f (g.door d)).eng.state ≠ .awaitGrant) :
    QueueOk (g.upd e d f) :=
  hg.enter (upd_queue g e d f) (fun i hi => by rw [door_upd_ne g e f hi]) (by rwa [upd_door_eng])

theorem QueueBut.enterState {st : DoorState} (hg : QueueBut (some d) g) (hst : st ≠ .awaitGrant) :
    QueueOk (enterState e d st g) := hg.upd hst

theorem QueueBut.enterEng {st : DoorState} {f : Engine → Engine} (hg : QueueBut (some d) g)
    (hst : st ≠ .awaitGrant := by decide) (hf : ∀ y, (f y).state = st := by exact fun _ => rfl) : QueueOk (updEng e d f g) :=
  hg.upd (by rw [hf]; exact hst)

/-- The state that `enterState` enters. -/
@[simp] theorem enterState_state (e : Env) (d : DoorNo) (st : DoorState) (g : Segment) :
    ((enterState e d st g).door d).eng.state = st := by rw [enterState, upd_door_eng]; rfl

theorem insertEntry_perm (y : QueueEntry) (qs : List QueueEntry) : (insertEntry y qs).Perm (y :: qs) := by
  induction qs with
  | nil => exact .refl _
  | cons z zs ih =>
    unfold insertEntry
    split
    · exact .refl _
    · exact (ih.cons z).trans (.swap y z zs)

/-- A door that awaits its grant takes its place in the queue (R87). -/
theorem QueueBut.place {r : Nat} (hg : QueueBut (some d) g) (hd : (g.door d).eng.state = .awaitGrant) :
    QueueOk { g with queue := insertEntry ⟨d, r⟩ g.queue } where
  awaits i := by
    have key : (∃ q ∈ insertEntry ⟨d, r⟩ g.queue, q.door = i) ↔ d = i ∨ ∃ q ∈ g.queue, q.door = i := by
      simp [mem_insertEntry, or_and_right, exists_or]
    refine key.trans ?_
    by_cases hid : i = d
    · rw [hid]
      exact ⟨fun _ => hd, fun _ => .inl rfl⟩
    · exact ⟨fun h => (hg.awaits i (fun h' => hid (Option.some.inj h').symm)).1 (h.resolve_left (fun h' => hid h'.symm)),
        fun h => .inr ((hg.awaits i (fun h' => hid (Option.some.inj h').symm)).2 h)⟩
  once := by
    refine ((insertEntry_perm _ _).map _).nodup_iff.2 (List.nodup_cons.2 ⟨?_, hg.once⟩)
    rw [List.mem_map]
    rintro ⟨q, hq, hqd⟩
    exact hg.out d rfl q hq hqd

/-! ### The arbiter (R89 to R94) -/

/-- A reversion gives HOLDING, SECURED, RELEASED or FAULTED (R119). -/
theorem revertTo_state_ne_awaitGrant (p : ProfileEntry) (y : Door) : (y.revertTo p).1 ≠ .awaitGrant := by
  unfold Door.revertTo
  split
  · exact DoorState.noConfusion
  · exact DoorState.noConfusion
  · split <;> exact DoorState.noConfusion
  · split
    · exact DoorState.noConfusion
    · split <;> exact DoorState.noConfusion

theorem revert_leaves (e : Env) (j : DoorNo) (g : Segment) : Leaves j g (revert e j g) := by
  have left : Leaves j g ((stopWaiting e j g).upd e j (fun y =>
      { y with eng := { y.eng.enter (((stopWaiting e j g).door j).revertTo (e.profile j)).1 with
                        target := (((stopWaiting e j g).door j).revertTo (e.profile j)).2 } })) := by
    refine ⟨by rw [upd_queue, stopWaiting, upd_queue, dequeue_queue], fun i hi => ?_, ?_⟩
    · rw [door_upd_ne _ _ _ hi, stopWaiting, door_upd_ne _ _ _ hi]
      rfl
    · rw [upd_door_eng]
      exact revertTo_state_ne_awaitGrant _ _
  unfold revert; dsimp only
  split
  · exact left.still (Still.refl _).clearLive
  · exact left

theorem grant_leaves (e : Env) (j : DoorNo) (g : Segment) : Leaves j g (grant e j g) := by
  have left : Leaves j g (enterState e j .driving (setCharge j ⟨(e.profile j).runUnits, .run, 0, 0⟩ (dequeue j g))) := by
    refine ⟨by rw [enterState, upd_queue, setCharge_queue, dequeue_queue], fun i hi => ?_, ?_⟩
    · rw [enterState, door_upd_ne _ _ _ hi, setCharge, door_putDoor_ne _ _ _ _ hi]
      rfl
    · rw [enterState_state]
      decide
  unfold grant; dsimp only
  split
  · split
    · exact left.still (Still.refl _).postPulse
    · exact left.still (Still.refl _).withholdPulse
  · exact left.still ((Still.refl _).upd rfl)

theorem refuse_leaves (e : Env) (j : DoorNo) (g : Segment) : Leaves j g (refuse e j g) :=
  .afterDequeue (Still.refl (dequeue j g)).answerOwed.raiseKind (revert_leaves e j _)

theorem QueueBut.considerLoop (n : Nat) (hg : QueueBut x g) : QueueBut x (considerLoop e n g) := by
  induction n generalizing g with
  | zero => exact hg
  | succ n ih =>
    unfold Machine.considerLoop
    split
    · exact hg
    · split
      · exact ih (hg.leave (grant_leaves e _ g))
      · split
        · exact hg
        · exact ih (hg.leave (refuse_leaves e _ g))

theorem QueueBut.consider (hg : QueueBut x g) : QueueBut x (consider e g) := by
  unfold Machine.consider
  split
  · exact hg
  · exact hg.considerLoop _

theorem QueueOk.consider (hg : QueueOk g) : QueueOk (consider e g) :=
  queueBut_none_iff.1 (queueBut_none_iff.2 hg).consider

theorem QueueBut.forceDriveOff {j : DoorNo} (hg : QueueBut x g) : QueueBut x (forceDriveOff e j g) :=
  (hg.still ((Still.refl g).setCharge.upd rfl)).consider

theorem QueueBut.turnDriveOff {j : DoorNo} (hg : QueueBut x g) : QueueBut x (turnDriveOff e j g) := by
  unfold Machine.turnDriveOff
  split
  · exact hg.forceDriveOff
  · exact hg

theorem QueueBut.setDrive {j : DoorNo} {on : Bool} (hg : QueueBut x g) : QueueBut x (setDrive e j on g) := by
  unfold Machine.setDrive
  split
  · exact hg.still ((Still.refl g).upd rfl)
  · exact hg.turnDriveOff

theorem QueueBut.drawFree {n : Nat} (hg : QueueBut x g) : QueueBut x { g with free := n } :=
  hg.still (g := g) (.ofSides rfl rfl rfl rfl rfl)

theorem QueueBut.leaveHolding {j : DoorNo} (hg : QueueBut x g) : QueueBut x (leaveHolding e j g) := by
  unfold Machine.leaveHolding; dsimp only
  split
  · exact hg
  · split
    · exact hg.setDrive
    · split
      · exact hg.setDrive
      · exact hg.drawFree.setDrive

theorem QueueBut.runEnd {j : DoorNo} (hg : QueueBut x g) : QueueBut x (runEnd e j g) := by
  unfold Machine.runEnd; dsimp only
  split
  · exact (hg.still (Still.refl g).setCharge).consider
  · exact hg

/-- A door withdrawn stands in no place of the queue, whatever its state. -/
theorem QueueOk.withdraw (hg : QueueOk g) : QueueBut (some d) (withdraw e d g) := by
  unfold Machine.withdraw
  split
  · exact hg.dequeue.consider
  · next hnot =>
    refine ⟨fun j _ => hg.awaits j, hg.once, fun j hj q hq hqj => hnot ?_⟩
    obtain rfl := Option.some.inj hj
    exact List.any_eq_true.2 ⟨q, hq, by simpa using hqj⟩

theorem QueueOk.setDrive {j : DoorNo} {on : Bool} (hg : QueueOk g) : QueueOk (setDrive e j on g) :=
  queueBut_none_iff.1 (queueBut_none_iff.2 hg).setDrive

theorem QueueOk.turnDriveOff {j : DoorNo} (hg : QueueOk g) : QueueOk (turnDriveOff e j g) :=
  queueBut_none_iff.1 (queueBut_none_iff.2 hg).turnDriveOff

theorem QueueOk.forceDriveOff {j : DoorNo} (hg : QueueOk g) : QueueOk (forceDriveOff e j g) :=
  queueBut_none_iff.1 (queueBut_none_iff.2 hg).forceDriveOff

/-- A door that enters AWAIT_GRANT is enqueued (R87, R123). -/
theorem QueueBut.awaitGrant (hg : QueueBut (some d) g) : QueueOk (awaitGrant e d g) := by
  have entered : QueueBut (some d) (Machine.enterState e d .awaitGrant g) := by
    refine ⟨fun i hi => ?_, ?_, ?_⟩
    · have hne : i ≠ d := fun h => hi (by rw [h])
      rw [Machine.enterState, upd_queue, door_upd_ne _ _ _ hne]
      exact hg.awaits i hi
    · rw [Machine.enterState, upd_queue]
      exact hg.once
    · rw [Machine.enterState, upd_queue]
      exact hg.out
  exact (entered.place (enterState_state e d .awaitGrant g)).consider

/-! ### The door engine: attempts -/

theorem QueueBut.settleAt {p : Posture} {o : DoorOutcome} (hg : QueueBut (some d) g) : QueueOk (settleAt e d p o g) := by
  have entered : QueueOk (updEng e d (fun y =>
      { y.enter p.state with target := some p, deferral := .none, deferralSub := 0 }) g) :=
    hg.enterEng (st := p.state) (by cases p <;> decide)
  exact entered.setDrive.still (Still.refl _).clearLive.answerOwed

theorem QueueBut.enterFaulted {k : Kind} (hg : QueueBut (some d) g) : QueueOk (enterFaulted e d k g) :=
  (hg.enterEng (st := .faulted)).still (Still.refl _).raiseKind.answerOwed

theorem QueueBut.enterVerifying (hg : QueueBut (some d) g) : QueueOk (enterVerifying e d g) := by
  have timed : QueueOk (startTimer e d (e.profile d).verifyTime (Machine.enterState e d .verifying g)) :=
    (hg.enterState (by decide)).still (Still.refl _).startTimer
  have out := timed.but (d := d) (by
    rw [((Still.refl _).startTimer).states, enterState_state]
    decide)
  unfold Machine.enterVerifying; dsimp only
  split
  · split
    · exact out.settleAt
    · exact timed
  · exact timed

theorem QueueBut.whenWired {f : Segment → Segment} (hf : QueueOk (f g)) (hg : QueueBut (some d) g) :
    QueueOk (whenWired e d f g) := by
  unfold Machine.whenWired
  split
  · exact hf
  · exact hg.enterFaulted

theorem QueueBut.proceed (hg : QueueBut (some d) g) : QueueOk (proceed e d g) := by
  refine hg.whenWired ?_
  split
  · exact hg.turnDriveOff.enterVerifying
  · exact hg.awaitGrant

theorem QueueOk.quietNotice (hg : QueueOk g) : QueueOk (quietNotice e d g) := by
  unfold Machine.quietNotice; dsimp only
  split
  · next hq =>
    have out := hg.but (d := d) (by rw [hq]; decide)
    split
    · exact (out.enterState (by decide)).still (Still.refl _).startTimer
    · exact out.proceed
  · exact hg

theorem QueueOk.evaluateWatch (hg : QueueOk g) : QueueOk (evaluateWatch e d g) := by
  unfold Machine.evaluateWatch; dsimp only
  split
  · split
    · exact (hg.still (Still.refl g).clearWatch).quietNotice
    · exact hg
  · exact hg

theorem QueueOk.setWatch (hg : QueueOk g) : QueueOk (setWatch e d g) :=
  (hg.still ((Still.refl g).upd rfl)).evaluateWatch

theorem QueueBut.takeReleased {o : DoorOutcome} (hg : QueueBut (some d) g) : QueueOk (takeReleased e d o g) := by
  have left : QueueBut (some d) (Machine.leaveHolding e d g) := hg.leaveHolding
  unfold Machine.takeReleased; dsimp only
  split
  · exact left.settleAt
  · split
    · exact left.settleAt
    · split
      · exact left.enterFaulted
      · split
        · exact left.turnDriveOff.enterVerifying
        · exact left.awaitGrant

theorem QueueOk.actOnExpiry (hg : QueueOk g) (hd : (g.door d).eng.state ≠ .awaitGrant) : QueueOk (actOnExpiry e d g) := by
  have ended : Still g (updEng e d (fun y => { y with deferral := .none, deferralSub := 0 }) g) := (Still.refl g).updEng rfl
  unfold Machine.actOnExpiry; dsimp only
  split
  · have out : QueueBut (some d) _ := (hg.but hd).still ended
    exact QueueBut.takeReleased (out.still ((Still.refl _).updEng rfl).answerOwed.raiseKind.clearWatch)
  · have watched : QueueOk _ := (hg.still (ended.updEng (e := e) (d := d) (f := fun y => { y with force := true }) rfl)).setWatch
      (e := e) (d := d)
    split
    · exact watched.still (Still.refl _).answerOwed.listException
    · exact watched

theorem QueueBut.enterQuietWait (hg : QueueBut (some d) g) : QueueOk (enterQuietWait e d g) := by
  have watched : QueueOk (Machine.setWatch e d (Machine.enterState e d .quietWait g)) := (hg.enterState (by decide)).setWatch
  unfold Machine.enterQuietWait; dsimp only
  split
  · next hq => exact watched.actOnExpiry (by rw [hq.1]; decide)
  · exact watched

theorem QueueBut.takeSecured {o : DoorOutcome} (hg : QueueBut (some d) g) : QueueOk (takeSecured e d o g) := by
  have left : QueueBut (some d) (Machine.leaveHolding e d g) := hg.leaveHolding
  unfold Machine.takeSecured; dsimp only
  split
  · exact left.settleAt
  · split
    · exact left.enterFaulted
    · exact (left.still (Still.refl _).startDeferral).enterQuietWait

theorem QueueBut.takeToward {p : Posture} {o : DoorOutcome} (hg : QueueBut (some d) g) : QueueOk (takeToward e d p o g) := by
  unfold Machine.takeToward
  split
  · exact hg.takeSecured
  · exact hg.takeReleased

theorem QueueBut.newAttempt {p : Posture} {params : Params} {owed : Option Nat} {fb : Option Fallback}
    (hg : QueueBut (some d) g) : QueueOk (newAttempt e d p params owed fb g) :=
  (hg.still (Still.refl g).adopt.beginAttempt).takeToward

theorem QueueOk.targetSet {p : Posture} {params : Params} {owed : Option Nat} (hg : QueueOk g) :
    QueueOk (targetSet e d p params owed g) := by
  have out (h : (g.door d).eng.state ≠ .awaitGrant) := hg.but h
  unfold Machine.targetSet; dsimp only
  cases hs : (g.door d).eng.state with
  | absent => exact hg.still (Still.refl g).answer
  | outOfService => exact hg.still (Still.refl g).answer
  | egress => exact hg.still (Still.refl g).answer
  | lost =>
    dsimp only
    split
    · exact hg.still (Still.refl g).holdPending.answer
    · exact hg.still ((Still.refl g).updEng rfl).answer
  | driving => exact hg.still (Still.refl g).holdPending
  | verifying => exact hg.still (Still.refl g).holdPending
  | holding => exact (out (by rw [hs]; decide)).newAttempt
  | released | secured =>
    dsimp only
    split
    · exact hg.still ((Still.refl g).updEng rfl).answer
    · exact (out (by rw [hs]; decide)).newAttempt
  | faulted =>
    dsimp only
    split
    · exact (out (by rw [hs]; decide)).newAttempt
    · exact hg.still (Still.refl g).adopt.answerOwed
  | quietWait =>
    dsimp only
    split
    · exact (hg.still ((Still.refl g).adopt.startDeferral.updEng rfl)).setWatch
    · exact ((out (by rw [hs]; decide)).still (Still.refl g).clearWatch).newAttempt
  | warning =>
    dsimp only
    split
    · exact hg.still (Still.refl g).adopt.startDeferral
    · exact ((out (by rw [hs]; decide)).still ((Still.refl g).updEng rfl)).newAttempt
  | awaitGrant =>
    dsimp only
    split
    · exact hg.still (Still.refl g).adopt
    · exact hg.withdraw.newAttempt
  | exitShunt =>
    dsimp only
    split
    · exact hg.still (Still.refl g).adopt
    · exact ((out (by rw [hs]; decide)).still ((Still.refl g).updEng rfl)).newAttempt
  | cooling =>
    dsimp only
    split
    · exact ((out (by rw [hs]; decide)).still ((Still.refl g).updEng rfl)).newAttempt
    · exact hg.still (Still.refl g).adopt

theorem QueueOk.takePending (hg : QueueOk g) : QueueOk (takePending e d g) := by
  unfold Machine.takePending; dsimp only
  split
  · exact hg
  · split
    · exact hg
    · exact (hg.still (Still.refl g).dropPending).targetSet

theorem QueueOk.readVerifying (hg : QueueOk g) : QueueOk (readVerifying e d g) := by
  unfold Machine.readVerifying; dsimp only
  split
  · next hs _ =>
    split
    · exact (hg.but (by rw [hs]; decide)).settleAt.takePending
    · exact hg
  · exact hg

theorem QueueBut.retry (hg : QueueBut (some d) g) (hok : QueueOk g) : QueueOk (retry e d g) := by
  have counted := (Still.refl g).updEng (e := e) (d := d) (f := fun y => { y with retry := y.retry + 1 }) rfl
  unfold Machine.retry; dsimp only
  refine (hg.still counted).whenWired ?_
  split
  · exact hok.still counted.startTimer
  · exact (hg.still counted).awaitGrant
  · exact (hg.still counted).awaitGrant
  · exact (hg.still counted).turnDriveOff.enterQuietWait
  · exact (hg.still counted).enterQuietWait

/-! ### The door engine: timers and events -/

theorem QueueOk.verifyFailed (hg : QueueOk g) : QueueOk (verifyFailed e d g) := by
  unfold Machine.verifyFailed; dsimp only
  split
  · next hs =>
    have out := hg.but (d := d) (by rw [hs]; decide)
    split
    · split
      · exact (out.still (Still.refl g).dropPending).newAttempt
      · exact out.retry hg
    · exact out.enterFaulted.takePending
  · exact hg

theorem QueueOk.runTimerEnd (hg : QueueOk g) : QueueOk (runTimerEnd e d g) := by
  unfold Machine.runTimerEnd; dsimp only
  split
  · next hs => exact (hg.but (by rw [hs.1]; decide)).runEnd.enterVerifying.takePending
  · exact hg

theorem QueueOk.warningEnd (hg : QueueOk g) : QueueOk (warningEnd e d g) := by
  unfold Machine.warningEnd
  split
  · next hs => exact ((hg.but (by rw [hs]; decide)).still ((Still.refl g).updEng rfl)).proceed
  · exact hg

theorem QueueOk.positionOpen (hg : QueueOk g) : QueueOk (positionOpen e d g) := by
  unfold Machine.positionOpen; dsimp only
  split
  · next hs => exact (hg.but (by rw [hs]; decide)).enterQuietWait
  · split
    · exact hg.withdraw.enterQuietWait
    · exact hg
  · split
    · exact hg.still ((Still.refl g).updEng rfl).raiseKind
    · exact hg.still ((Still.refl g).updEng rfl)
  · exact hg

theorem QueueOk.positionClosed (hg : QueueOk g) : QueueOk (positionClosed e d g) := by
  unfold Machine.positionClosed; dsimp only
  split
  · next hs => exact ((hg.but (by rw [hs.1]; decide)).still ((Still.refl g).updEng rfl)).enterVerifying.takePending
  · exact hg

theorem QueueOk.exitRequested (hg : QueueOk g) : QueueOk (exitRequested e d g) := by
  unfold Machine.exitRequested; dsimp only
  split
  · next hs =>
    split
    · exact ((hg.but (by rw [hs]; decide)).turnDriveOff.enterState (by decide)).still (Still.refl _).startTimer
    · exact hg.still ((Still.refl g).updEng rfl)
  · exact hg.still (Still.refl g).startTimer
  · exact hg

theorem QueueOk.shuntEnd (hg : QueueOk g) : QueueOk (shuntEnd e d g) := by
  unfold Machine.shuntEnd; dsimp only
  split
  · next hs =>
    have out := (hg.but (d := d) (by rw [hs]; decide)).still ((Still.refl g).updEng (e := e) (d := d)
      (f := fun y => { y with fallback := .released, retry := 0, deferral := .none, deferralSub := 0 }) rfl)
    refine out.whenWired ?_
    split
    · exact out.awaitGrant
    · exact (out.still ((Still.refl _).updEng rfl)).enterQuietWait
  · exact hg

theorem QueueOk.deferralEnd (hg : QueueOk g) : QueueOk (deferralEnd e d g) := by
  have ended := hg.still ((Still.refl g).updEng (e := e) (d := d)
    (f := fun y => { y with deferral := .expired, deferralSub := 0 }) rfl)
  unfold Machine.deferralEnd; dsimp only
  split
  · next hs => exact ended.actOnExpiry (by rw [hs]; decide)
  · exact ended

theorem QueueOk.supervisionFault {k : Kind} (hg : QueueOk g) : QueueOk (supervisionFault e d k g) := by
  have off : QueueBut (some d) (raiseKind e d k none (Machine.forceDriveOff e d (Machine.dequeue d g))) :=
    hg.dequeue.forceDriveOff.still (Still.refl _).raiseKind
  unfold Machine.supervisionFault; dsimp only
  split
  · next hs => exact off.enter rfl (fun _ _ => rfl) (by rw [hs]; decide)
  · have stopped := off.still (((Still.refl _).clearWatch (e := e) (d := d)).updEng (e := e) (d := d)
      (f := fun y => { y with deferral := .none, deferralSub := 0 }) rfl)
    split
    · exact ((stopped.enterState (by decide)).still (Still.refl _).answerOwed).takePending
    · exact ((stopped.enterState (by decide)).still (Still.refl _).startTimer).takePending

theorem QueueOk.coolingEnd (hg : QueueOk g) : QueueOk (coolingEnd e d g) := by
  unfold Machine.coolingEnd; dsimp only
  split
  · next hs =>
    have out := hg.but (d := d) (by rw [hs]; decide)
    split
    · have counted := out.still ((Still.refl g).updEng (e := e) (d := d) (f := fun y => { y with retry := y.retry + 1 }) rfl)
      split
      · exact counted.takeSecured
      · exact counted.takeReleased
      · exact counted.enterState (by decide)
    · split
      · exact out.enterFaulted
      · exact (out.enterState (by decide)).still (Still.refl _).answerOwed
  · exact hg

theorem QueueOk.resetFaultDoor (hg : QueueOk g) : QueueOk (resetFaultDoor e d g) := by
  have cleared : Still g (clearLive e d faultKinds g) := (Still.refl g).clearLive
  unfold Machine.resetFaultDoor; dsimp only
  split
  · next hs =>
    have out := (hg.but (d := d) (by rw [hs]; decide)).still cleared
    split
    · exact (out.still (Still.refl _).beginAttempt).takeToward
    · exact (out.still ((Still.refl _).updEng rfl)).enterState (by decide)
  · exact hg.still cleared

/-! ### Fire, loss, finding, abort -/

theorem QueueOk.fireDoor (hg : QueueOk g) : QueueOk (fireDoor e d g) := by
  unfold Machine.fireDoor; dsimp only
  split
  · exact hg
  · exact hg
  · exact (hg.still ((Still.refl g).updEng rfl)).forceDriveOff
  · have told : QueueOk (dropPending e d (answerPending e d .overridden (answerOwed e d .overridden g))) :=
      hg.still (Still.refl g).answerOwed.answerPending.dropPending
    exact ((told.withdraw (e := e) (d := d)).still (Still.refl _).clearWatch).forceDriveOff.enterEng (st := .egress)

theorem QueueBut.enterEgress (hg : QueueBut (some d) g) : QueueOk (enterEgress e d g) := by
  unfold Machine.enterEgress; dsimp only
  exact (hg.still (Still.refl g).dropPending).forceDriveOff.enterEng (st := .egress)

theorem QueueOk.lostNotice (hg : QueueOk g) : QueueOk (lostNotice e d g) := by
  have raised : QueueOk (raiseKind e d .lost none g) := hg.still (Still.refl g).raiseKind
  have left : QueueOk (leaveHolding e d (raiseKind e d .lost none g)) :=
    queueBut_none_iff.1 (queueBut_none_iff.2 raised).leaveHolding
  unfold Machine.lostNotice; dsimp only
  split
  · exact raised
  · refine QueueOk.consider (QueueOk.still (Still.refl _).answerOwed.answerPending ?_)
    exact ((left.withdraw (e := e) (d := d)).still (Still.refl _).clearWatch).enterEng (st := .lost)

theorem QueueBut.resumeState {st : DoorState} (hst : st ≠ .awaitGrant) (hg : QueueBut (some d) g) :
    QueueOk (resumeState e d st g) := by
  unfold Machine.resumeState; dsimp only
  exact hg.enterEng hst

theorem QueueBut.resumeByTarget (hg : QueueBut (some d) g) : QueueOk (resumeByTarget e d g) := by
  unfold Machine.resumeByTarget; dsimp only
  split
  · exact hg.enterState (by decide)
  · split
    · exact hg.settleAt
    · exact (hg.still ((Still.refl g).updEng rfl).beginAttempt).takeToward

theorem QueueOk.foundNotice (hg : QueueOk g) : QueueOk (foundNotice e d g) := by
  have cleared : QueueOk (clearLive e d [.lost] g) := hg.still (Still.refl g).clearLive
  unfold Machine.foundNotice; dsimp only
  split
  · next hs =>
    have lost : QueueBut (some d) (clearLive e d [.lost] g) := cleared.but (by rw [hs]; decide)
    have out := lost.consider (e := e)
    split
    · exact lost.enterEgress
    · split
      · split
        · exact (out.still (Still.refl _).pendingAsTarget).resumeByTarget
        · exact out.resumeState (by decide)
      · split
        · exact (out.still (Still.refl _).pendingAsTarget).resumeByTarget
        · exact (out.resumeState (by decide)).readVerifying
      · exact out.resumeState (by decide)
      · exact out.resumeState (by decide)
      · have back := out.enterEng (e := e) (st := .faulted) (f := fun y => { y.enter .faulted with owed := none })
        split
        · exact ((back.but (by rw [updEng, upd_door_eng]; exact DoorState.noConfusion)).still
            (Still.refl _).beginAttempt).takeReleased
        · exact back
      · exact out.resumeByTarget
  · exact cleared.consider

theorem QueueOk.abortDoor (hg : QueueOk g) : QueueOk (abortDoor e d g) := by
  have told : QueueOk (dropOwingPending e d (answerOwed e d .overridden g)) :=
    hg.still (Still.refl g).answerOwed.dropOwingPending
  have reverted := (queueBut_none_iff.1 ((queueBut_none_iff.2 told).leave (revert_leaves e d _))).consider (e := e)
  unfold Machine.abortDoor; dsimp only
  split
  · exact reverted
  · exact reverted
  · exact reverted
  · exact told

/-! ### Doors that come and go -/

theorem QueueOk.reenable (hg : QueueOk g) : QueueOk (reenable e d g) := by
  unfold Machine.reenable; dsimp only
  split
  · exact hg
  · split
    · exact (hg.still (Still.refl g).enableOn).evaluateWatch
    · exact (hg.still (Still.refl g).enableOff).evaluateWatch

theorem QueueOk.giveExpected (hg : QueueOk g) : QueueOk (giveExpected e d g) := by
  unfold Machine.giveExpected
  split
  · exact hg.targetSet
  · exact hg

theorem QueueOk.takeOutOfService (hg : QueueOk g) : QueueOk (takeOutOfService e d g) := by
  unfold Machine.takeOutOfService; dsimp only
  split
  · exact hg
  · have told : QueueOk (dropPending e d (answerPending e d .absent (answerOwed e d .absent g))) :=
      hg.still (Still.refl g).answerOwed.answerPending.dropPending
    have off := ((told.withdraw (e := e) (d := d)).still ((Still.refl _).clearWatch (e := e) (d := d)
      |>.cancelPulse (e := e) (d := d))).forceDriveOff (e := e) (j := d)
    exact ((off.still (Still.refl _).clearLive).enterEng (st := .outOfService)).reenable

theorem QueueOk.returnToService (hg : QueueOk g) : QueueOk (returnToService e d g) := by
  unfold Machine.returnToService
  split
  · next hs =>
    have out := hg.but (d := d) (by rw [hs.1]; decide)
    split
    · exact out.enterEgress.reenable
    · exact (out.enterEng (st := .holding)).reenable.giveExpected
  · exact hg

theorem QueueOk.restoreDoor (hg : QueueOk g) : QueueOk (restoreDoor e d g) := by
  unfold Machine.restoreDoor
  split
  · next hs => exact ((hg.but (d := d) (by rw [hs]; decide)).upd DoorState.noConfusion).giveExpected
  · exact hg

theorem QueueOk.endLastVisit (hg : QueueOk g) : QueueOk (endLastVisit e d g) :=
  hg.dequeue.upd DoorState.noConfusion

theorem QueueOk.replaceDoor {y : Door} (hy : y.eng.state = .absent) (hg : QueueOk g) :
    QueueOk (enterState e d .outOfService ((Machine.dequeue d g).putDoor d y)) :=
  ((hg.dequeue.enter (h := (Machine.dequeue d g).putDoor d y) rfl
    (fun i hi => by rw [door_putDoor_ne _ _ _ _ hi]) (by rw [door_putDoor_same, hy]; decide)).but
      (by rw [door_putDoor_same, hy]; decide)).enterState (by decide)

/-- No entry state is AWAIT_GRANT (R113). -/
theorem entryState_ne_awaitGrant (e : Env) (y : Engine) (d : DoorNo) : entryState e y d ≠ .awaitGrant := by
  unfold entryState
  split
  · decide
  · split <;> decide

/-- Each door of a list has taken its entry state, and the queue is as it was. -/
theorem enterDoors_fold (e : Env) (ds : List DoorNo) (g : Segment) :
    (forDoors ds (fun d g => enterState e d (entryState e (g.door d).eng d) g) g).queue = g.queue
    ∧ ∀ d, (d ∈ ds ∨ (g.door d).eng.state ≠ .awaitGrant) →
        ((forDoors ds (fun d g => enterState e d (entryState e (g.door d).eng d) g) g).door d).eng.state ≠ .awaitGrant := by
  unfold forDoors
  induction ds generalizing g with
  | nil => exact ⟨rfl, fun d hd => hd.resolve_left List.not_mem_nil⟩
  | cons j ds ih =>
    obtain ⟨hq, hs⟩ := ih (enterState e j (entryState e (g.door j).eng j) g)
    refine ⟨hq.trans (by rw [enterState, upd_queue]), fun d hd => hs d ?_⟩
    by_cases hdj : d = j
    · right
      rw [hdj, enterState_state]
      exact entryState_ne_awaitGrant _ _ _
    · rw [enterState, door_upd_ne _ _ _ hdj]
      exact hd.imp_left (fun h => (List.mem_cons.1 h).resolve_left hdj)

theorem mem_allDoors (d : DoorNo) : d ∈ allDoors := List.mem_finRange d

theorem QueueOk.enterDoors (g : Segment) : QueueOk (enterDoors e g) := by
  obtain ⟨hq, hs⟩ := enterDoors_fold e allDoors { g with queue := [] }
  rw [← Machine.enterDoors] at hq hs
  refine ⟨fun d => ?_, by rw [hq]; exact List.nodup_nil⟩
  rw [hq]
  exact ⟨fun ⟨_, h, _⟩ => absurd h List.not_mem_nil, fun h => absurd h (hs d (.inl (mem_allDoors d)))⟩

/-! ### The runs -/

theorem startRequest_queue (e : Env) (p : Fin 8) (g : Segment) :
    (startRequest e p g).2.queue = g.queue ∧ (startRequest e p g).2.doors = g.doors := by
  unfold startRequest dropRequest; dsimp only
  split
  · split <;> exact ⟨rfl, rfl⟩
  · split <;> exact ⟨rfl, rfl⟩

theorem completeRun_queue (e : Env) (r : Run) (g : Segment) :
    (completeRun e r g).queue = g.queue ∧ (completeRun e r g).doors = g.doors := by
  unfold completeRun; dsimp only
  split <;> exact ⟨rfl, rfl⟩

end

/-! ## The invariant -/

/-- That the queue holds exactly the doors in AWAIT_GRANT is an invariant of the segment. -/
theorem queueOk_invariant : SegmentInvariant QueueOk where
  initial x n := ⟨fun d => ⟨fun ⟨_, h, _⟩ => absurd h List.not_mem_nil, fun h => by
      rw [show (Segment.initial x n).door d = Door.initial x.params from Vector.getElem_replicate _] at h
      exact DoorState.noConfusion h⟩, List.nodup_nil⟩
  still k h := h.still k
  consider := QueueOk.consider
  targetSet := QueueOk.targetSet
  evaluateWatch := QueueOk.evaluateWatch
  positionOpen := QueueOk.positionOpen
  positionClosed := QueueOk.positionClosed
  exitRequested := QueueOk.exitRequested
  supervisionFault := QueueOk.supervisionFault
  foundNotice := QueueOk.foundNotice
  readVerifying := QueueOk.readVerifying
  lostNotice := QueueOk.lostNotice
  warningEnd := QueueOk.warningEnd
  runTimerEnd := QueueOk.runTimerEnd
  verifyFailed := QueueOk.verifyFailed
  shuntEnd := QueueOk.shuntEnd
  coolingEnd := QueueOk.coolingEnd
  deferralEnd := QueueOk.deferralEnd
  fireDoor := QueueOk.fireDoor
  restoreDoor := QueueOk.restoreDoor
  takeOutOfService := QueueOk.takeOutOfService
  returnToService := QueueOk.returnToService
  replaceDoor := QueueOk.replaceDoor
  endLastVisit := QueueOk.endLastVisit
  resetFaultDoor := QueueOk.resetFaultDoor
  abortDoor := QueueOk.abortDoor
  enterDoors {_ g} _ := QueueOk.enterDoors g
  startRequest {e p g} h := h.congr (startRequest_queue e p g).1 (startRequest_queue e p g).2
  completeRun {e r g} _ h := h.congr (completeRun_queue e r g).1 (completeRun_queue e r g).2
  endRun h := h.congr
  addExemption _ h := h.congr
  filterExemptions h := h.congr
  turnExemptions h := h.congr
  filterExceptions h := h.congr

/-- Settles O6: the queue's agreement with the door states is an invariant of the segment, so every step keeps it. -/
theorem queueHoldsAwaitGrant : Obligations.QueueHoldsAwaitGrant :=
  fun _ _ hs h => queueOk_invariant.step hs h

end Sys2Proof.Machine
end

section
/-! What the operations on the whole state leave alone outside the segment: the passing of seconds, headers, served requests and records;
with it the ranges of clock and trunk port (R4, R15, R16), and that every command completes. -/

namespace Sys2Proof.Machine

/-! ## Operations on the clock and the segment -/

/-- Clock and segment apart, the state is the same. -/
structure ClockSide (s t : State) : Prop where
  pending : t.pending = s.pending
  power : t.power = s.power
  fireInHigh : t.fireInHigh = s.fireInHigh
  trunk : t.trunk = s.trunk
  work : t.work = s.work
  stored : t.stored = s.stored
  store : t.store = s.store

theorem ClockSide.refl (s : State) : ClockSide s s := ⟨rfl, rfl, rfl, rfl, rfl, rfl, rfl⟩

theorem ClockSide.trans {s t u : State} (a : ClockSide s t) (b : ClockSide t u) : ClockSide s u :=
  ⟨b.pending.trans a.pending, b.power.trans a.power, b.fireInHigh.trans a.fireInHigh, b.trunk.trans a.trunk,
    b.work.trans a.work, b.stored.trans a.stored, b.store.trans a.store⟩

/-- The fired marks apart, the clock is the same. -/
def OnlyFired (c c' : Clock) : Prop := ∃ fired, c' = { c with fired := fired }

theorem OnlyFired.refl (c : Clock) : OnlyFired c c := ⟨c.fired, rfl⟩

theorem OnlyFired.trans {a b c : Clock} (h : OnlyFired a b) (k : OnlyFired b c) : OnlyFired a c := by
  obtain ⟨f, rfl⟩ := h
  obtain ⟨f', rfl⟩ := k
  exact ⟨f', rfl⟩

theorem OnlyFired.eq {c c' : Clock} (h : OnlyFired c c') : c' = { c with fired := c'.fired } := by
  obtain ⟨f, rfl⟩ := h
  rfl

/-- Clock and segment apart the state is the same, and of the clock all but the fired marks. -/
def FiresOnly (s t : State) : Prop := ClockSide s t ∧ OnlyFired s.clock t.clock

theorem FiresOnly.trans {s t u : State} (a : FiresOnly s t) (b : FiresOnly t u) : FiresOnly s u :=
  ⟨a.1.trans b.1, a.2.trans b.2⟩

theorem firesOnly_seg (s : State) (g : Segment) : FiresOnly s { s with seg := g } :=
  ⟨⟨rfl, rfl, rfl, rfl, rfl, rfl, rfl⟩, .refl _⟩

theorem fireEntry_firesOnly (m i : Nat) (s : State) : FiresOnly s (fireEntry m i s) := by
  unfold fireEntry
  split
  · exact firesOnly_seg s s.seg
  · dsimp only
    split
    · exact ⟨⟨rfl, rfl, rfl, rfl, rfl, rfl, rfl⟩, ⟨_, rfl⟩⟩
    · exact firesOnly_seg s s.seg

theorem fireMinute_firesOnly (m : Nat) (s : State) : FiresOnly s (fireMinute m s) := by
  have fold : ∀ (is : List Nat) (s : State), FiresOnly s (is.foldl (fun s i => fireEntry m i s) s) := by
    intro is
    induction is with
    | nil => exact fun s => firesOnly_seg s s.seg
    | cons i is ih => exact fun s => (fireEntry_firesOnly m i s).trans (ih _)
  exact (fold _ s).trans (firesOnly_seg _ _)

theorem boundary_firesOnly (s : State) : FiresOnly s (boundary s) := by
  unfold boundary; dsimp only
  split
  · exact (firesOnly_seg s _).trans ((firesOnly_seg _ _).trans (fireMinute_firesOnly _ _))
  · exact (firesOnly_seg s _).trans ((fireMinute_firesOnly _ _).trans (firesOnly_seg _ _))

theorem rollover_side (s : State) : ClockSide s (rollover s) := ⟨rfl, rfl, rfl, rfl, rfl, rfl, rfl⟩

/-- The midnight rollover at the clock (R24). -/
theorem rollover_clock (s : State) : (rollover s).clock =
    { s.clock with yesterday := s.clock.today, today := s.clock.tomorrow, tomorrow := 7, fired := .replicate 48 false } := rfl

theorem secondPasses_side (s : State) : ClockSide s (secondPasses s) := by
  have moved (t : Nat) : ClockSide s (s.atSecond t) := ⟨rfl, rfl, rfl, rfl, rfl, rfl, rfl⟩
  unfold secondPasses
  split
  · exact .refl s
  · dsimp only
    split
    · split
      · exact ((moved _).trans (rollover_side _)).trans (boundary_firesOnly _).1
      · exact (moved _).trans (boundary_firesOnly _).1
    · split
      · exact (moved _).trans (rollover_side _)
      · exact moved _

/-- An unknown second of day does not advance (R18). -/
theorem secondPasses_of_unknown {s : State} (h : s.clock.second = none) : secondPasses s = s := by
  unfold secondPasses
  rw [h]

/-- One second at a known clock (R18, R24): the second advances, over midnight the day types move up, and of the rest only fired marks
change. -/
theorem secondPasses_clock {s : State} {t : Nat} (h : s.clock.second = some t) :
    OnlyFired (if (t + 1) % Config.daySeconds = 0
        then { s.clock with second := some 0, yesterday := s.clock.today, today := s.clock.tomorrow, tomorrow := 7 }
        else { s.clock with second := some ((t + 1) % Config.daySeconds) }) (secondPasses s).clock := by
  unfold secondPasses
  rw [h]
  dsimp only
  by_cases h0 : (t + 1) % Config.daySeconds = 0
  · rw [if_pos h0, if_pos h0, if_pos (by rw [h0])]
    refine .trans ⟨.replicate 48 false, ?_⟩ (boundary_firesOnly _).2
    rw [rollover_clock, atSecond_clock, h0]
  · rw [if_neg h0, if_neg h0]
    split
    · exact (boundary_firesOnly _).2
    · exact .refl _

theorem secondsPass_side (n : Nat) (s : State) : ClockSide s (secondsPass n s) := by
  induction n generalizing s with
  | zero => exact .refl s
  | succ n ih => exact (secondPasses_side s).trans (ih _)

theorem tick_side (s : State) : ClockSide s (tick s) :=
  ClockSide.trans (t := restartPhase s) ⟨rfl, rfl, rfl, rfl, rfl, rfl, rfl⟩
    ((secondPasses_side _).trans (firesOnly_seg _ _).1)

theorem clockStep_side (dd : Int) (c : Nat) (h : Header) (s : State) : ClockSide s (clockStep dd c h s) := by
  have set : ClockSide s (if dd = 0 then restartPhase (s.atSecond h.second) else headerRestarts (s.atSecond h.second)) := by
    split <;> exact ⟨rfl, rfl, rfl, rfl, rfl, rfl, rfl⟩
  unfold clockStep; dsimp only
  split
  · exact (set.trans (rollover_side _)).trans ⟨rfl, rfl, rfl, rfl, rfl, rfl, rfl⟩
  · exact set.trans ⟨rfl, rfl, rfl, rfl, rfl, rfl, rfl⟩

theorem trackingHeader_side (h : Header) (s : State) : ClockSide s (trackingHeader h s) := by
  unfold trackingHeader; dsimp only
  split
  · exact ⟨rfl, rfl, rfl, rfl, rfl, rfl, rfl⟩
  · split
    · exact ⟨rfl, rfl, rfl, rfl, rfl, rfl, rfl⟩
    · exact ⟨rfl, rfl, rfl, rfl, rfl, rfl, rfl⟩
    · have sited : ClockSide s { s with clock := { s.clock with lastSite := h.site } } := ⟨rfl, rfl, rfl, rfl, rfl, rfl, rfl⟩
      exact (sited.trans (secondsPass_side _ _)).trans ⟨rfl, rfl, rfl, rfl, rfl, rfl, rfl⟩
    · have sited : ClockSide s { s with clock := { s.clock with lastSite := h.site } } := ⟨rfl, rfl, rfl, rfl, rfl, rfl, rfl⟩
      exact sited.trans (clockStep_side _ _ _ _)

/-! ## A served request -/

/-- What a request leaves at the trunk port and the clock: all but a pending RESTART and fired marks. -/
structure ServeKeeps (s t : State) : Prop where
  pending : t.pending = s.pending
  power : t.power = s.power
  fireInHigh : t.fireInHigh = s.fireInHigh
  trunk : t.trunk = { s.trunk with restartPending := t.trunk.restartPending }
  clock : OnlyFired s.clock t.clock

theorem ServeKeeps.refl (s : State) : ServeKeeps s s := ⟨rfl, rfl, rfl, rfl, .refl _⟩

/-- Tables, their stored copies and the segment have no part in it. -/
theorem ServeKeeps.of (s : State) (w : Tables) (st : StoredTables) (so : StoreState) (g : Segment) :
    ServeKeeps s { s with work := w, stored := st, store := so, seg := g } := ⟨rfl, rfl, rfl, rfl, .refl _⟩

theorem serveWrite_keeps (table i field : Nat) (v : Value) (s : State) : ServeKeeps s (serveWrite table i field v s).state := by
  have same (r : Result) : ServeKeeps s (refuseWith r s).state := .refl s
  unfold serveWrite
  split
  · exact same _
  · split
    · next t _ =>
      unfold writeStored
      split
      · exact same _
      · cases t with
        | segment =>
          unfold serveWriteSegment; dsimp only
          split <;> [exact same _; exact .of s _ s.stored s.store _]
        | slotmap =>
          unfold serveWriteSlotmap; dsimp only
          split <;> [exact same _; (split <;> [exact same _; exact .of s _ s.stored s.store s.seg])]
        | groupmap =>
          unfold serveWriteGroupmap; dsimp only
          split <;> [exact same _; (split <;> [exact same _; exact .of s _ s.stored s.store s.seg])]
        | door =>
          unfold serveWriteDoor; dsimp only
          split
          · split
            · exact same _
            · split <;> [exact same _; exact .of s _ s.stored s.store _]
          · exact same _
        | profile =>
          unfold serveWriteProfile; dsimp only
          split
          · split
            · exact same _
            · split <;> [exact same _; exact .of s _ s.stored s.store _]
          · exact same _
        | program =>
          unfold serveWriteProgram; dsimp only
          split
          · exact same _
          · split
            · exact same _
            · split <;> [exact same _; exact .of s _ s.stored s.store s.seg]
        | dayplan =>
          unfold serveWriteDayplan; dsimp only
          split <;> [exact same _; (split <;> [exact same _; exact ⟨rfl, rfl, rfl, rfl, ⟨_, rfl⟩⟩])]
    · have passage : ∀ high v', ServeKeeps s (serveWritePassage i high v' s).state := by
        intro high v'
        unfold serveWritePassage; dsimp only
        split <;> [exact .of s s.work s.stored s.store _; exact same _]
      unfold writeRuntime
      split
      · exact passage _ _
      · split
        · exact passage _ _
        · exact same _

theorem serve_keeps (q : Request) (s : State) : ServeKeeps s (serve q s).state := by
  have same (r : Result) : ServeKeeps s (refuseWith r s).state := .refl s
  have seg (g : Segment) : ServeKeeps s { s with seg := g } := .of s s.work s.stored s.store g
  unfold serve; dsimp only
  split
  · exact same _
  · unfold serveRead
    split <;> [exact same _; exact .refl s]
  · exact serveWrite_keeps _ _ _ _ s
  · unfold serveDoorService
    split
    · exact same _
    · exact same _
    · dsimp only
      split <;> [exact .refl s; exact seg _]
  · unfold serveClearEvents
    split <;> [exact same _; exact seg _]
  · unfold serveResetFault
    split <;> [exact same _; exact seg _]
  · unfold serveClearException
    split
    · exact same _
    · split <;> [exact same _; exact seg _]
  · unfold serveStore
    split
    · exact same _
    · split <;> [exact same _; exact .of s s.work s.stored _ s.seg]
  · unfold serveRestore
    split
    · exact same _
    · split
      · exact same _
      · split
        · exact same _
        · refine ⟨rfl, rfl, rfl, rfl, ?_⟩
          dsimp only [answerDone, restoreTable]
          rw [settled_clock, changeTables_clock]
          exact ⟨_, rfl⟩
  · unfold serveRestart
    split <;> [exact same _; exact ⟨rfl, rfl, rfl, rfl, .refl _⟩]

/-! ## Every command completes -/

section
variable {s : State}

theorem managementSlot_pending (r : TrunkRecord) (q : Request) (s : State) : (managementSlot r q s).pending = s.pending := by
  unfold managementSlot; dsimp only
  split
  · exact (serve_keeps q s).pending
  · split
    · exact (serve_keeps q s).pending
    · rfl

theorem commandSlot_pending (r : TrunkRecord) (c : CommandCode) (x : CommandSlot) (s : State) :
    (commandSlot r c x s).pending = s.pending := by
  unfold commandSlot
  split
  · rfl
  · dsimp only
    split <;> rfl

theorem validHeaderArrives_pending (r : TrunkRecord) (s : State) : (validHeaderArrives r s).pending = s.pending := by
  unfold validHeaderArrives; dsimp only
  rw [settled_pending, seg!_pending]
  split
  · exact (trackingHeader_side _ _).pending
  · rfl

theorem recordArrives_pending (r : TrunkRecord) (s : State) : (recordArrives r s).pending = s.pending := by
  unfold recordArrives
  split
  · split
    · rfl
    · unfold headerArrives
      split
      · exact validHeaderArrives_pending r s
      · rfl
    · split
      · unfold slotArrives
        split
        · rfl
        · split
          · rfl
          · exact managementSlot_pending _ _ s
        · split
          · rfl
          · exact commandSlot_pending _ _ _ s
        · rfl
      · rfl
  · rfl

theorem requestArrives_pending (q : Request) (s : State) : (requestArrives q s).pending = s.pending := by
  unfold requestArrives; dsimp only
  split
  · exact managementSlot_pending _ _ s
  · exact recordArrives_pending _ s

theorem commandArrives_pending (c : CommandCode) (x : CommandSlot) (s : State) : (commandArrives c x s).pending = s.pending := by
  unfold commandArrives; dsimp only
  split
  · exact commandSlot_pending _ _ _ s
  · exact recordArrives_pending _ s

theorem abandonStore_pending (s : State) : (abandonStore s).pending = s.pending := by
  unfold abandonStore
  split <;> rfl

theorem whenRunning_pending {f : State → State} (hf : (f s).pending = s.pending) : (whenRunning f s).pending = s.pending := by
  unfold whenRunning; split <;> [exact hf; rfl]

theorem unlessHeld_pending {f : State → State} (hf : (f s).pending = s.pending) : (unlessHeld f s).pending = s.pending := by
  unfold unlessHeld; split <;> [rfl; exact hf]

theorem whenInserted_pending (f : TrunkPort → TrunkPort) (s : State) : (whenInserted f s).pending = s.pending := by
  unfold whenInserted; split <;> rfl

theorem runSegment_pending (f : Env → Segment → Segment) (s : State) : (runSegment f s).pending = s.pending :=
  whenRunning_pending rfl

theorem tickArrives_pending (s : State) : (tickArrives s).pending = s.pending := by
  unfold tickArrives; split <;> [rfl; exact (tick_side s).pending]

theorem storeEntryDone_pending (s : State) : (storeEntryDone s).pending = s.pending := by
  unfold storeEntryDone
  split
  · rfl
  · dsimp only
    split <;> rfl

theorem completeLoad_pending (s : State) : (completeLoad s).pending = s.pending := by
  unfold completeLoad; dsimp only
  split <;> rfl

end

/-- Settles O4: each command's meaning is a next state, and none of the operations it is made of touches the waiting commands. -/
theorem everyCommandCompletes : Obligations.EveryCommandCompletes := by
  intro c s
  cases c with
  | powerOn | resetNRelease => exact ⟨_, rfl, abandonStore_pending s⟩
  | resetNAssert => exact ⟨_, rfl, abandonStore_pending s⟩
  | tableLoadComplete => exact ⟨_, rfl, completeLoad_pending s⟩
  | frameStart | frameTruncated | frameEnd => exact ⟨_, rfl, whenInserted_pending _ s⟩
  | headerRecord | slotRecord | statusSlot => exact ⟨_, rfl, recordArrives_pending _ s⟩
  | headerTimeout => exact ⟨_, rfl, unlessHeld_pending rfl⟩
  | read | write | writeSlotmap | writeGroupmap | writeDoor | writeProfile | writeProgram | writeDayplan | writeSegment
  | writePassageCounter | doorServiceOut | doorServiceReturn | clearDoorEvents | resetFault | clearException | store | restore
  | restart | unknownRequestKind => exact ⟨_, rfl, requestArrives_pending _ s⟩
  | secureGroup | releaseGroup | resumeSchedule | exemptReleased | exemptSecured | endExemption | startProgram | abortRun
  | fireRestore => exact ⟨_, rfl, commandArrives_pending _ _ s⟩
  | storeEntryComplete => exact ⟨_, rfl, whenRunning_pending (storeEntryDone_pending s)⟩
  | restartBegin =>
    refine ⟨_, rfl, whenRunning_pending ?_⟩
    split <;> [exact abandonStore_pending s; rfl]
  | clockTick => exact ⟨_, rfl, unlessHeld_pending (tickArrives_pending s)⟩
  | fireInChange => exact ⟨_, rfl, whenRunning_pending (s := { s with fireInHigh := _ }) rfl⟩
  | branchSlotStart | flashPhaseFlip => exact ⟨_, rfl, whenRunning_pending rfl⟩
  | lineFault | lineNormal => exact ⟨_, rfl, unlessHeld_pending rfl⟩
  | firePersistenceExpiry | replyWindowEnd | dwellTick | proppedBegins | timeSinceCloseTick | windowExpiry | tailExpiry
  | deferralSecond | deferralExpiry | warningExpiry | runTimerExpiry | verifyExpiry | exitShuntExpiry | exitWindowExpiry
  | coolingExpiry | stepOffsetSecond | stepStart => exact ⟨_, rfl, runSegment_pending _ s⟩

end Sys2Proof.Machine
end

section
/-! Clock and trunk port stay in their ranges and agree (R4, R15, R16). -/

namespace Sys2Proof.Machine

/-! ## The segment clock -/

theorem ClockOk.onlyFired {c c' : Clock} (h : ClockOk c) (hc : OnlyFired c c') : ClockOk c' := by
  obtain ⟨fired, rfl⟩ := hc
  exact ⟨h.second, h.phase, h.today, h.tomorrow, h.yesterday⟩

theorem OnlyFired.second {c c' : Clock} (hc : OnlyFired c c') : c'.second = c.second := by
  obtain ⟨fired, rfl⟩ := hc
  rfl

theorem ClockOk.rollover {c : Clock} (h : ClockOk c) {fired : Vector Bool 48} :
    ClockOk { c with yesterday := c.today, today := c.tomorrow, tomorrow := 7, fired := fired } :=
  ⟨h.second, h.phase, h.tomorrow, le_refl 7, h.today⟩

theorem ClockOk.atSecond {c : Clock} (h : ClockOk c) {t : Nat} (ht : t < Config.daySeconds) :
    ClockOk { c with second := some t } :=
  ⟨fun _ hu => Option.some.inj hu ▸ ht, h.phase, h.today, h.tomorrow, h.yesterday⟩

theorem ClockOk.restartPhase {c : Clock} (h : ClockOk c) : ClockOk { c with phase := 0 } :=
  ⟨h.second, Nat.zero_lt_succ _, h.today, h.tomorrow, h.yesterday⟩

theorem ClockOk.dayTypes {c : Clock} (h : ClockOk c) {a b : Nat} (ha : a ≤ 7) (hb : b ≤ 7) :
    ClockOk { c with today := a, tomorrow := b } := ⟨h.second, h.phase, ha, hb, h.yesterday⟩

/-- What is not a quantity of R16 has no part in it. -/
theorem ClockOk.marks {c : Clock} (h : ClockOk c) {js : Bool} {site : SiteCommand} :
    ClockOk { c with justSet := js, lastSite := site } := ⟨h.second, h.phase, h.today, h.tomorrow, h.yesterday⟩

/-- A second keeps a known clock known and in its ranges. -/
structure Ticks (s t : State) : Prop where
  ok : ClockOk s.clock → ClockOk t.clock
  known : t.clock.second.isSome = s.clock.second.isSome

theorem Ticks.trans {s t u : State} (a : Ticks s t) (b : Ticks t u) : Ticks s u :=
  ⟨fun h => b.ok (a.ok h), b.known.trans a.known⟩

theorem secondPasses_ticks (s : State) : Ticks s (secondPasses s) := by
  cases hs : s.clock.second with
  | none => rw [secondPasses_of_unknown hs]; exact ⟨id, rfl⟩
  | some t =>
    have hc := secondPasses_clock hs
    have hlt : (t + 1) % Config.daySeconds < Config.daySeconds := Nat.mod_lt _ (by decide)
    refine ⟨fun h => ClockOk.onlyFired ?_ hc, ?_⟩
    · split
      · exact ((h.atSecond (by decide : 0 < Config.daySeconds)).rollover (fired := s.clock.fired))
      · exact h.atSecond hlt
    · rw [hc.second, hs]
      split <;> rfl

theorem secondsPass_ticks (n : Nat) (s : State) : Ticks s (secondsPass n s) := by
  induction n generalizing s with
  | zero => exact ⟨id, rfl⟩
  | succ n ih => exact (secondPasses_ticks s).trans (ih _)

theorem tick_ticks (s : State) : Ticks s (tick s) :=
  Ticks.trans (t := restartPhase s) ⟨ClockOk.restartPhase, rfl⟩ ((secondPasses_ticks _).trans ⟨id, rfl⟩)

theorem clockMs_ticks (s : State) : Ticks s (clockMs s) := by
  unfold clockMs; dsimp only
  split
  · next hlt => exact ⟨fun h => ⟨h.second, hlt, h.today, h.tomorrow, h.yesterday⟩, rfl⟩
  · exact Ticks.trans (t := setJustSet false s) ⟨fun h => h.marks (site := s.clock.lastSite), rfl⟩ (tick_ticks _)

/-- The quantities of a header that R3 lets pass. -/
structure HeaderOk (h : Header) : Prop where
  second : h.second < Config.daySeconds
  today : h.today ≤ 7
  tomorrow : h.tomorrow ≤ 7

theorem headerOk_of_valid {r : TrunkRecord} (h : headerIsValid r = true) : HeaderOk (headerOf r) := by
  simp only [headerIsValid, Bool.and_eq_true, decide_eq_true_eq] at h
  obtain ⟨⟨⟨-, hs⟩, ht⟩, hm⟩ := h
  exact ⟨hs, by omega, by omega⟩

theorem clockStep_clockOk {dd : Int} {c : Nat} {h : Header} {s : State} (hh : HeaderOk h) (hs : ClockOk s.clock) :
    ClockOk (clockStep dd c h s).clock ∧ (clockStep dd c h s).clock.second.isSome = true := by
  let set := if dd = 0 then restartPhase (s.atSecond h.second) else headerRestarts (s.atSecond h.second)
  have hset : ClockOk set.clock ∧ set.clock.second = some h.second := by
    show ClockOk (ite _ _ _ : State).clock ∧ (ite _ _ _ : State).clock.second = _
    split
    · exact ⟨(hs.atSecond hh.second).restartPhase, rfl⟩
    · exact ⟨((hs.atSecond hh.second).restartPhase).marks (site := s.clock.lastSite), rfl⟩
  have hroll : ClockOk (rollover set).clock ∧ (rollover set).clock.second = some h.second := by
    rw [rollover_clock]
    exact ⟨hset.1.rollover, hset.2⟩
  unfold clockStep; dsimp only
  rw [tellMinute_clock, seg!_clock, setDayTypes_clock]
  split
  · exact ⟨hroll.1.dayTypes hh.today hh.tomorrow, Option.isSome_iff_exists.2 ⟨_, hroll.2⟩⟩
  · exact ⟨hset.1.dayTypes hh.today hh.tomorrow, Option.isSome_iff_exists.2 ⟨_, hset.2⟩⟩

/-- A TRACKING header leaves the clock known and in its ranges (R17, R19). -/
theorem trackingHeader_clockOk {h : Header} {s : State} (hh : HeaderOk h) (hs : ClockOk s.clock) :
    ClockOk (trackingHeader h s).clock ∧ (trackingHeader h s).clock.second.isSome = true := by
  have sited : ClockOk { s.clock with lastSite := h.site } := hs.marks (js := s.clock.justSet)
  unfold trackingHeader; dsimp only
  split
  · exact ⟨(((sited.atSecond hh.second).dayTypes hh.today hh.tomorrow).restartPhase).marks (site := h.site), rfl⟩
  · next c hc =>
    have known : s.clock.second.isSome = true := by rw [hc]; rfl
    split
    · exact ⟨sited, known⟩
    · exact ⟨sited.dayTypes sited.today hh.tomorrow, known⟩
    · next d _ =>
      have passed := secondsPass_ticks d { s with clock := { s.clock with lastSite := h.site } }
      have ok := passed.ok sited
      exact ⟨((ok.dayTypes ok.today hh.tomorrow).restartPhase).marks
        (site := (secondsPass d { s with clock := { s.clock with lastSite := h.site } }).clock.lastSite), passed.known.trans known⟩
    · exact clockStep_clockOk hh sited

/-! ## The trunk port -/

section
variable {s t : State}

/-- What the invariant reads of the state. -/
theorem TimeOk.congr (h : TimeOk s) (htrunk : t.trunk = s.trunk := by rfl) (hclock : ClockOk t.clock)
    (hknown : t.clock.second.isSome = s.clock.second.isSome := by rfl) (hpower : t.power = s.power := by rfl) : TimeOk t where
  port := htrunk ▸ h.port
  clock := hclock
  known := by rw [hknown, htrunk]; exact h.known
  insert := by rw [hpower, htrunk]; exact h.insert

/-- An operation that leaves trunk port and clock, fired marks apart, and the power state. -/
theorem TimeOk.firesOnly (h : TimeOk s) (htrunk : t.trunk = s.trunk) (hclock : OnlyFired s.clock t.clock)
    (hpower : t.power = s.power) : TimeOk t :=
  h.congr htrunk (h.clock.onlyFired hclock) (by rw [hclock.second]) hpower

theorem TimeOk.ticks (h : TimeOk s) (k : ClockSide s t) (c : Ticks s t) : TimeOk t :=
  h.congr k.trunk (c.ok h.clock) c.known k.power

/-- A new trunk port of the same trunk state within a frame or between frames, while INSERT is asserted. -/
theorem TimeOk.port_of_inserted (h : TimeOk s) (hi : s.trunk.inserted = true) {f : TrunkPort → TrunkPort}
    (hins : (f s.trunk).inserted = s.trunk.inserted := by rfl) (hstate : (f s.trunk).state = s.trunk.state := by rfl)
    (haddr : (f s.trunk).address = s.trunk.address := by rfl) (hcount : (f s.trunk).count ≤ 3)
    (hsince : (f s.trunk).sinceHeader = s.trunk.sinceHeader := by rfl) (hphase : (f s.trunk).phase.ok) : TimeOk (s.port f) where
  port :=
    { count := hcount
      sinceHeader := by rw [port_trunk, hsince]; exact h.port.sinceHeader
      address := by rw [port_trunk, haddr]; exact h.port.address
      phase := hphase
      idle := fun h' => by rw [port_trunk, hins, hi] at h'; cases h' }
  clock := h.clock
  known := by rw [port_trunk, hstate]; exact h.known
  insert := by rw [port_trunk, hins]; exact h.insert

theorem close_ok (p : TrunkPort) : p.close.phase.ok := trivial

theorem TimeOk.mark (h : TimeOk s) (f : TrunkPort → TrunkPort)
    (hf : ∀ p, f p = p ∨ f p = p.open ∨ f p = p.close ∨ f p = p.invalidHeader.close ∨ f p = p.close.reopen
      ∨ f p = p.invalidHeader.close.reopen) : TimeOk (whenInserted f s) := by
  unfold whenInserted
  split
  · next hi =>
    have hi : s.trunk.inserted = true := hi
    show TimeOk { s with trunk := f s.trunk }
    rcases hf s.trunk with hfp | hfp | hfp | hfp | hfp | hfp <;> rw [hfp]
    · exact h
    · exact h.port_of_inserted hi (f := TrunkPort.open) (hcount := h.port.count) (hphase := trivial)
    · exact h.port_of_inserted hi (f := TrunkPort.close) (hcount := h.port.count) (hphase := trivial)
    · exact h.port_of_inserted hi (f := fun p => p.invalidHeader.close) (hcount := Nat.zero_le _) (hphase := trivial)
    · exact h.port_of_inserted hi (f := fun p => p.close.reopen) (hcount := h.port.count) (hphase := trivial)
    · exact h.port_of_inserted hi (f := fun p => p.invalidHeader.close.reopen) (hcount := Nat.zero_le _) (hphase := trivial)
  · exact h

/-- What a truncation makes of the port within a frame. -/
theorem truncate_of_frame {p : TrunkPort} (h : p.phase ≠ .outside) :
    p.truncate = p.close ∨ p.truncate = p.invalidHeader.close := by
  unfold TrunkPort.truncate
  split
  · contradiction
  · exact .inr rfl
  · exact .inl rfl

/-- No frame is truncated outside one. -/
theorem truncate_outside {p : TrunkPort} (h : p.phase = .outside) : p.truncate = p := by
  unfold TrunkPort.truncate
  rw [h]

theorem TimeOk.frameStart (h : TimeOk s) : TimeOk (whenInserted TrunkPort.start s) := by
  refine h.mark _ fun p => ?_
  unfold TrunkPort.start
  split
  · exact .inr (.inl rfl)
  · next hp => rcases truncate_of_frame hp with hc | hc <;> rw [hc] <;> simp

theorem TimeOk.frameTruncated (h : TimeOk s) (c : Truncation) : TimeOk (whenInserted (fun p => p.cut c) s) := by
  refine h.mark _ fun p => ?_
  by_cases hp : p.phase = .outside
  · exact .inl (by simp only [TrunkPort.cut, hp])
  · have cut : p.cut c = p.truncate ∨ p.cut c = p.truncate.reopen := by
      unfold TrunkPort.cut
      split
      · contradiction
      · exact .inr rfl
      · exact .inl rfl
    rcases truncate_of_frame hp with hc | hc <;> rcases cut with hk | hk <;> rw [hk, hc] <;> simp

theorem TimeOk.frameEnd (h : TimeOk s) : TimeOk (whenInserted TrunkPort.endMarker s) := by
  refine h.mark _ fun p => ?_
  by_cases hp : p.phase = .outside
  · exact .inl (truncate_outside hp)
  · rcases truncate_of_frame hp with hc | hc <;> simp [TrunkPort.endMarker, hc]

/-- A record forwarded in slot n below 64, where INSERT is asserted. -/
theorem TimeOk.forward {r : TrunkRecord} {n : Nat} (h : TimeOk s) (hp : s.trunk.phase = .slots n) (hn : n < 64)
    (hi : s.trunk.inserted = true) : TimeOk (forward r s) :=
  h.port_of_inserted hi (f := TrunkPort.accept r) (hcount := h.port.count) (hphase := by
    simp only [TrunkPort.accept, hp]
    exact hn)

theorem TimeOk.serve (h : TimeOk s) (q : Request) : TimeOk (serve q s).state := by
  have k := serve_keeps q s
  have port : TimeOk { s with trunk := (Machine.serve q s).state.trunk } := by
    rw [k.trunk]
    exact ⟨⟨h.port.count, h.port.sinceHeader, h.port.address, h.port.phase, h.port.idle⟩, h.clock, h.known, h.insert⟩
  exact port.firesOnly rfl k.clock k.power

theorem TimeOk.managementSlot {r : TrunkRecord} {q : Request} {n : Nat} (h : TimeOk s) (hp : s.trunk.phase = .slots n)
    (hn : n < 64) (hi : s.trunk.inserted = true) : TimeOk (managementSlot r q s) := by
  have k := (serve_keeps q s).trunk
  have served {r'} : TimeOk (Machine.forward r' (Machine.serve q s).state) :=
    (h.serve q).forward (by rw [k]; exact hp) hn (by rw [k]; exact hi)
  unfold Machine.managementSlot; dsimp only
  split
  · exact served
  · split
    · exact served
    · exact h.forward hp hn hi

theorem TimeOk.commandSlot {r : TrunkRecord} {c : CommandCode} {x : CommandSlot} {n : Nat} (h : TimeOk s)
    (hp : s.trunk.phase = .slots n) (hn : n < 64) (hi : s.trunk.inserted = true) : TimeOk (commandSlot r c x s) := by
  have seg (g : Segment) : TimeOk { s with seg := g } := h.firesOnly rfl (.refl _) rfl
  unfold Machine.commandSlot
  split
  · exact h.forward hp hn hi
  · dsimp only
    split
    · exact (seg _).forward hp hn hi
    · exact (seg _).forward hp hn hi

/-! ## Headers -/

@[simp] theorem validHeaderArrives_power (r : TrunkRecord) (s : State) : (validHeaderArrives r s).power = s.power := by
  unfold validHeaderArrives; dsimp only
  rw [settled_power, seg!_power]
  split
  · exact (trackingHeader_side _ _).power
  · rfl

/-- What a valid header leaves in the trunk port (R2, R3, R4). -/
@[simp] theorem validHeaderArrives_trunk (r : TrunkRecord) (s : State) :
    (validHeaderArrives r s).trunk = s.trunk.validHeader.holdHeader r true := by
  unfold validHeaderArrives; dsimp only
  rw [settled_trunk, seg!_trunk]
  split
  · exact (trackingHeader_side _ _).trunk
  · rfl

/-- The segment clock takes a valid header in TRACKING alone (R3). -/
theorem validHeaderArrives_clock (r : TrunkRecord) (s : State) : (validHeaderArrives r s).clock =
    if s.trunk.validHeader.state = .tracking
    then (trackingHeader (headerOf r) (s.port (fun p => p.validHeader.holdHeader r true))).clock else s.clock := by
  unfold validHeaderArrives; dsimp only
  rw [settled_clock, seg!_clock]
  split
  · next h => rw [if_pos (show s.trunk.validHeader.state = .tracking from h)]
  · next h => rw [if_neg (show ¬ s.trunk.validHeader.state = .tracking from h)]; rfl

/-- A valid header brings TRACKING or leaves the trunk state (R4). -/
theorem afterHeader_eq_of_ne_tracking {t : TrunkState} {n : Nat} (h : t.afterHeader n ≠ .tracking) : t.afterHeader n = t := by
  cases t with
  | tracking => rfl
  | noTime | holdover =>
    dsimp only [TrunkState.afterHeader] at h ⊢
    split at h
    · exact absurd rfl h
    · next hn => rw [if_neg hn]

/-- A valid header keeps the clock known exactly outside NO_TIME: the header that brings TRACKING sets it (R4, R17). -/
theorem TimeOk.validHeader {r : TrunkRecord} (h : TimeOk s) (hi : s.trunk.inserted = true) (hr : headerIsValid r = true) :
    TimeOk (validHeaderArrives r s) := by
  have clock := trackingHeader_clockOk (s := s.port (fun p => p.validHeader.holdHeader r true)) (headerOk_of_valid hr) h.clock
  refine ⟨?_, ?_, ?_, ?_⟩
  · rw [validHeaderArrives_trunk]
    exact ⟨Nat.min_le_left 3 _, Nat.zero_le _, h.port.address, Nat.zero_le _,
      fun h' => absurd hi (by rw [show s.trunk.inserted = false from h']; decide)⟩
  · rw [validHeaderArrives_clock]
    split <;> [exact clock.1; exact h.clock]
  · rw [validHeaderArrives_clock, validHeaderArrives_trunk]
    show _ ↔ s.trunk.validHeader.state ≠ .noTime
    split
    · next ht => simp [ht, clock.2]
    · next ht =>
      rw [show s.trunk.validHeader.state = s.trunk.state from afterHeader_eq_of_ne_tracking ht]
      exact h.known
  · rw [validHeaderArrives_power, validHeaderArrives_trunk]
    exact h.insert

theorem TimeOk.recordArrives {r : TrunkRecord} (h : TimeOk s) : TimeOk (recordArrives r s) := by
  unfold Machine.recordArrives
  split
  · next hi =>
    have hi : s.trunk.inserted = true := hi
    split
    · exact h
    · unfold headerArrives
      split
      · next hr => exact h.validHeader hi hr
      · exact h.port_of_inserted hi (f := fun p => p.invalidHeader.holdHeader r false) (hcount := Nat.zero_le _)
          (hphase := Nat.zero_le _)
    · next n hp =>
      split
      · next hn =>
        unfold slotArrives
        split
        · exact h.forward hp hn hi
        · split
          · exact h.forward hp hn hi
          · exact h.managementSlot hp hn hi
        · split
          · exact h.forward hp hn hi
          · exact h.commandSlot hp hn hi
        · exact h.forward hp hn hi
      · exact h.port_of_inserted hi (f := TrunkPort.close) (hcount := h.port.count) (hphase := trivial)
  · exact h

theorem TimeOk.requestArrives {q : Request} (h : TimeOk s) : TimeOk (requestArrives q s) := by
  unfold Machine.requestArrives; dsimp only
  split
  · next hc => exact h.managementSlot hc.2.1 (by decide) hc.1
  · exact h.recordArrives

/-- A slot that is routed to a role is awaited below 64, where INSERT is asserted (R9, R15). -/
theorem slot_of_routesTo {x : Route} (h : s.routesTo x = true) :
    ∃ n, s.trunk.phase = .slots n ∧ n < 64 ∧ s.trunk.inserted = true := by
  obtain ⟨n, hn, -⟩ := (Option.any_eq_true ..).1 h
  unfold State.slotNow at hn
  split at hn
  · next hi =>
    split at hn
    · next m hm =>
      split at hn
      · next hlt => exact ⟨m, hm, hlt, hi⟩
      · cases hn
    · cases hn
  · cases hn

theorem TimeOk.commandArrives {c : CommandCode} {x : CommandSlot} (h : TimeOk s) : TimeOk (commandArrives c x s) := by
  unfold Machine.commandArrives; dsimp only
  split
  · next hr =>
    obtain ⟨n, hp, hn, hi⟩ := slot_of_routesTo hr
    exact h.commandSlot hp hn hi
  · exact h.recordArrives

/-- The header timeout leaves TRACKING for HOLDOVER, with the clock known in both (R4). -/
theorem TimeOk.timeout (h : TimeOk s) : TimeOk (s.port TrunkPort.timeout) := by
  show TimeOk { s with trunk := s.trunk.timeout }
  unfold TrunkPort.timeout; dsimp only
  split
  · next ht =>
    have known := h.known
    rw [ht] at known
    exact ⟨⟨Nat.zero_le _, le_refl 2000, h.port.address, h.port.phase, h.port.idle⟩, h.clock, by simpa using known, h.insert⟩
  · exact ⟨⟨h.port.count, le_refl 2000, h.port.address, h.port.phase, h.port.idle⟩, h.clock, h.known, h.insert⟩

theorem TimeOk.headerMs (h : TimeOk s) : TimeOk (headerMs s) := by
  unfold Machine.headerMs
  split
  · next hlt => exact ⟨⟨h.port.count, hlt.le, h.port.address, h.port.phase, h.port.idle⟩, h.clock, h.known, h.insert⟩
  · split
    · exact h.timeout
    · exact h

/-! ## Resets -/

theorem addressOf_range {strap : BitVec 5} {a : Nat} (h : addressOf strap = some a) : 1 ≤ a ∧ a ≤ 24 := by
  unfold addressOf at h
  split at h
  · next hr => exact Option.some.inj h ▸ hr
  · cases h

theorem timeOk_of_initial {a : Option Nat} (ha : ∀ n, a = some n → 1 ≤ n ∧ n ≤ 24) (ht : t.trunk = .initial a)
    (hc : t.clock = .initial) (hp : t.power ≠ .running ∧ t.power ≠ .reloading) : TimeOk t where
  port := by rw [ht]; exact ⟨Nat.zero_le _, Nat.zero_le _, ha, trivial, fun _ => rfl⟩
  clock := by rw [hc]; exact ⟨fun _ h => (nomatch h), Nat.zero_lt_succ _, le_refl 7, le_refl 7, le_refl 7⟩
  known := by rw [ht, hc]; simp [Clock.initial, TrunkPort.initial]
  insert := by rw [ht]; simp [TrunkPort.initial, hp]

theorem powerUp_timeOk (strap : BitVec 5) (s : State) : TimeOk (powerUp strap s) :=
  timeOk_of_initial (fun _ => addressOf_range) rfl rfl ⟨Power.noConfusion, Power.noConfusion⟩

/-- Abandoning a store write has no part in trunk port, clock and power state. -/
theorem abandonStore_side (s : State) : (abandonStore s).pending = s.pending ∧ (abandonStore s).power = s.power
    ∧ (abandonStore s).fireInHigh = s.fireInHigh ∧ (abandonStore s).trunk = s.trunk ∧ (abandonStore s).clock = s.clock
    ∧ (abandonStore s).work = s.work := by
  unfold abandonStore
  split <;> simp

theorem TimeOk.holdReset (h : TimeOk s) : TimeOk (holdReset s) := by
  obtain ⟨-, -, -, htrunk, -, -⟩ := abandonStore_side s
  exact timeOk_of_initial (a := s.trunk.address) h.port.address (by rw [← htrunk]; rfl) rfl ⟨Power.noConfusion, Power.noConfusion⟩

theorem TimeOk.completeLoad (h : TimeOk s) : TimeOk (completeLoad s) := by
  unfold Machine.completeLoad; dsimp only
  split
  · exact ⟨⟨h.port.count, h.port.sinceHeader, h.port.address, h.port.phase, fun h' => nomatch h'⟩, h.clock, h.known,
      ⟨fun _ => .inl rfl, fun _ => rfl⟩⟩
  · exact h

theorem TimeOk.beginRestart (h : TimeOk s) (hp : s.power = .running) : TimeOk (beginRestart s) := by
  obtain ⟨-, -, -, htrunk, hclock, -⟩ := abandonStore_side s
  have trunk : (Machine.beginRestart s).trunk = { s.trunk with restartPending := false } := by rw [← htrunk]; rfl
  have clock : (Machine.beginRestart s).clock = { s.clock with lastSite := .normal } := by rw [← hclock]; rfl
  refine ⟨?_, ?_, ?_, ?_⟩
  · rw [trunk]; exact ⟨h.port.count, h.port.sinceHeader, h.port.address, h.port.phase, h.port.idle⟩
  · rw [clock]; exact h.clock.marks (js := s.clock.justSet)
  · rw [trunk, clock]; exact h.known
  · rw [trunk]; exact ⟨fun _ => .inr rfl, fun _ => h.insert.2 (.inl hp)⟩

/-! ## Time and events -/

theorem storeEntryDone_side (s : State) : (storeEntryDone s).trunk = s.trunk ∧ (storeEntryDone s).clock = s.clock
    ∧ (storeEntryDone s).power = s.power := by
  unfold storeEntryDone
  split
  · simp
  · dsimp only
    split <;> simp

theorem TimeOk.storeEntryDone (h : TimeOk s) : TimeOk (storeEntryDone s) := by
  obtain ⟨htrunk, hclock, hpower⟩ := storeEntryDone_side s
  exact h.firesOnly htrunk (hclock ▸ .refl _) hpower

theorem TimeOk.seg (h : TimeOk s) (g : Segment) : TimeOk { s with seg := g } := h.firesOnly rfl (.refl _) rfl

theorem TimeOk.runSegment (h : TimeOk s) (f : Env → Segment → Segment) : TimeOk (runSegment f s) := by
  unfold Machine.runSegment whenRunning
  split
  · exact h.firesOnly rfl (.refl _) rfl
  · exact h

theorem TimeOk.whenRunning {f : State → State} (h : TimeOk s) (hf : s.power = .running → TimeOk (f s)) :
    TimeOk (whenRunning f s) := by
  unfold Machine.whenRunning
  split
  · next hp => exact hf hp
  · exact h

theorem TimeOk.unlessHeld {f : State → State} (h : TimeOk s) (hf : TimeOk (f s)) : TimeOk (unlessHeld f s) := by
  unfold Machine.unlessHeld; split <;> [exact h; exact hf]

theorem TimeOk.storeMs (h : TimeOk s) : TimeOk (storeMs s) := by
  unfold Machine.storeMs
  split
  · exact h
  · split
    · exact h.firesOnly rfl (.refl _) rfl
    · exact h.storeEntryDone

theorem TimeOk.elapse (h : TimeOk s) : TimeOk (elapse s) := by
  refine h.unlessHeld ?_
  dsimp only
  have advanced : TimeOk (if s.power = .running then { s with seg := s.seg.advance } else s) := by
    split <;> [exact h.seg _; exact h]
  have clock : ∀ {u : State}, TimeOk u → TimeOk (clockMs u) := by
    intro u hu
    refine hu.ticks ?_ (clockMs_ticks u)
    unfold clockMs; dsimp only
    split
    · exact ⟨rfl, rfl, rfl, rfl, rfl, rfl, rfl⟩
    · exact ClockSide.trans (t := setJustSet false u) ⟨rfl, rfl, rfl, rfl, rfl, rfl, rfl⟩ (tick_side _)
  have run := (clock advanced.headerMs).runSegment segmentMs
  exact run.whenRunning fun _ => run.storeMs

theorem TimeOk.exec (h : TimeOk s) (c : Instr) : ∃ t, exec c s = .next t ∧ TimeOk t := by
  cases c with
  | powerOn | resetNRelease => exact ⟨_, rfl, powerUp_timeOk _ s⟩
  | resetNAssert => exact ⟨_, rfl, h.holdReset⟩
  | tableLoadComplete => exact ⟨_, rfl, h.completeLoad⟩
  | frameStart => exact ⟨_, rfl, h.frameStart⟩
  | frameTruncated c => exact ⟨_, rfl, h.frameTruncated c⟩
  | frameEnd => exact ⟨_, rfl, h.frameEnd⟩
  | headerRecord | slotRecord | statusSlot => exact ⟨_, rfl, h.recordArrives⟩
  | headerTimeout =>
    refine ⟨_, rfl, h.unlessHeld ?_⟩
    show TimeOk { s with trunk := s.trunk.timeoutArrives }
    unfold TrunkPort.timeoutArrives
    split
    · exact h
    · exact h.timeout
  | read | write | writeSlotmap | writeGroupmap | writeDoor | writeProfile | writeProgram | writeDayplan | writeSegment
  | writePassageCounter | doorServiceOut | doorServiceReturn | clearDoorEvents | resetFault | clearException | store | restore
  | restart | unknownRequestKind => exact ⟨_, rfl, h.requestArrives⟩
  | secureGroup | releaseGroup | resumeSchedule | exemptReleased | exemptSecured | endExemption | startProgram | abortRun
  | fireRestore => exact ⟨_, rfl, h.commandArrives⟩
  | storeEntryComplete => exact ⟨_, rfl, h.whenRunning fun _ => h.storeEntryDone⟩
  | restartBegin =>
    refine ⟨_, rfl, h.whenRunning fun hp => ?_⟩
    split <;> [exact h.beginRestart hp; exact h]
  | clockTick =>
    refine ⟨_, rfl, h.unlessHeld ?_⟩
    unfold tickArrives
    split
    · exact h.congr (hclock := h.clock.marks (site := s.clock.lastSite))
    · exact h.ticks (tick_side s) (tick_ticks s)
  | fireInChange high =>
    have pinned : TimeOk { s with fireInHigh := high } := h.firesOnly rfl (.refl _) rfl
    refine ⟨_, rfl, ?_⟩
    unfold pinChanges; dsimp only
    exact pinned.whenRunning fun _ => pinned.firesOnly rfl (.refl _) rfl
  | branchSlotStart | flashPhaseFlip => exact ⟨_, rfl, h.whenRunning fun _ => h.seg _⟩
  | lineFault | lineNormal => exact ⟨_, rfl, h.unlessHeld (h.seg _)⟩
  | firePersistenceExpiry | replyWindowEnd | dwellTick | proppedBegins | timeSinceCloseTick | windowExpiry | tailExpiry
  | deferralSecond | deferralExpiry | warningExpiry | runTimerExpiry | verifyExpiry | exitShuntExpiry | exitWindowExpiry
  | coolingExpiry | stepOffsetSecond | stepStart => exact ⟨_, rfl, h.runSegment _⟩

end

/-- Settles O7: each command, and a millisecond on an empty queue, keeps the ranges and the agreement. -/
theorem timeStaysKnown : Obligations.TimeStaysKnown := by
  intro s t hs h
  unfold step at h
  split at h
  · obtain rfl := Host.Outcome.next.inj h
    exact hs.elapse
  · next c rest _ =>
    have popped : TimeOk { s with pending := rest } := hs.firesOnly rfl (.refl _) rfl
    obtain ⟨u, hu, hok⟩ := popped.exec c
    obtain rfl := Host.Outcome.next.inj (hu.symm.trans h)
    exact hok

end Sys2Proof.Machine
end

section
/-! What a reset leaves, the front of the queue, and the segment condition (R6, R14, R16, R175). -/

namespace Sys2Proof.Machine

/-! ## The state after a reset -/

theorem initial_door (x : SegmentEntry) (n : Nat) (d : DoorNo) : (Segment.initial x n).door d = .initial x.params :=
  Vector.getElem_replicate _

theorem initial_branch (x : SegmentEntry) (n : Nat) (b : BranchNo) : (Segment.initial x n).branch b = .initial :=
  Vector.getElem_replicate _

/-- Erased tables load as the defaults, without a mark (R175). -/
theorem loadTables_erased : loadTables .erased = .default := by
  have hs : loadSlotmap (.replicate 8 .erased) = .replicate 8 ⟨none, false⟩ := by decide
  have hg : loadGroupmap (.replicate 32 .erased) = .replicate 32 ⟨none, false⟩ := by decide
  have hc : (vgen 7 fun i => TableName.all[i.val]?.any fun t => StoredTables.erased.correctedMark t)
      = .replicate 7 false := by decide
  unfold loadTables
  rw [hc]
  exact congrArg₂ (fun s g => { Tables.default with slotmap := s, groupmap := g }) hs hg

/-- Settles O1: each block is read off the state of reset; the doors and branches are copies of one, and erased tables load as
the defaults. -/
theorem resetState : Obligations.ResetState := by
  unfold Obligations.ResetState
  refine ⟨rfl, rfl, rfl, ⟨rfl, rfl, rfl, rfl, rfl, rfl⟩, ⟨rfl, rfl, rfl, rfl, rfl, rfl, ?_⟩, ⟨?_, rfl, rfl⟩, ?_, ?_,
    ⟨rfl, rfl, rfl, rfl, rfl, rfl, rfl⟩⟩
  · exact fun i => Vector.getElem_replicate _
  · exact loadTables_erased.symm
  · intro d
    have hd : State.reset.seg.door d = .initial .default := initial_door _ _ d
    rw [hd]
    exact ⟨rfl, rfl, rfl, rfl, rfl, rfl⟩
  · intro b
    have hb : State.reset.seg.branch b = .initial := initial_branch _ _ b
    rw [hb]
    rfl

/-- Settles O2: the segment of reset is the initial one of both invariants, and trunk port and clock are at rest. -/
theorem resetMeetsInvariants : Obligations.ResetMeetsInvariants :=
  ⟨segmentOk_invariant.initial _ _, queueOk_invariant.initial _ _,
    timeOk_of_initial (a := none) (fun _ h => nomatch h) rfl rfl ⟨by decide, by decide⟩⟩

/-- Settles O3: by the queue's front. -/
theorem stepTakesFrontCommand : Obligations.StepTakesFrontCommand := by
  intro c rest s h
  unfold step
  rw [h]

/-! ## The segment condition -/

/-- LISTEN as R8 gives it. -/
theorem listening_iff {a : Option Nat} {w : Tables} :
    listening a w = true ↔ a = none ∨ ∃ i : Fin 8, w.slotmap[i].defective = true := by
  unfold listening
  rw [Bool.or_eq_true, Option.isNone_iff_eq_none, List.any_eq_true]
  refine or_congr Iff.rfl ⟨?_, ?_⟩
  · rintro ⟨x, hx, hd⟩
    obtain ⟨i, hi, rfl⟩ := List.mem_iff_getElem.mp hx
    exact ⟨⟨i, by simpa using hi⟩, by simpa using hd⟩
  · rintro ⟨i, hd⟩
    exact ⟨w.slotmap[i], by simp, hd⟩

/-- Settles O18: the lines of R14 in order, LISTEN by the marks of the slot map; the condition is the fourth of the fields of
STATUS. -/
theorem segmentConditionTable : Obligations.SegmentConditionTable := by
  intro s v
  refine ⟨?_, rfl⟩
  unfold State.condition segmentCondition
  simp only [listening_iff]
  split
  · rfl
  split
  · rfl
  cases s.trunk.state <;> rfl

end Sys2Proof.Machine
end

section
/-! Supply and restart, frames, headers with an invalid record and the header timeout, and the slots the controller does not act
on (R1 to R9, R15, R175, R179). -/

namespace Sys2Proof.Machine

/-! ## Supply, RESET_N, RESTART -/

theorem abandonStore_idle {s : State} (h : s.store.writing = none) : abandonStore s = s := by
  unfold abandonStore
  rw [h]

theorem abandonStore_store (s : State) : (abandonStore s).store.writing = none := by
  unfold abandonStore
  split
  · assumption
  · rfl

/-- The entry under way reads old, new or as a defect (R177). -/
theorem abandonStore_stored {s : State} {tb : TableName} {i : Nat} (h : s.store.writing = some (tb, i)) :
    (abandonStore s).stored = s.stored ∨ (abandonStore s).stored = s.stored.writeEntry s.work tb i
      ∨ (abandonStore s).stored = s.stored.spoilEntry tb i := by
  unfold abandonStore
  rw [h]
  dsimp only
  split <;> simp

/-- Settles O9: both kinds of reset begin with the abandoned store and write every block anew. -/
theorem supplyResets : Obligations.SupplyResets := by
  intro c strap s hc
  obtain ⟨hpending, -, hfire, htrunk, -, hwork⟩ := abandonStore_side s
  have hidle : s.store.writing = none → (abandonStore s).stored = s.stored := fun h => by rw [abandonStore_idle h]
  have htorn := fun tb i => abandonStore_stored (s := s) (tb := tb) (i := i)
  obtain ⟨hne, hx⟩ | rfl : (c ≠ .resetNAssert ∧ exec c s = .next (powerUp strap s)) ∨ c = .resetNAssert := by
    rcases hc with rfl | rfl | rfl
    · exact .inl ⟨by simp, rfl⟩
    · exact .inl ⟨by simp, rfl⟩
    · exact .inr rfl
  · simp only [if_neg hne]
    exact ⟨_, hx, rfl, rfl, rfl, rfl, rfl, rfl, hpending, hfire, hidle, htorn⟩
  · refine ⟨holdReset s, rfl, rfl, ?_, rfl, hwork, rfl, abandonStore_store s, hpending, hfire, hidle, htorn⟩
    simp only [holdReset, htrunk]
    rfl

theorem serve_restart (h : ReqHead) (s : State) : serve (tableRequest .restart h 0) s = serveRestart s := rfl

/-- Settles O11: RESTART is answered in slot 0 by the responder; RESTART_BEGIN loads the tables behind the abandoned store. -/
theorem restartKeepsClockAndTrunk : Obligations.RestartKeepsClockAndTrunk := by
  intro s
  refine ⟨?_, ?_, ?_, ?_⟩
  · intro h ha hw
    have hserve : serveRestart s = refuseWith .storeBusy s := if_pos hw
    rw [exec_of_asRequest (q := tableRequest .restart h 0) rfl, requestArrives_addressed ha, serve_restart, hserve]
    rfl
  · intro h ha hw
    have hserve : serveRestart s = answerOpen { s with trunk := { s.trunk with restartPending := true } } :=
      if_neg (by simp [hw])
    rw [exec_of_asRequest (q := tableRequest .restart h 0) rfl, requestArrives_addressed ha, serve_restart, hserve]
    exact ⟨_, Config.openResponse s.seg.free, rfl, rfl, rfl, rfl, ⟨rfl, rfl, rfl⟩, rfl⟩
  · intro hp hr
    obtain ⟨-, -, -, htrunk, hclock, -⟩ := abandonStore_side s
    refine ⟨beginRestart s, ?_, rfl, ?_, ?_, rfl, rfl, rfl, fun h => by simp [beginRestart, abandonStore_idle h]⟩
    · exact congrArg _ ((whenRunning_eq _ s hp).trans (if_pos hr))
    · simp only [beginRestart, htrunk]
    · simp only [beginRestart, hclock]
  · intro hp hr
    exact congrArg _ ((whenRunning_eq _ s hp).trans (if_neg (by simp [hr])))

/-! ## Without INSERT, or not running -/

theorem whenInserted_else (f : TrunkPort → TrunkPort) {s : State} (h : s.trunk.inserted = false) : whenInserted f s = s :=
  if_neg (by simp [State.inserted, h])

theorem whenInserted_eq (f : TrunkPort → TrunkPort) {s : State} (h : s.trunk.inserted = true) : whenInserted f s = s.port f :=
  if_pos h

theorem recordArrives_else (r : TrunkRecord) {s : State} (h : s.trunk.inserted = false) : recordArrives r s = s :=
  if_neg (by simp [State.inserted, h])

theorem requestArrives_else (q : Request) {s : State} (h : s.trunk.inserted = false) : requestArrives q s = s := by
  simp [requestArrives, State.inserted, h, recordArrives_else]

theorem commandArrives_else (c : CommandCode) (x : CommandSlot) {s : State} (h : s.trunk.inserted = false) :
    commandArrives c x s = s := by
  simp [commandArrives, State.routesTo, State.slotNow, State.inserted, h, recordArrives_else]

/-- The events that only a running controller has are guarded by it. -/
theorem exec_of_needsRunning {c : Instr} (h : c.needsRunning = true) (s : State) :
    ∃ f, exec c s = .next (whenRunning f s) := by
  cases c <;> simp only [Instr.needsRunning, Bool.false_eq_true] at h <;> exact ⟨_, rfl⟩

/-- Settles O12: what arrives on TRUNK_IN is a mark, a record, a request or a command, and each is guarded by INSERT; the events of
a running controller are guarded by its running. -/
theorem nothingWithoutInsertOrRunning : Obligations.NothingWithoutInsertOrRunning := by
  intro c s
  constructor
  · intro hc hi
    simp only [Instr.onTrunk, Bool.or_eq_true, Option.isSome_iff_exists] at hc
    obtain ((hmark | ⟨r, hr⟩) | ⟨q, hq⟩) | ⟨⟨k, x⟩, hk⟩ := hc
    · obtain ⟨f, hf⟩ := exec_of_isMark hmark s
      rw [hf, whenInserted_else f hi]
    · rw [exec_of_asRecord hr, recordArrives_else r hi]
    · rw [exec_of_asRequest hq, requestArrives_else q hi]
    · rw [exec_of_asCommand hk, commandArrives_else k x hi]
  · intro hc hp
    obtain ⟨f, hf⟩ := exec_of_needsRunning hc s
    rw [hf, whenRunning_else f s hp]

/-! ## Frame marks -/

/-- A truncation, phase by phase (R1, R2, R3). -/
theorem truncate_eq (p : TrunkPort) :
    p.truncate = if p.phase = .outside then p else { p with
      phase := .outside, headerValid := false, held := none, count := if p.phase = .awaitHeader then 0 else p.count
      out := (if p.phase = .awaitHeader then [TrunkSymbol.startMarker] else []) ++ heldSymbols p.held ++ [.endMarker] } := by
  unfold TrunkPort.truncate
  split <;> simp_all [TrunkPort.close, TrunkPort.invalidHeader]

theorem cut_eq_truncate (p : TrunkPort) {c : Truncation} (h : c ≠ .newStart) : p.cut c = p.truncate := by
  unfold TrunkPort.cut
  split
  · next hp => exact (truncate_outside hp).symm
  · contradiction
  · rfl

theorem cut_newStart (p : TrunkPort) : p.cut .newStart = if p.phase = .outside then p else p.start := by
  unfold TrunkPort.cut
  split <;> simp_all [TrunkPort.start]

/-- Settles O13: a start marker opens a frame, or closes the one under way and opens it; every other mark truncates. -/
theorem frameEvents : Obligations.FrameEvents := by
  intro s hi
  have hstart : exec .frameStart s = .next (s.port TrunkPort.start) := congrArg _ (whenInserted_eq _ hi)
  refine ⟨?_, ?_, ?_⟩
  · rw [hstart]
    unfold State.port TrunkPort.start
    split
    · next hp => simp [TrunkPort.open, hp]
    · next hp => simp [TrunkPort.reopen, truncate_eq, hp]
  · intro c hc
    have htruncate : exec c s = .next (s.port TrunkPort.truncate) := by
      rcases hc with rfl | ⟨x, hx, rfl⟩
      · exact congrArg _ (whenInserted_eq _ hi)
      · exact congrArg _ ((whenInserted_eq _ hi).trans (by simp only [State.port, cut_eq_truncate _ hx]))
    rw [htruncate]
    unfold State.port
    rw [truncate_eq]
    split <;> rfl
  · rw [hstart]
    have hcut : exec (.frameTruncated .newStart) s = .next (s.port fun p => p.cut .newStart) :=
      congrArg _ (whenInserted_eq _ hi)
    rw [hcut]
    simp only [State.port, cut_newStart]
    split <;> rfl

/-! ## Invalid headers and the timeout -/

theorem recordArrives_header {r : TrunkRecord} {s : State} (hi : s.trunk.inserted = true) (hp : s.trunk.phase = .awaitHeader) :
    recordArrives r s = headerArrives r s := by
  simp [recordArrives, State.inserted, hi, hp]

theorem timeout_eq (p : TrunkPort) : p.timeout = { p with
    sinceHeader := 2000, state := if p.state = .tracking then .holdover else p.state
    count := if p.state = .tracking then 0 else p.count } := by
  unfold TrunkPort.timeout
  dsimp only
  split
  · rfl
  · rfl

theorem headerMs_trunk {s : State} (h : s.trunk.sinceHeader ≤ 2000) : (headerMs s).trunk = { s.trunk with
    sinceHeader := min 2000 (s.trunk.sinceHeader + 1)
    state := if s.trunk.sinceHeader = 1999 ∧ s.trunk.state = .tracking then .holdover else s.trunk.state
    count := if s.trunk.sinceHeader = 1999 ∧ s.trunk.state = .tracking then 0 else s.trunk.count } := by
  obtain h1 | h1 | h1 : s.trunk.sinceHeader < 1999 ∨ s.trunk.sinceHeader = 1999 ∨ s.trunk.sinceHeader = 2000 := by omega
  · have h2 : s.trunk.sinceHeader + 1 < Config.headerTimeoutMs := Nat.succ_lt_succ h1
    have h3 : min 2000 (s.trunk.sinceHeader + 1) = s.trunk.sinceHeader + 1 := by omega
    rw [headerMs, if_pos h2, h3, if_neg (by omega), if_neg (by omega)]
    rfl
  · simp [headerMs, h1, Config.headerTimeoutMs, timeout_eq]
  · have h2 : headerMs s = s := by simp [headerMs, h1, Config.headerTimeoutMs]
    have h3 : min 2000 (s.trunk.sinceHeader + 1) = s.trunk.sinceHeader := by omega
    rw [h2, h3, if_neg (by omega), if_neg (by omega)]

theorem headerMs_trunk_of_seg (s : State) (g : Segment) : (headerMs { s with seg := g }).trunk = (headerMs s).trunk := by
  simp only [headerMs, apply_ite State.trunk, port_trunk]

theorem clockMs_side (s : State) : ClockSide s (clockMs s) := by
  unfold clockMs
  dsimp only
  split
  · exact ⟨rfl, rfl, rfl, rfl, rfl, rfl, rfl⟩
  · exact ClockSide.trans (t := setJustSet false s) ⟨rfl, rfl, rfl, rfl, rfl, rfl, rfl⟩ (tick_side _)

theorem storeMs_trunk (s : State) : (storeMs s).trunk = s.trunk := by
  unfold storeMs
  split
  · rfl
  · split
    · rfl
    · exact (storeEntryDone_side s).1

theorem whenRunning_trunk {f : State → State} {s : State} (h : (f s).trunk = s.trunk) : (whenRunning f s).trunk = s.trunk := by
  unfold whenRunning
  split
  · exact h
  · rfl

theorem runSegment_trunk (f : Env → Segment → Segment) (s : State) : (runSegment f s).trunk = s.trunk :=
  whenRunning_trunk (settled_trunk (s.seg! f))

theorem elapse_trunk {s : State} (h : s.power ≠ .resetHeld) : (elapse s).trunk = (headerMs s).trunk := by
  unfold elapse
  rw [unlessHeld_eq _ s h]
  dsimp only
  rw [whenRunning_trunk (storeMs_trunk _), runSegment_trunk, (clockMs_side _).trunk]
  split
  · exact headerMs_trunk_of_seg s _
  · rfl

/-- Settles O14: an invalid header sets the count to 0; the timeout is that of R4, and disregarded right behind a header; the
millisecond counts to it. -/
theorem invalidHeaderAndTimeout : Obligations.InvalidHeaderAndTimeout := by
  intro s
  refine ⟨?_, ?_, ?_, ?_, ?_⟩
  · intro c r hc hi hp hr
    rw [exec_of_asRecord hc, recordArrives_header hi hp]
    have harrives : headerArrives r s = s.port (fun p => p.invalidHeader.holdHeader r false) := if_neg (by simp [hr])
    rw [harrives]
    rfl
  · intro hp h0
    have hsame : s.trunk.timeoutArrives = s.trunk := if_pos h0
    exact congrArg _ ((unlessHeld_eq _ s hp).trans (by rw [State.port, hsame]))
  · intro hp h0
    have htimeout : s.trunk.timeoutArrives = s.trunk.timeout := if_neg h0
    exact congrArg _ ((unlessHeld_eq _ s hp).trans (by rw [State.port, htimeout, timeout_eq]))
  · intro hp
    exact congrArg _ (unlessHeld_held _ s hp)
  · intro hq hp h
    refine ⟨elapse s, by rw [step, hq], ?_⟩
    rw [elapse_trunk hp, headerMs_trunk h]

/-! ## Slots that are not acted on -/

theorem forward_eq (r : TrunkRecord) {s : State} {n : Nat} (hp : s.trunk.phase = .slots n) :
    forward r s = { s with trunk := { s.trunk with
      held := some r, out := heldSymbols s.trunk.held, phase := .slots (n + 1) } } := by
  simp [forward, State.port, TrunkPort.accept, hp]

theorem recordArrives_slot {r : TrunkRecord} {s : State} {n : Nat} (hi : s.trunk.inserted = true)
    (hp : s.trunk.phase = .slots n) (hn : n < 64) : recordArrives r s = slotArrives n r s := by
  simp [recordArrives, State.inserted, hi, hp, hn]

theorem commandCode_ofCode_eq_none_iff {c : Byte} : CommandCode.ofCode c = none ↔ c = 0 ∨ 9 < c.toNat := by
  simp only [CommandCode.ofCode, CommandCode.all, List.find?_eq_none, List.forall_mem_cons, CommandCode.code, beq_iff_eq,
    BitVec.toNat_inj.symm]
  simp
  omega

/-- Without a running controller, a valid header, a passing record or an address, a slot goes through (R6, R7). -/
theorem route_through {s : State} {n : Nat} {passes : Bool}
    (h : s.power ≠ .running ∨ s.trunk.headerValid = false ∨ s.trunk.address = none ∨ passes = false) :
    s.route n passes = .through := by
  unfold State.route
  rw [if_pos]
  rcases h with h | h | h | h <;> simp [h]

/-- A slot in LISTEN, or that the slot map names no role of, goes through (R8, R9). -/
theorem route_unnamed {s : State} {n : Nat} {passes : Bool} (hn : 1 ≤ n)
    (h : listening s.trunk.address s.work = true ∨ slotRole s.work n = none) : s.route n passes = .through := by
  unfold State.route
  split
  · rfl
  rw [if_neg (by omega)]
  rcases h with h | h
  · rw [if_pos h]
  · rw [h]
    split <;> rfl

/-- Slot 0 is a management slot where it is acted on (R9, R10). -/
theorem route_zero (s : State) (passes : Bool) : s.route 0 passes = .through ∨ s.route 0 passes = .management := by
  unfold State.route
  split <;> simp

/-- A slot of the role command is a command slot where it is acted on (R9). -/
theorem route_of_command {s : State} {n : Nat} {passes : Bool} (hn : 1 ≤ n) (h : slotRole s.work n = some .command) :
    s.route n passes = .through ∨ s.route n passes = .command := by
  unfold State.route
  rw [if_neg (show ¬n = 0 by omega), h]
  split
  · exact .inl rfl
  · split <;> simp

/-- Settles O16: the route of the slot is through, or the record in it is a response or carries no command. -/
theorem unactedSlotForwarded : Obligations.UnactedSlotForwarded := by
  intro c r s hc hi
  rw [exec_of_asRecord hc]
  refine ⟨?_, ?_, ?_⟩
  · intro n hp hn h
    rw [recordArrives_slot hi hp hn, ← forward_eq r hp]
    have through : s.route n (trunkPasses r) = .through → slotArrives n r s = forward r s := fun hr => by
      rw [slotArrives, hr]
    refine congrArg _ ?_
    rcases h with h | h | h | h | ⟨h1, h⟩ | ⟨h1, h2, hcode⟩ | ⟨rfl, hresponse⟩
    · exact through (route_through (.inl h))
    · exact through (route_through (.inr (.inl h)))
    · exact through (route_through (.inr (.inr (.inl h))))
    · exact through (route_through (.inr (.inr (.inr h))))
    · exact through (route_unnamed h1 h)
    · rcases route_of_command h1 h2 with hroute | hroute
      · exact through hroute
      · rw [slotArrives, hroute, commandCode_ofCode_eq_none_iff.mpr hcode]
    · rcases route_zero s (trunkPasses r) with hroute | hroute
      · exact through hroute
      · rw [slotArrives, hroute]
        exact if_pos hresponse
  · intro n hp hn
    simp [recordArrives, State.inserted, hi, hp, Nat.not_lt.mpr hn, State.port, TrunkPort.close]
  · intro hp
    simp [recordArrives, State.inserted, hi, hp]

end Sys2Proof.Machine
end

section
/-! What is put into a record is read from it again, and the check byte of what the part writes (12.2, 12.3, R180). -/

namespace Sys2Proof.Machine

/-! ## Bytes -/

/-- A byte of two halves, as a number. -/
theorem toNat_append_nibbles (a b : BitVec 4) : (a ++ b : BitVec 8).toNat = 16 * a.toNat + b.toNat := by
  rw [BitVec.toNat_append, ← Nat.shiftLeft_add_eq_or_of_lt b.isLt, Nat.shiftLeft_eq]
  omega

/-- A value is its two bytes. -/
theorem toNat_of_bytes (v : Value) : 256 * (v.extractLsb' 8 8).toNat + (v.extractLsb' 0 8).toNat = v.toNat := by
  simp only [BitVec.extractLsb'_toNat]
  omega

theorem value_of_bytes (v : Value) : (v.extractLsb' 8 8 ++ v.extractLsb' 0 8 : BitVec 16) = v :=
  BitVec.extractLsb'_append_extractLsb' (w := 8) (len := 8)

/-- A mask is its three bytes. -/
theorem mask_of_bytes (m : BitVec 24) :
    (m.extractLsb' 16 8 ++ m.extractLsb' 8 8 ++ m.extractLsb' 0 8 : BitVec 24) = m := by
  have high : (m.extractLsb' 16 8 ++ m.extractLsb' 8 8 : BitVec 16) = m.extractLsb' 8 16 :=
    BitVec.extractLsb'_append_extractLsb'_eq_extractLsb' rfl
  rw [high]
  exact BitVec.extractLsb'_append_extractLsb' (w := 16) (len := 8)

/-- An argument is the low half of a byte and a byte. -/
theorem argument_of_bytes (a : BitVec 12) :
    ((0#4 ++ a.extractLsb' 8 4 : BitVec 8).extractLsb' 0 4 ++ a.extractLsb' 0 8 : BitVec 12) = a := by
  have low : (0#4 ++ a.extractLsb' 8 4 : BitVec 8).extractLsb' 0 4 = a.extractLsb' 8 4 := BitVec.extractLsb'_append_eq_right
  rw [low]
  exact BitVec.extractLsb'_append_extractLsb' (w := 4) (len := 8)

/-! ## The check -/

theorem trunkPasses_trunkSeal (r : TrunkRecord) : trunkPasses (trunkSeal r) = true := beq_self_eq_true _

theorem branchPasses_branchSeal (r : BranchRecord) : branchPasses (branchSeal r) = true := beq_self_eq_true _

theorem crcBit_eq (reg : Byte) (bit : Bool) :
    crcBit reg bit = if reg.getLsbD 7 = bit then reg <<< 1 else (reg <<< 1) ^^^ 0b01001101#8 := by
  have msb : reg.msb = reg.getLsbD 7 := BitVec.msb_eq_getLsbD_last reg
  rw [crcBit, msb]
  cases reg.getLsbD 7 <;> cases bit <;> rfl

/-- The check, bit by bit (R180). -/
theorem crc_eq_bits (bytes : List Byte) :
    crc bytes = (bytes.flatMap fun b => [b.getLsbD 7, b.getLsbD 6, b.getLsbD 5, b.getLsbD 4, b.getLsbD 3, b.getLsbD 2,
      b.getLsbD 1, b.getLsbD 0]).foldl crcBit 0b11111111#8 := by
  rw [List.foldl_flatMap]
  rfl

/-! ## Records -/

theorem requestOf_requestRecord (q : Request) : requestOf (requestRecord q) = q := by
  obtain ⟨⟨target, tag⟩, kind, table, index, field, value⟩ := q
  have htarget : (0#3 ++ target : BitVec 8).extractLsb' 0 5 = target := BitVec.extractLsb'_append_eq_right
  have htag : (tag ++ kind : BitVec 8).extractLsb' 4 4 = tag := BitVec.extractLsb'_append_eq_left
  have hkind : (tag ++ kind : BitVec 8).extractLsb' 0 4 = kind := BitVec.extractLsb'_append_eq_right
  simp only [requestOf, requestRecord, trunkSeal, htarget, htag, hkind, value_of_bytes]

theorem trunkPasses_requestRecord (q : Request) : trunkPasses (requestRecord q) = true := trunkPasses_trunkSeal _

theorem isResponse_requestRecord (q : Request) : isResponse (requestRecord q) = false :=
  (BitVec.msb_append (x := 0#3) (y := q.head.target)).trans (by simp)

theorem commandOf_commandRecord (code : Byte) (c : CommandSlot) : commandOf (commandRecord code c) = c := by
  simp only [commandOf, commandRecord, trunkSeal, argument_of_bytes, mask_of_bytes]

theorem isResponse_responseRecord (a : Nat) (q : Request) (res : Result) (v : Value) :
    isResponse (responseRecord a q res v) = true :=
  (BitVec.msb_or (x := 0x80#8) (y := byte a)).trans rfl

theorem responseRecord_b0 {a : Nat} (h : a ≤ 24) : (0x80#8 ||| byte a).toNat = 128 + a := by
  interval_cases a <;> rfl

theorem mask_acknowledge (a : Nat) (r : TrunkRecord) :
    (commandOf (acknowledge a r)).mask = (commandOf r).mask ||| 1#24 <<< (a - 1) := mask_of_bytes _

theorem replyOf_replyRecord {x : Reply} (h : x.current < 256) : replyOf (replyRecord x) = x := by
  obtain ⟨echo, seq, localFault, inputs, outputs, current⟩ := x
  have hhead : ∀ y : BitVec 2, (echo ++ seq ++ y : BitVec 8).extractLsb' 4 4 = echo
      ∧ (echo ++ seq ++ y : BitVec 8).extractLsb' 2 2 = seq := fun y =>
    ⟨(BitVec.extractLsb'_append_eq_of_le (show 2 ≤ 4 by decide)).trans BitVec.extractLsb'_append_eq_left,
      (BitVec.extractLsb'_append_eq_of_le (show 2 ≤ 2 by decide)).trans BitVec.extractLsb'_append_eq_right⟩
  have hbyte : (echo ++ seq ++ 0#1 ++ bit localFault : BitVec 8) = echo ++ seq ++ (0#1 ++ bit localFault : BitVec 2) :=
    BitVec.append_assoc
  have hfault : (echo ++ seq ++ 0#1 ++ bit localFault : BitVec 8).getLsbD 0 = localFault :=
    BitVec.getLsbD_append.trans (by simp [bit])
  have hlow : ∀ y : BitVec 6, (0#2 ++ y : BitVec 8).extractLsb' 0 6 = y := fun y => BitVec.extractLsb'_append_eq_right
  have hcurrent : (byte current).toNat = current := Nat.mod_eq_of_lt h
  simp only [replyOf, replyRecord, branchSeal, hfault, hlow, hcurrent]
  simp only [hbyte, hhead]

theorem branchCommandOf_branchCommand (k : DropNo) (seq kind : BitVec 2) (apply : Bool) (dirs levels : BitVec 6) (run : Nat) :
    branchCommandOf (branchCommand k seq kind apply dirs levels run)
      = ⟨BitVec.ofNat 4 k.val, seq, kind, apply, dirs, levels, BitVec.ofNat 6 run⟩ := by
  generalize hd : BitVec.ofNat 4 k.val = drop
  have hdrop : (drop ++ seq ++ kind : BitVec 8).extractLsb' 4 4 = drop :=
    (BitVec.extractLsb'_append_eq_of_le (show 2 ≤ 4 by decide)).trans BitVec.extractLsb'_append_eq_left
  have hseq : (drop ++ seq ++ kind : BitVec 8).extractLsb' 2 2 = seq :=
    (BitVec.extractLsb'_append_eq_of_le (show 2 ≤ 2 by decide)).trans BitVec.extractLsb'_append_eq_right
  have hkind : (drop ++ seq ++ kind : BitVec 8).extractLsb' 0 2 = kind := BitVec.extractLsb'_append_eq_right
  have happly : (bit apply ++ 0#1 ++ dirs : BitVec 8).msb = apply :=
    BitVec.msb_append.trans (by cases apply <;> rfl)
  have hdirs : (bit apply ++ 0#1 ++ dirs : BitVec 8).extractLsb' 0 6 = dirs := BitVec.extractLsb'_append_eq_right
  have hlow : ∀ y : BitVec 6, (0#2 ++ y : BitVec 8).extractLsb' 0 6 = y := fun y => BitVec.extractLsb'_append_eq_right
  simp only [branchCommandOf, branchCommand, branchSeal, hd, hdrop, hseq, hkind, happly, hdirs, hlow]

/-- Settles O8: the fields are bytes put side by side and read apart again, every record the part writes is sealed, and the check
feeds its bits in the order of R180. -/
theorem recordFieldsSurvive : Obligations.RecordFieldsSurvive := by
  refine ⟨?_, ?_, ?_, ?_, ?_, ?_, ?_, ?_⟩
  · exact fun q => ⟨requestOf_requestRecord q, trunkPasses_trunkSeal _, isResponse_requestRecord q⟩
  · exact fun code c => ⟨commandOf_commandRecord code c, rfl, trunkPasses_trunkSeal _⟩
  · exact fun a q res v => ⟨isResponse_responseRecord a q res v, trunkPasses_trunkSeal _, responseRecord_b0,
      toNat_append_nibbles _ _, rfl, rfl, rfl, toNat_of_bytes v⟩
  · exact fun a r => ⟨trunkPasses_trunkSeal _, rfl, rfl, rfl, rfl, mask_acknowledge a r⟩
  · exact fun s => trunkPasses_trunkSeal _
  · exact fun x h => ⟨replyOf_replyRecord h, branchPasses_branchSeal _⟩
  · exact fun k seq kind apply dirs levels run _ =>
      ⟨branchCommandOf_branchCommand k seq kind apply dirs levels run, branchPasses_branchSeal _⟩
  · dsimp only
    simp only [← crcBit_eq]
    refine ⟨fun r => ?_, fun r => ?_⟩
    · rw [trunkPasses, beq_iff_eq, trunkCheck, crc_eq_bits]
    · rw [branchPasses, beq_iff_eq, branchCheck, crc_eq_bits]

end Sys2Proof.Machine
end

section
/-! The management responder as seen from slot 0: which request is served, the tests of READ and WRITE in their order, and the rows
of the runtime tables (R10, R168 to R170). -/

namespace Sys2Proof.Machine

variable {s : State} {q : Request} {c : Instr}

/-! ## Slot 0 -/

/-- A request addressed to this controller goes on as its response (R10). -/
theorem exec_addressed (hc : c.asRequest = some q) (ha : Addressed q.head s) :
    exec c s = .next (passing (responseRecord s.addressNo q (serve q s).result (serve q s).value) (serve q s).state) := by
  rw [exec_of_asRequest hc, requestArrives_addressed ha]
  rfl

/-- A request that is not carried out is answered with value 0 and changes nothing (R168). -/
theorem exec_refused (hc : c.asRequest = some q) (ha : Addressed q.head s) {res : Result} (h : serve q s = refuseWith res s) :
    exec c s = .next (passing (replyTo q res 0 s) s) := by
  rw [exec_addressed hc ha, h]
  rfl

/-- A request that is carried out is answered with its result and its value (R168). -/
theorem exec_served (hc : c.asRequest = some q) (ha : Addressed q.head s) {res : Result} {v : Nat} {t : State}
    (h : serve q s = ⟨res, toValue v, t⟩) : exec c s = .next (passing (replyTo q res v s) t) := by
  rw [exec_addressed hc ha, h]
  rfl

theorem managementSlot_self {r : TrunkRecord} (h : q.head.target.toNat = s.addressNo) :
    managementSlot r q s = passing (responseRecord s.addressNo q (serve q s).result (serve q s).value) (serve q s).state :=
  if_pos h

theorem managementSlot_broadcast {r : TrunkRecord} (h : q.head.target.toNat = 31) (ha : s.addressNo ≠ 31) :
    managementSlot r q s = passing r (serve q s).state :=
  (if_neg (by omega)).trans (if_pos h)

theorem managementSlot_other {r : TrunkRecord} (h : q.head.target.toNat ≠ s.addressNo) (h31 : q.head.target.toNat ≠ 31) :
    managementSlot r q s = passing r s :=
  (if_neg h).trans (if_neg h31)

/-- A record that holds a request is served in slot 0 by its bytes as by its row (R10). -/
theorem recordArrives_requestRecord (hf : InFrame s) (hp : s.trunk.phase = .slots 0) :
    recordArrives (requestRecord q) s = managementSlot (requestRecord q) q s := by
  rw [recordArrives_slot hf.inserted hp (by omega), slotArrives, trunkPasses_requestRecord, hf.route_zero]
  simp only [isResponse_requestRecord, Bool.false_eq_true, if_false, requestOf_requestRecord]

/-- Settles O20: the three targets, and the record of the request read back. -/
theorem requestSlot : Obligations.RequestSlot := by
  intro c q s a hc hf hp haddr ha
  have hno : s.addressNo = a := by simp [State.addressNo, haddr]
  have hexec : exec c s = .next (managementSlot (requestRecord q) q s) := by
    rw [exec_of_asRequest hc, requestArrives_slot_zero hf hp]
  rw [hexec]
  refine ⟨fun hne h31 => ?_, fun h31 => ?_, fun heq => ?_, ?_⟩
  · rw [managementSlot_other (by rwa [hno]) h31]
  · rw [managementSlot_broadcast h31 (by omega)]
  · rw [managementSlot_self (by rw [heq, hno]), hno]
  · exact congrArg _ (recordArrives_requestRecord hf hp)

/-! ## The tests of READ and WRITE (R169, R170) -/

/-- The number of fields of a stored table's entry (R182). -/
def TableName.fieldCount : TableName → Nat
  | .segment => 7 | .slotmap => 2 | .groupmap => 2 | .door => 5 | .profile => 27 | .program => 9 | .dayplan => 2

theorem slotmapFields_length (x : Option SlotMapEntry) : (slotmapFields x).length = 2 := by cases x <;> rfl
theorem groupmapFields_length (x : Option GroupMapEntry) : (groupmapFields x).length = 2 := by cases x <;> rfl
theorem dayplanFields_length (x : Option DayPlanEntry) : (dayplanFields x).length = 2 := by cases x <;> rfl
theorem profileFields_length (x : ProfileEntry) : (profileFields x).length = 27 := by simp [profileFields]

theorem exists_mapped_entry {α : Type} {n m i : Nat} (v : Vector α n) (hi : i < n) {f : α → List Nat}
    (hf : ∀ x, (f x).length = m) : ∃ fs, (v[i]?).map f = some fs ∧ fs.length = m :=
  ⟨f v[i], by rw [getElem?_pos v i hi]; rfl, hf _⟩

/-- Every entry of a stored table has the fields of its table. -/
theorem entryFields_stored (s : State) (t : TableName) {i : Nat} (v : Value) (hi : i < t.count) :
    ∃ fs, entryFields s t.ix.val i v = some fs ∧ fs.length = t.fieldCount := by
  cases t <;> simp only [TableName.count] at hi
  case segment => exact ⟨segmentFields s.work.segment.value, if_pos (by omega), rfl⟩
  case slotmap => exact exists_mapped_entry s.work.slotmap hi fun w => slotmapFields_length w.value
  case groupmap => exact exists_mapped_entry s.work.groupmap hi fun w => groupmapFields_length w.value
  case door => exact exists_mapped_entry s.work.door hi fun _ => rfl
  case profile => exact exists_mapped_entry s.work.profile hi fun w => profileFields_length w.value
  case program => exact exists_mapped_entry s.work.program hi fun _ => rfl
  case dayplan => exact exists_mapped_entry s.work.dayplan hi fun w => dayplanFields_length w.value

theorem entryFields_stored_none (s : State) (t : TableName) {i : Nat} (v : Value) (hi : t.count ≤ i) :
    entryFields s t.ix.val i v = none := by
  cases t <;> simp only [TableName.count] at hi
  case segment => exact if_neg (by omega)
  all_goals
    exact Option.map_eq_none_iff.mpr (getElem?_neg _ i (by omega))

variable {table i field : Nat} {v : Value}

theorem lookupField_badTable (h : 10 < table) : lookupField s table i field v = .error .badTable := if_pos h

theorem lookupField_badIndex (ht : table ≤ 10) (h : entryFields s table i v = none) :
    lookupField s table i field v = .error .badIndex := by
  rw [lookupField, if_neg (by omega), h]

theorem lookupField_badField {fs : List Nat} (ht : table ≤ 10) (h : entryFields s table i v = some fs)
    (hf : fs.length ≤ field ∨ fieldAbsent table i field = true) : lookupField s table i field v = .error .badField := by
  rw [lookupField, if_neg (by omega), h]
  rcases hf with hf | hf
  · simp only [List.getElem?_eq_none hf]
  · dsimp only
    split
    · rfl
    · rw [if_pos hf]

theorem lookupField_ok {fs : List Nat} {x : Nat} (ht : table ≤ 10) (h : entryFields s table i v = some fs)
    (hx : fs[field]? = some x) (ha : fieldAbsent table i field = false) : lookupField s table i field v = .ok x := by
  rw [lookupField, if_neg (by omega), h]
  simp [hx, ha]

theorem serveWrite_error {r : Result} (h : lookupField s table i field v = .error r) :
    serveWrite table i field v s = refuseWith r s := by
  rw [serveWrite, h]

theorem serveRead_error {r : Result} (h : lookupField s table i field v = .error r) :
    serveRead table i field v s = refuseWith r s := by
  rw [serveRead, h]

/-- An entry of a runtime table is read-only, but for the halves of the passage counter (R170, R74). -/
theorem serveWrite_readOnly {fs : List Nat} (ht : 7 ≤ table ∧ table ≤ 10) (h : entryFields s table i v = some fs)
    (hf : field < fs.length) (hp : ¬(table = 7 ∧ (field = passageLowField ∨ field = passageHighField))) :
    serveWrite table i field v s = refuseWith .readOnly s := by
  have habsent : fieldAbsent table i field = false := by
    have h5 : (table == 5) = false := by simp; omega
    simp [fieldAbsent, h5]
  have hcode : TableName.ofCode table = none := List.getElem?_eq_none (by simp [TableName.all]; omega)
  rw [serveWrite, lookupField_ok ht.2 h (List.getElem?_eq_getElem hf) habsent, hcode]
  dsimp only
  rw [writeRuntime, if_neg (fun h => hp ⟨h.1, .inl h.2⟩), if_neg (fun h => hp ⟨h.1, .inr h.2⟩)]

section
variable {t : TableName}

theorem TableName.ix_le (t : TableName) : t.ix.val ≤ 10 := by omega

theorem TableName.ofCode_ix (t : TableName) : TableName.ofCode t.ix.val = some t := by cases t <;> rfl

theorem serveWrite_badIndex (hi : t.count ≤ i) : serveWrite t.ix.val i field v s = refuseWith .badIndex s :=
  serveWrite_error (lookupField_badIndex t.ix_le (entryFields_stored_none s t v hi))

theorem serveWrite_badField (hi : i < t.count) (hf : t.fieldCount ≤ field ∨ fieldAbsent t.ix.val i field = true) :
    serveWrite t.ix.val i field v s = refuseWith .badField s := by
  obtain ⟨fs, hfs, hlen⟩ := entryFields_stored s t v hi
  exact serveWrite_error (lookupField_badField t.ix_le hfs (hlen ▸ hf))

/-- A WRITE to a field of a stored table that exists is the table's own (R170). -/
theorem serveWrite_stored (hi : i < t.count) (hf : field < t.fieldCount) (ha : fieldAbsent t.ix.val i field = false) :
    serveWrite t.ix.val i field v s = writeStored t i field v.toNat s := by
  obtain ⟨fs, hfs, hlen⟩ := entryFields_stored s t v hi
  rw [serveWrite, lookupField_ok t.ix_le hfs (List.getElem?_eq_getElem (hlen ▸ hf)) ha, t.ofCode_ix]

theorem underStore_of_unstored (h : Unstored t s) : underStore s t = false := by
  unfold underStore
  cases hw : s.store.writing with
  | none => rfl
  | some x => simp [h x hw]

theorem underStore_of_not_unstored (h : ¬ Unstored t s) : underStore s t = true := by
  simp only [Unstored, not_forall, ne_eq, not_not] at h
  obtain ⟨x, hw, ht⟩ := h
  simp [underStore, hw, ht]

theorem writeStored_busy {n : Nat} (h : ¬ Unstored t s) : writeStored t i field n s = refuseWith .storeBusy s :=
  if_pos (underStore_of_not_unstored h)

/-- Fields exist at every index but in PROGRAM. -/
theorem fieldAbsent_eq_false (h : t = .program → i % 10 = 0 ∨ 2 ≤ field) : fieldAbsent t.ix.val i field = false := by
  cases t <;> try rfl
  have := h rfl
  simp [fieldAbsent]
  omega

end

/-! ## Rows without a table of their own -/

theorem serve_write {h : ReqHead} {tb ix fd : Byte} :
    serve (fullRequest .write h tb ix fd v) s = serveWrite tb.toNat ix.toNat fd.toNat v s := rfl

theorem serve_read {h : ReqHead} {tb ix fd : Byte} :
    serve (fullRequest .read h tb ix fd v) s = serveRead tb.toNat ix.toNat fd.toNat v s := rfl

theorem reqKind_ofCode_of_ge {k : BitVec 4} (h : 9 ≤ k.toNat) : ReqKind.ofCode k = none := by
  simp only [ReqKind.ofCode, ReqKind.all, List.find?_eq_none, List.forall_mem_cons, ReqKind.code, beq_iff_eq,
    BitVec.toNat_inj.symm]
  simp
  omega

/-- The runtime tables by code, with their entry counts. -/
theorem entryFields_runtime {n : Nat} (ht : (table, n) ∈ [(7, 64), (8, 16), (9, 32), (10, 1)]) :
    (n ≤ i → entryFields s table i v = none) ∧ (i < n → ∃ fs, entryFields s table i v = some fs) := by
  simp only [List.mem_cons, Prod.mk.injEq, List.not_mem_nil, or_false] at ht
  rcases ht with ⟨rfl, rfl⟩ | ⟨rfl, rfl⟩ | ⟨rfl, rfl⟩ | ⟨rfl, rfl⟩
  · exact ⟨fun h => dif_neg (by omega), fun h => ⟨_, dif_pos h⟩⟩
  · exact ⟨fun h => if_neg (by omega), fun h => ⟨_, if_pos h⟩⟩
  · exact ⟨fun h => if_neg (by omega), fun h => ⟨_, if_pos h⟩⟩
  · exact ⟨fun h => if_neg (by omega), fun h => ⟨_, if_pos (by omega)⟩⟩

/-- Settles O21: the first test a WRITE fails answers it; the rows of the stored tables are WRITE at their table codes. -/
theorem writeElsewhereRefused : Obligations.WriteElsewhereRefused := by
  refine ⟨?_, ?_, ?_, ?_⟩
  · intro h table index field value s ha
    refine ⟨fun ht => exec_refused rfl ha (serveWrite_error (lookupField_badTable ht)), ?_⟩
    intro n hn
    have ht : 7 ≤ table.toNat ∧ table.toNat ≤ 10 := by
      simp only [List.mem_cons, Prod.mk.injEq, List.not_mem_nil, or_false] at hn
      omega
    obtain ⟨hnone, hsome⟩ := entryFields_runtime (s := s) (i := index.toNat) (v := value) hn
    refine ⟨fun hi => exec_refused rfl ha (serveWrite_error (lookupField_badIndex ht.2 (hnone hi))), fun hi => ?_⟩
    obtain ⟨fs, hfs⟩ := hsome hi
    exact ⟨fs, hfs, fun hf => exec_refused rfl ha (serveWrite_error (lookupField_badField ht.2 hfs (.inl hf))),
      fun hf hp => exec_refused rfl ha (serveWrite_readOnly ht hfs hf hp)⟩
  · intro h kind table index field value s ha hk
    refine exec_refused rfl ha ?_
    unfold serve
    rw [reqKind_ofCode_of_ge hk]
  · exact fun h i f v s => ⟨rfl, rfl, rfl, rfl, rfl, rfl, rfl, rfl⟩
  · intro h index field value s ha c tb n m hc
    obtain ⟨hreq, rfl, rfl⟩ : c.asRequest = some (fullRequest .write h tb.ix.val index field value) ∧ n = tb.count
        ∧ m = tb.fieldCount := by
      simp only [List.mem_cons, Prod.mk.injEq, List.not_mem_nil, or_false] at hc
      rcases hc with ⟨rfl, rfl, rfl, rfl⟩ | ⟨rfl, rfl, rfl, rfl⟩ | ⟨rfl, rfl, rfl, rfl⟩ | ⟨rfl, rfl, rfl, rfl⟩
        | ⟨rfl, rfl, rfl, rfl⟩ <;> exact ⟨rfl, rfl, rfl⟩
    have hcode : serve (fullRequest .write h tb.ix.val index field value) s
        = serveWrite tb.ix.val index.toNat field.toNat value s := by cases tb <;> rfl
    refine ⟨fun hi => ?_, fun hi hf => ?_, fun ht hi h0 hf => ?_, fun hi hf habsent hu => ?_⟩ <;>
      refine exec_refused hreq ha (hcode.trans ?_)
    · exact serveWrite_badIndex hi
    · exact serveWrite_badField hi (.inl hf)
    · exact serveWrite_badField hi (.inr (by subst ht; simp [fieldAbsent, TableName.ix]; omega))
    · rw [serveWrite_stored hi hf (fieldAbsent_eq_false habsent), writeStored_busy hu]

end Sys2Proof.Machine
end

section
/-! WRITE to SEGMENT, SLOTMAP, PROGRAM and DAYPLAN and to the passage counter: the value taken or clamped, and the one field that
changes (R9, R26, R74, R136, R170, R171). -/

namespace Sys2Proof.Machine

variable {s : State} {v : Nat}

/-! ## Values (R170, R182) -/

theorem putNumber_within {α : Type} {lo hi : Nat} (put : Nat → α) (hl : lo ≤ v) (hh : v ≤ hi) :
    putNumber (clamp lo hi v) put = .ok ⟨put v, .done, v⟩ := by
  simp [putNumber, clamp, Nat.not_lt.mpr hl, Nat.not_lt.mpr hh]

theorem putNumber_above {α : Type} {lo hi : Nat} (put : Nat → α) (hl : lo ≤ hi) (hh : hi < v) :
    putNumber (clamp lo hi v) put = .ok ⟨put hi, .clamped, hi⟩ := by
  simp [putNumber, clamp, hh, Nat.not_lt.mpr (hl.trans hh.le)]

theorem putNumber_below {α : Type} {lo hi : Nat} (put : Nat → α) (hl : v < lo) :
    putNumber (clamp lo hi v) put = .ok ⟨put lo, .clamped, lo⟩ := by
  simp [putNumber, clamp, hl]

theorem putCode_some {α β : Type} {x : Option β} {b : β} (put : β → α) (h : x = some b) :
    putCode v x put = .ok ⟨put b, .done, v⟩ := by
  subst h
  rfl

theorem putCode_none {α β : Type} {x : Option β} (put : β → α) (h : x = none) : putCode v x put = .error .badValue := by
  subst h
  rfl

theorem flagOfCode_le (h : v ≤ 1) : ∃ b, flagOfCode v = some b ∧ flagCode b = v := by
  interval_cases v <;> exact ⟨_, rfl, rfl⟩

theorem flagOfCode_gt (h : ¬v ≤ 1) : flagOfCode v = none := by
  match v, h with
  | _ + 2, _ => rfl

theorem latePolicy_ofCode_le (h : v ≤ 1) : ∃ p, LatePolicy.ofCode v = some p ∧ p.code = v := by
  interval_cases v <;> exact ⟨_, rfl, rfl⟩

theorem latePolicy_ofCode_gt (h : ¬v ≤ 1) : LatePolicy.ofCode v = none := by
  match v, h with
  | _ + 2, _ => rfl

theorem programKind_ofCode_le (h : v ≤ 1) : ∃ k, ProgramKind.ofCode v = some k ∧ k.code = v := by
  interval_cases v <;> exact ⟨_, rfl, rfl⟩

theorem programKind_ofCode_gt (h : ¬v ≤ 1) : ProgramKind.ofCode v = none := by
  match v, h with
  | _ + 2, _ => rfl

theorem startMode_ofCode_le (h : v ≤ 1) : ∃ m, StartMode.ofCode v = some m ∧ m.code = v := by
  interval_cases v <;> exact ⟨_, rfl, rfl⟩

theorem startMode_ofCode_gt (h : ¬v ≤ 1) : StartMode.ofCode v = none := by
  match v, h with
  | _ + 2, _ => rfl

theorem posture_ofCode_le (h : v ≤ 1) : ∃ p, Posture.ofCode v = some p ∧ p.code = v := by
  interval_cases v <;> exact ⟨_, rfl, rfl⟩

theorem posture_ofCode_gt (h : ¬v ≤ 1) : Posture.ofCode v = none := by
  match v, h with
  | _ + 2, _ => rfl

theorem finOfCode_lt {n : Nat} (h : v < n) : finOfCode n v = some ⟨v, h⟩ := dif_pos h

theorem finOfCode_ge {n : Nat} (h : ¬v < n) : finOfCode n v = none := dif_neg h

theorem toNat_eq_zero_iff {b : Byte} : b.toNat = 0 ↔ b = 0 := by
  rw [← BitVec.toNat_inj]
  rfl

/-- A write that stores an entry in which the field written alone reads otherwise, as n. -/
def Stores {α : Type} (fields : α → List Nat) (x : α) (field : Nat) (w : Except Result (Written α)) (res : Result) (n : Nat) :
    Prop :=
  ∃ e, w = .ok ⟨e, res, n⟩ ∧ fields e = (fields x).set field n

section
variable {α β : Type} {fields : α → List Nat} {x : α} {field : Nat} {w : Except Result (Written α)}

/-- A number is taken, or the nearest limit (R170). -/
theorem stores_number {lo hi : Nat} {put : Nat → α} (hw : w = putNumber (clamp lo hi v) put)
    (hf : ∀ n, fields (put n) = (fields x).set field n) (hle : lo ≤ hi) :
    (v < lo → Stores fields x field w .clamped lo) ∧ (lo ≤ v → v ≤ hi → Stores fields x field w .done v)
      ∧ (hi < v → Stores fields x field w .clamped hi) :=
  ⟨fun h => ⟨_, hw.trans (putNumber_below put h), hf lo⟩, fun h h' => ⟨_, hw.trans (putNumber_within put h h'), hf v⟩,
    fun h => ⟨_, hw.trans (putNumber_above put hle h), hf hi⟩⟩

/-- An enumeration takes a code that names a value. -/
theorem stores_code {code : β → Nat} {o : Option β} {put : β → α} (hw : w = putCode v o put)
    (hf : ∀ b, fields (put b) = (fields x).set field (code b)) (ho : ∃ b, o = some b ∧ code b = v) :
    Stores fields x field w .done v := by
  obtain ⟨b, hb, rfl⟩ := ho
  exact ⟨put b, hw.trans (putCode_some put hb), hf b⟩

end

/-! ## Vectors -/

theorem setIfInBounds_fin {α : Type} {n : Nat} (xs : Vector α n) (i : Fin n) (x : α) :
    xs.setIfInBounds i.val x = xs.set i x := by
  ext j hj
  simp [Vector.getElem_set, Vector.getElem_setIfInBounds]

theorem any_zipIdx_iff {α : Type} {n : Nat} {xs : Vector α n} {p : α × Nat → Bool} :
    xs.toList.zipIdx.any p = true ↔ ∃ j : Fin n, p (xs[j], j.val) = true := by
  simp only [List.any_eq_true, List.mem_zipIdx_iff_getElem?, List.getElem?_eq_some_iff]
  constructor
  · rintro ⟨⟨a, j⟩, ⟨hj, ha⟩, hp⟩
    have hj' : j < n := by simpa using hj
    have ha' : xs[j] = a := by simpa using ha
    exact ⟨⟨j, hj'⟩, (congrArg (fun y => p (y, j)) ha').trans hp⟩
  · rintro ⟨j, hp⟩
    exact ⟨(xs[j], j.val), ⟨by simp, by simp⟩, hp⟩

/-! ## SEGMENT -/

theorem serveWriteSegment_ok {field : Nat} {w : Written SegmentEntry}
    (h : writeSegmentField s.work.segment.value field v = .ok w) :
    serveWriteSegment field v s = ⟨w.result, toValue w.value,
      settled (changeTables { s.work with segment := ⟨w.entry, false⟩ } (segmentWritten s.fireInHigh field) s)⟩ := by
  rw [serveWriteSegment, h]

theorem serveWriteSegment_error {field : Nat} {r : Result} (h : writeSegmentField s.work.segment.value field v = .error r) :
    serveWriteSegment field v s = refuseWith r s := by
  rw [serveWriteSegment, h]

theorem writeSegmentField_number (x : SegmentEntry) {field hi : Nat}
    (h : (field, hi) ∈ [(0, 4095), (3, 32640), (4, 7200), (6, 120)]) :
    ∃ put, (∀ v, writeSegmentField x field v = putNumber (clamp 0 hi v) put)
      ∧ ∀ n, segmentFields (put n) = (segmentFields x).set field n := by
  simp only [List.mem_cons, Prod.mk.injEq, List.not_mem_nil, or_false] at h
  rcases h with ⟨rfl, rfl⟩ | ⟨rfl, rfl⟩ | ⟨rfl, rfl⟩ | ⟨rfl, rfl⟩
  · exact ⟨fun n => { x with capacity := n }, fun _ => rfl, fun _ => rfl⟩
  · exact ⟨fun n => { x with params := { x.params with threshold := n } }, fun _ => rfl, fun _ => rfl⟩
  · exact ⟨fun n => { x with params := { x.params with deferralLimit := n } }, fun _ => rfl, fun _ => rfl⟩
  · exact ⟨fun n => { x with params := { x.params with warning := n } }, fun _ => rfl, fun _ => rfl⟩

theorem writeSegmentField_window (x : SegmentEntry) (v : Nat) : writeSegmentField x 1 v =
    if windowLengths.contains v then .ok ⟨{ x with windowLength := v }, .done, v⟩ else .error .badValue := rfl

theorem writeSegmentField_polarity (x : SegmentEntry) (v : Nat) :
    writeSegmentField x 2 v = putCode v (flagOfCode v) (fun b => { x with fireActiveHigh := !b }) := rfl

theorem liftWrite_putCode {α β γ : Type} (f : β → γ) (put : α → β) (v : Nat) (o : Option α) :
    liftWrite f (putCode v o put) = putCode v o (fun a => f (put a)) := by
  cases o <;> rfl

theorem writeSegmentField_policy (x : SegmentEntry) (v : Nat) : writeSegmentField x 5 v =
    putCode v (LatePolicy.ofCode v) (fun p => { x with params := { x.params with policy := p } }) := by
  have hlift : writeSegmentField x 5 v = liftWrite (fun p : Params => { x with params := p })
    (putCode v (LatePolicy.ofCode v) fun y => { x.params with policy := y }) := rfl
  rw [hlift, liftWrite_putCode]

/-- Settles O22: the tests, then the value by its field, and the segment as the new entry leaves it. -/
theorem writeSegment : Obligations.WriteSegment := by
  intro h index field value s ha q v c old stores refuses
  have hserve : serve q s = serveWrite TableName.segment.ix.val index.toNat field.toNat value s := rfl
  have hindex : index = 0 → index.toNat < TableName.segment.count := fun h0 => by subst h0; decide
  refine ⟨fun h0 => ?_, fun h0 hf => ?_, fun h0 hf hu => ?_, fun h0 hu => ?_⟩
  · have hge : TableName.segment.count ≤ index.toNat := Nat.one_le_iff_ne_zero.mpr fun h => h0 (toNat_eq_zero_iff.mp h)
    exact exec_refused rfl ha (hserve.trans (serveWrite_badIndex hge))
  · exact exec_refused rfl ha (hserve.trans (serveWrite_badField (hindex h0) (.inl hf)))
  · exact exec_refused rfl ha (hserve.trans ((serveWrite_stored (hindex h0) hf rfl).trans (writeStored_busy hu)))
  have hown : field.toNat < 7 → serve q s = serveWriteSegment field.toNat v s := fun hf =>
    hserve.trans ((serveWrite_stored (hindex h0) hf rfl).trans (if_neg (by simp [underStore_of_unstored hu])))
  have store : ∀ {res n}, field.toNat < 7 →
      Stores segmentFields s.work.segment.value field.toNat (writeSegmentField s.work.segment.value field.toNat v) res n →
      stores res n := by
    rintro res n hf ⟨e, hw, he⟩
    refine ⟨_, e, exec_served rfl ha ((hown hf).trans (serveWriteSegment_ok hw)), rfl, he, rfl, rfl, rfl, rfl, rfl, ?_⟩
    simp only [← toNat_eq_zero_iff (b := field)]
    rfl
  have refuse : field.toNat < 7 → writeSegmentField s.work.segment.value field.toNat v = .error .badValue →
      refuses .badValue := fun hf hw => exec_refused rfl ha ((hown hf).trans (serveWriteSegment_error hw))
  refine ⟨?_, ?_, ?_⟩
  · intro hi hmem
    have hmem' : (field.toNat, hi) ∈ [(0, 4095), (3, 32640), (4, 7200), (6, 120)] := List.mem_map_of_mem
      (f := fun x : Byte × Nat => (x.1.toNat, x.2)) hmem
    have hf : field.toNat < 7 := by
      simp only [List.mem_cons, Prod.mk.injEq, List.not_mem_nil, or_false] at hmem'
      omega
    obtain ⟨put, hput, hfields⟩ := writeSegmentField_number s.work.segment.value hmem'
    obtain ⟨-, within, above⟩ := stores_number (hput v) hfields (Nat.zero_le _)
    exact ⟨fun hle => store hf (within (Nat.zero_le _) hle), fun hgt => store hf (above hgt)⟩
  · rintro rfl
    have hwindow : windowLengths.contains v = true ↔ v ∈ [10, 30, 60, 120] := List.contains_iff_mem
    split
    · next hv =>
      exact store (by decide) ⟨_, (writeSegmentField_window _ v).trans (if_pos (hwindow.mpr hv)), rfl⟩
    · next hv => exact refuse (by decide) ((writeSegmentField_window _ v).trans (if_neg (mt hwindow.mp hv)))
  · rintro (rfl | rfl)
    · split
      · next hv =>
        exact store (by decide) (stores_code (writeSegmentField_polarity _ v) (fun b => by cases b <;> rfl) (flagOfCode_le hv))
      · next hv =>
        exact refuse (by decide) ((writeSegmentField_polarity _ v).trans (putCode_none _ (flagOfCode_gt hv)))
    · split
      · next hv =>
        exact store (by decide) (stores_code (writeSegmentField_policy _ v) (fun _ => rfl) (latePolicy_ofCode_le hv))
      · next hv =>
        exact refuse (by decide) ((writeSegmentField_policy _ v).trans (putCode_none _ (latePolicy_ofCode_gt hv)))

end Sys2Proof.Machine
end

section
/-! WRITE to SLOTMAP, PROGRAM and DAYPLAN, to the passage counter and of a terminal function (R9, R26, R28, R40, R74, R136). -/

namespace Sys2Proof.Machine

variable {s : State} {v field : Nat}

theorem getElem?_fin {α : Type} {n : Nat} (xs : Vector α n) (i : Fin n) : xs[i.val]? = some xs[i] :=
  getElem?_pos xs i.val i.isLt

theorem not_underStore {t : TableName} (hu : Unstored t s) : ¬underStore s t = true := by
  simp [underStore_of_unstored hu]

/-! ## SLOTMAP -/

section
variable {i : Fin 8}

theorem serveWriteSlotmap_ok {w : Written (Option SlotMapEntry)}
    (h : writeSlotmapField s.work.slotmap i.val s.work.slotmap[i].value field v = .ok w) :
    serveWriteSlotmap i.val field v s = ⟨w.result, toValue w.value, { s with work := { s.work with
      slotmap := s.work.slotmap.set i ⟨w.entry, s.work.slotmap[i].defective⟩ } }⟩ := by
  rw [serveWriteSlotmap, getElem?_fin]
  simp only [h, setIfInBounds_fin]

theorem serveWriteSlotmap_error {r : Result}
    (h : writeSlotmapField s.work.slotmap i.val s.work.slotmap[i].value field v = .error r) :
    serveWriteSlotmap i.val field v s = refuseWith r s := by
  rw [serveWriteSlotmap, getElem?_fin]
  simp only [h]

theorem slotTaken_iff {m : SlotMap} :
    slotTaken m i.val v = true ↔ ∃ j : Fin 8, j ≠ i ∧ ∃ y, m[j].value = some y ∧ y.slot = v := by
  rw [slotTaken, any_zipIdx_iff]
  simp [Option.any_eq_true, Fin.ext_iff]

end

section
variable {m : SlotMap} {i : Nat} {x : Option SlotMapEntry} {r : Role}

theorem writeSlotmapField_role_unnamed (h : Role.ofCode v = none) : writeSlotmapField m i x 1 v = .error .badValue := by
  simp only [writeSlotmapField, h]

theorem writeSlotmapField_role_unused (h : Role.ofCode v = some r) : writeSlotmapField m i none 1 v = .error .badIndex := by
  simp only [writeSlotmapField, h]

theorem writeSlotmapField_role {y : SlotMapEntry} (h : Role.ofCode v = some r) :
    writeSlotmapField m i (some y) 1 v = .ok ⟨some { y with role := r }, .done, v⟩ := by
  simp only [writeSlotmapField, h]

end

/-- Settles O23: the tests, then each line of R9 for the number and the role. -/
theorem writeSlotmap : Obligations.WriteSlotmap := by
  intro h index field value s ha q v c refuses
  have hserve : serve q s = serveWrite TableName.slotmap.ix.val index.toNat field.toNat value s := rfl
  refine ⟨fun hi => exec_refused rfl ha (hserve.trans (serveWrite_badIndex hi)), ?_⟩
  intro i hi stores taken
  rw [← hi] at hserve
  refine ⟨fun hf => exec_refused rfl ha (hserve.trans (serveWrite_badField i.isLt (.inl hf))),
    fun hf hu => exec_refused rfl ha (hserve.trans ((serveWrite_stored i.isLt hf rfl).trans (writeStored_busy hu))), ?_⟩
  intro hu
  have hown : field.toNat < 2 → serve q s = serveWriteSlotmap i.val field.toNat v s := fun hf =>
    hserve.trans ((serveWrite_stored i.isLt hf rfl).trans (if_neg (not_underStore hu)))
  have store : ∀ {x}, field.toNat < 2 →
      writeSlotmapField s.work.slotmap i.val s.work.slotmap[i].value field.toNat v = .ok ⟨x, .done, v⟩ → stores x :=
    fun hf hw => exec_served rfl ha ((hown hf).trans (serveWriteSlotmap_ok hw))
  have refuse : ∀ {r}, field.toNat < 2 →
      writeSlotmapField s.work.slotmap i.val s.work.slotmap[i].value field.toNat v = .error r → refuses r :=
    fun hf hw => exec_refused rfl ha ((hown hf).trans (serveWriteSlotmap_error hw))
  have number : ∀ x, writeSlotmapField s.work.slotmap i.val x 0 v =
      if 63 < v then .error .badValue else if v = 0 then .ok ⟨none, .done, 0⟩
      else if slotTaken s.work.slotmap i.val v then .error .badValue
      else .ok ⟨some ⟨v, (x.map (fun y => y.role)).getD .command⟩, .done, v⟩ := fun _ => rfl
  refine ⟨?_, ?_, ?_, ?_, ?_, ?_, ?_⟩
  · rintro rfl hv
    exact refuse (by decide) ((number _).trans (if_pos hv))
  · rintro rfl hv
    refine store (by decide) ((number _).trans ?_)
    rw [if_neg (by omega), if_pos hv, hv]
  · rintro rfl h1 h63 htaken
    refine refuse (by decide) ((number _).trans ?_)
    rw [if_neg (by omega), if_neg (by omega), if_pos (slotTaken_iff.mpr htaken)]
  · rintro rfl h1 h63 htaken
    have hw := number s.work.slotmap[i].value
    rw [if_neg (by omega), if_neg (by omega), if_neg (mt slotTaken_iff.mp htaken)] at hw
    refine ⟨fun hx => store (by decide) ?_, fun y hx => store (by decide) ?_⟩ <;>
      · rw [hx] at hw ⊢
        exact hw
  · rintro rfl hv
    have hrole : Role.ofCode v = none := by
      match v, hv with
      | _ + 2, _ => rfl
    exact refuse (by decide) (writeSlotmapField_role_unnamed hrole)
  · rintro rfl hv hx
    obtain ⟨r, hr⟩ : ∃ r, Role.ofCode v = some r := by
      interval_cases v <;> exact ⟨_, rfl⟩
    rw [hx] at refuse
    exact refuse (by decide) (writeSlotmapField_role_unused hr)
  · rintro rfl y hx
    rw [hx] at store
    refine ⟨fun hv => store (by decide) (writeSlotmapField_role ?_), fun hv => store (by decide) (writeSlotmapField_role ?_)⟩ <;>
      rw [hv] <;> rfl

/-! ## PROGRAM -/

section
variable {i : Fin 80}

theorem programBusy_iff {q : Sequencer} {p : Nat} :
    programBusy q p = true ↔ (∃ r, q.run = some r ∧ r.program.val = p) ∨ ∃ x ∈ q.queue, x.val = p := by
  simp [programBusy, Option.any_eq_true]

theorem serveWriteProgram_busy (h : programBusy s.seg.seqr (i.val / 10) = true) :
    serveWriteProgram i.val field v s = refuseWith .refusedState s := by
  rw [serveWriteProgram, getElem?_fin]
  exact if_pos h

theorem serveWriteProgram_ok {w : Written ProgramEntry} (hb : ¬programBusy s.seg.seqr (i.val / 10) = true)
    (h : writeProgramField s.work.program[i].value field v = .ok w) :
    serveWriteProgram i.val field v s = ⟨w.result, toValue w.value, { s with work := { s.work with
      program := s.work.program.set i ⟨w.entry, false⟩ } }⟩ := by
  rw [serveWriteProgram, getElem?_fin]
  simp only [if_neg hb, h, setIfInBounds_fin]

theorem serveWriteProgram_error {r : Result} (hb : ¬programBusy s.seg.seqr (i.val / 10) = true)
    (h : writeProgramField s.work.program[i].value field v = .error r) :
    serveWriteProgram i.val field v s = refuseWith r s := by
  rw [serveWriteProgram, getElem?_fin]
  simp only [if_neg hb, h]

theorem writeProgramField_number (x : ProgramEntry) {hi : Nat}
    (h : (field, hi) ∈ [(1, 10), (4, 3600), (5, 32640), (6, 7200), (8, 120)]) :
    ∃ put, (∀ v, writeProgramField x field v = putNumber (clamp 0 hi v) put)
      ∧ ∀ n, programFields (put n) = (programFields x).set field n := by
  simp only [List.mem_cons, Prod.mk.injEq, List.not_mem_nil, or_false] at h
  rcases h with ⟨rfl, rfl⟩ | ⟨rfl, rfl⟩ | ⟨rfl, rfl⟩ | ⟨rfl, rfl⟩ | ⟨rfl, rfl⟩
  · exact ⟨fun n => { x with stepCount := n }, fun _ => rfl, fun _ => rfl⟩
  · exact ⟨fun n => { x with offset := n }, fun _ => rfl, fun _ => rfl⟩
  · exact ⟨fun n => { x with params := { x.params with threshold := n } }, fun _ => rfl, fun _ => rfl⟩
  · exact ⟨fun n => { x with params := { x.params with deferralLimit := n } }, fun _ => rfl, fun _ => rfl⟩
  · exact ⟨fun n => { x with params := { x.params with warning := n } }, fun _ => rfl, fun _ => rfl⟩

theorem writeProgramField_kind (x : ProgramEntry) (v : Nat) :
    writeProgramField x 0 v = putCode v (ProgramKind.ofCode v) (fun k => { x with kind := k }) := rfl

theorem writeProgramField_group (x : ProgramEntry) (v : Nat) :
    writeProgramField x 2 v = putCode v (finOfCode 16 v) (fun g => { x with localGroup := g }) := rfl

theorem writeProgramField_startMode (x : ProgramEntry) (v : Nat) :
    writeProgramField x 3 v = putCode v (StartMode.ofCode v) (fun m => { x with startMode := m }) := rfl

theorem writeProgramField_policy (x : ProgramEntry) (v : Nat) : writeProgramField x 7 v =
    putCode v (LatePolicy.ofCode v) (fun p => { x with params := { x.params with policy := p } }) := by
  have hlift : writeProgramField x 7 v = liftWrite (fun p : Params => { x with params := p })
    (putCode v (LatePolicy.ofCode v) fun y => { x.params with policy := y }) := rfl
  rw [hlift, liftWrite_putCode]

end

/-- Settles O28: the tests, then the value by its field. -/
theorem writeProgram : Obligations.WriteProgram := by
  intro h index field value s ha hu q v c refuses
  have hserve : serve q s = serveWrite TableName.program.ix.val index.toNat field.toNat value s := rfl
  refine ⟨fun hi => exec_refused rfl ha (hserve.trans (serveWrite_badIndex hi)), ?_⟩
  intro i hi old busy stores
  rw [← hi] at hserve
  refine ⟨fun hf => exec_refused rfl ha (hserve.trans (serveWrite_badField i.isLt (.inl hf))), fun hf h0 => ?_,
    fun hf hfield => ?_⟩
  · have habsent : fieldAbsent TableName.program.ix.val i.val field.toNat = true := by
      simp [fieldAbsent, TableName.ix, h0, hf]
    exact exec_refused rfl ha (hserve.trans (serveWrite_badField i.isLt (.inr habsent)))
  have hown : serve q s = serveWriteProgram i.val field.toNat v s :=
    hserve.trans ((serveWrite_stored i.isLt hf (fieldAbsent_eq_false fun _ => hfield.symm)).trans (if_neg (not_underStore hu)))
  refine ⟨fun hb => exec_refused rfl ha (hown.trans (serveWriteProgram_busy (programBusy_iff.mpr hb))), fun hb => ?_⟩
  have hb' := mt programBusy_iff.mp hb
  have store : ∀ {res n}, Stores programFields old field.toNat (writeProgramField old field.toNat v) res n → stores res n := by
    rintro res n ⟨e, hw, he⟩
    exact ⟨e, he, exec_served rfl ha (hown.trans (serveWriteProgram_ok hb' hw))⟩
  have refuse : writeProgramField old field.toNat v = .error .badValue → refuses .badValue :=
    fun hw => exec_refused rfl ha (hown.trans (serveWriteProgram_error hb' hw))
  refine ⟨?_, ?_, ?_⟩
  · rintro (rfl | rfl | rfl) <;> split
    · next hv => exact store (stores_code (writeProgramField_kind _ v) (fun _ => rfl) (programKind_ofCode_le hv))
    · next hv => exact refuse ((writeProgramField_kind _ v).trans (putCode_none _ (programKind_ofCode_gt hv)))
    · next hv => exact store (stores_code (writeProgramField_startMode _ v) (fun _ => rfl) (startMode_ofCode_le hv))
    · next hv => exact refuse ((writeProgramField_startMode _ v).trans (putCode_none _ (startMode_ofCode_gt hv)))
    · next hv => exact store (stores_code (writeProgramField_policy _ v) (fun _ => rfl) (latePolicy_ofCode_le hv))
    · next hv => exact refuse ((writeProgramField_policy _ v).trans (putCode_none _ (latePolicy_ofCode_gt hv)))
  · rintro rfl
    split
    · next hv =>
      exact store (stores_code (code := Fin.val) (writeProgramField_group _ v) (fun _ => rfl) ⟨_, finOfCode_lt hv, rfl⟩)
    · next hv => exact refuse ((writeProgramField_group _ v).trans (putCode_none _ (finOfCode_ge hv)))
  · intro top hmem
    obtain ⟨put, hput, hfields⟩ := writeProgramField_number old hmem
    obtain ⟨-, within, above⟩ := stores_number (hput v) hfields (Nat.zero_le _)
    exact ⟨fun hle => store (within (Nat.zero_le _) hle), fun hgt => store (above hgt)⟩

/-! ## DAYPLAN -/

section
variable {i : Fin 48}

theorem serveWriteDayplan_ok {w : Written (Option DayPlanEntry)}
    (h : writeDayplanField s.work.dayplan[i].value field v = .ok w) :
    serveWriteDayplan i.val field v s = ⟨w.result, toValue w.value, { s with
      work := { s.work with dayplan := s.work.dayplan.set i ⟨w.entry, false⟩ }
      clock := { s.clock with fired := s.clock.fired.set i false } }⟩ := by
  rw [serveWriteDayplan, getElem?_fin]
  simp only [h, setIfInBounds_fin]

theorem serveWriteDayplan_error {r : Result} (h : writeDayplanField s.work.dayplan[i].value field v = .error r) :
    serveWriteDayplan i.val field v s = refuseWith r s := by
  rw [serveWriteDayplan, getElem?_fin]
  simp only [h]

end

theorem writeDayplanField_minute (x : Option DayPlanEntry) (v : Nat) (h : v ≠ 65535) : writeDayplanField x 0 v =
    putNumber (clamp 0 1439 v) (fun n => some ⟨n, (x.map (fun y => y.program)).getD 0⟩) := if_neg h

theorem writeDayplanField_program (x : Option DayPlanEntry) (v : Nat) : writeDayplanField x 1 v =
    putCode v (finOfCode 8 v) (fun p => some ⟨(x.map (fun y => y.minute)).getD 0, p⟩) := rfl

/-- Settles O29: the tests, then the minute and the program. -/
theorem writeDayplan : Obligations.WriteDayplan := by
  intro h index field value s ha hu q v c refuses
  have hserve : serve q s = serveWrite TableName.dayplan.ix.val index.toNat field.toNat value s := rfl
  refine ⟨fun hi => exec_refused rfl ha (hserve.trans (serveWrite_badIndex hi)), ?_⟩
  intro i hi old minute program stores
  rw [← hi] at hserve
  refine ⟨fun hf => exec_refused rfl ha (hserve.trans (serveWrite_badField i.isLt (.inl hf))), ?_⟩
  have hown : field.toNat < 2 → serve q s = serveWriteDayplan i.val field.toNat v s := fun hf =>
    hserve.trans ((serveWrite_stored i.isLt hf rfl).trans (if_neg (not_underStore hu)))
  have store : ∀ {res n x}, field.toNat < 2 → writeDayplanField old field.toNat v = .ok ⟨x, res, n⟩ → stores res n x :=
    fun hf hw => exec_served rfl ha ((hown hf).trans (serveWriteDayplan_ok hw))
  refine ⟨?_, ?_, ?_, ?_, ?_⟩
  · rintro rfl hv
    exact store (by decide) (if_pos hv)
  · rintro rfl hv
    exact store (by decide) ((writeDayplanField_minute _ v (by omega)).trans (putNumber_within _ (Nat.zero_le _) hv))
  · rintro rfl hlo hhi
    exact store (by decide) ((writeDayplanField_minute _ v (by omega)).trans (putNumber_above _ (Nat.zero_le _) hlo))
  · rintro rfl p hp
    have hv : v < 8 := hp ▸ p.isLt
    have hcode : finOfCode 8 v = some p := (finOfCode_lt hv).trans (congrArg some (Fin.ext hp.symm))
    exact store (by decide) ((writeDayplanField_program _ v).trans (putCode_some _ hcode))
  · rintro rfl hv
    exact exec_refused rfl ha ((hown (by decide)).trans (serveWriteDayplan_error
      ((writeDayplanField_program _ v).trans (putCode_none _ (finOfCode_ge (by omega))))))

end Sys2Proof.Machine
end

section
/-! WRITE of the passage counter, and of a terminal's function (R40, R74). -/

namespace Sys2Proof.Machine

variable {s : State} {v field : Nat}

/-! ## The passage counter -/

theorem deferralFields_length (x : Deferral) : x.fields.length = 2 := by cases x <;> rfl
theorem pendingFields_length (x : Option PendingTarget) : (pendingFields x).length = 6 := by cases x <;> rfl
theorem pulseFields_length (x : PulseState) : x.fields.length = 2 := by cases x <;> rfl

/-- DOORSTATE has 85 fields (R182, logs 27, 72). -/
theorem doorstateFields_length (e : Env) (g : Segment) (d : DoorNo) : (doorstateFields e g d).length = 85 := by
  simp [doorstateFields, engineFields, inputFields, dropFields, monitorFields, chargeFields, paramFields, liveFields,
    stickyFields, allTerms, deferralFields_length, pendingFields_length, pulseFields_length]

theorem entryFields_doorstate (s : State) (d : DoorNo) (v : Value) :
    entryFields s 7 d.val v = some (doorstateFields s.env s.seg d) := dif_pos d.isLt

theorem putHalf_low (c : BitVec 24) (h : v < 65536) : (putHalf false v c).toNat = 65536 * (c.toNat / 65536) + v := by
  have hc := c.isLt
  simp only [putHalf, Bool.false_eq_true, if_false]
  rw [BitVec.toNat_append, ← Nat.shiftLeft_add_eq_or_of_lt (BitVec.isLt _), Nat.shiftLeft_eq, BitVec.extractLsb'_toNat,
    BitVec.toNat_ofNat, Nat.shiftRight_eq_div_pow]
  omega

theorem putHalf_high (c : BitVec 24) (h : v ≤ 255) : (putHalf true v c).toNat = 65536 * v + c.toNat % 65536 := by
  simp only [putHalf, if_true]
  rw [BitVec.toNat_append, ← Nat.shiftLeft_add_eq_or_of_lt (BitVec.isLt _), Nat.shiftLeft_eq, BitVec.extractLsb'_toNat,
    BitVec.toNat_ofNat, Nat.shiftRight_zero]
  omega

theorem updMon_eq (e : Env) (d : DoorNo) (f : Monitor → Monitor) (g : Segment) :
    updMon e d f g = g.putDoor d { g.door d with mon := f (g.door d).mon } :=
  upd_same_level e d _ g rfl

theorem serveWritePassage_eq (d : DoorNo) (high : Bool) (v : Nat) (s : State) :
    serveWritePassage d.val high v s =
      ⟨(if high then clamp 0 255 v else ⟨v, .done⟩ : Clamped).result,
        toValue (if high then clamp 0 255 v else ⟨v, .done⟩ : Clamped).value,
        { s with seg := s.seg.putDoor d { s.seg.door d with mon := { (s.seg.door d).mon with
          passages := putHalf high (if high then clamp 0 255 v else ⟨v, .done⟩ : Clamped).value (s.seg.door d).mon.passages } } }⟩ := by
  rw [serveWritePassage, dif_pos d.isLt]
  simp only [State.seg!, updMon_eq]

/-- A WRITE to a field of DOORSTATE that exists (R170). -/
theorem serveWrite_doorstate {value : Value} (d : DoorNo) (hf : field < 85) :
    serveWrite 7 d.val field value s = writeRuntime 7 d.val field value.toNat s := by
  have hlen := doorstateFields_length s.env s.seg d
  have hx := List.getElem?_eq_getElem (l := doorstateFields s.env s.seg d) (i := field) (hlen ▸ hf)
  rw [serveWrite, lookupField_ok (by decide) (entryFields_doorstate s d value) hx rfl]
  rfl

/-- Settles O30: the halves of the counter by their fields; every other WRITE to DOORSTATE fails the first test it meets. -/
theorem writePassageCounter : Obligations.WritePassageCounter := by
  constructor
  · intro h index field value s d ha hd q v c x stores
    have hserve : serve q s = serveWrite 7 index.toNat field.toNat value s := rfl
    rw [← hd] at hserve
    have store : ∀ {res n counter high}, serve q s = serveWritePassage d.val high v s →
        (if high then clamp 0 255 v else ⟨v, .done⟩) = (⟨n, res⟩ : Clamped) →
        (putHalf high n x.mon.passages).toNat = counter → stores res n counter := by
      intro res n counter high hs hc hcounter
      rw [serveWritePassage_eq, hc] at hs
      refine ⟨_, exec_served rfl ha hs, ?_, ?_⟩
      · simpa using hcounter
      · simp [x]
    have low : field.toNat = passageLowField → serve q s = serveWritePassage d.val false v s := fun hf => by
      rw [hserve, hf, serveWrite_doorstate d (by decide)]
      rfl
    have high : field.toNat = passageHighField → serve q s = serveWritePassage d.val true v s := fun hf => by
      rw [hserve, hf, serveWrite_doorstate d (by decide)]
      rfl
    refine ⟨fun hf => ?_, fun hf hv => ?_, fun hf hv => ?_⟩
    · exact store (low hf) rfl (putHalf_low _ value.isLt)
    · exact store (high hf) (by simp [clamp, Nat.not_lt.mpr hv]) (putHalf_high _ hv)
    · exact store (high hf) (by simp [clamp, hv]) (putHalf_high _ (le_refl _))
  · intro h index field value s ha refuses
    have hcode : (7, 64) ∈ [(7, 64), (8, 16), (9, 32), (10, 1)] := List.mem_cons_self
    refine ⟨fun hi => ?_, fun hi hf => ?_, fun hi hf hlow hhigh => ?_⟩
    · exact exec_refused rfl ha (serveWrite_error (table := 7) (lookupField_badIndex (by decide) ((entryFields_runtime hcode).1 hi)))
    · exact exec_refused rfl ha (serveWrite_error (table := 7) (lookupField_badField (by decide)
        (entryFields_doorstate s ⟨index.toNat, hi⟩ value) (.inl (by rwa [doorstateFields_length]))))
    · exact exec_refused rfl ha (serveWrite_readOnly (table := 7) (by decide) (entryFields_doorstate s ⟨index.toNat, hi⟩ value)
        (by rwa [doorstateFields_length]) (fun h => h.2.elim hlow hhigh))

/-! ## Terminal functions -/

theorem termFn_ofCode_code (f : TermFn) : TermFn.ofCode f.code = some f := by cases f <;> rfl

theorem writeProfileField_function (x : ProfileEntry) (k : Fin 6) (f : TermFn) :
    writeProfileField x (k.val + 1) f.code = .ok (claimFunction x k f) := by
  have hf := termFn_ofCode_code f
  fin_cases k <;> simp [writeProfileField, hf]

theorem claimedFrom_some {x : ProfileEntry} {k j : Fin 6} {f : TermFn} (h : claimedFrom x k f = some j) :
    j ≠ k ∧ x.functions[j] = f ∧ f ≠ .generalIn ∧ f ≠ .none := by
  unfold claimedFrom at h
  split at h
  · cases h
  · next hf =>
    have hj := List.find?_some h
    simp only [Bool.and_eq_true, bne_iff_ne, ne_eq, beq_iff_eq] at hj
    exact ⟨hj.1, hj.2, fun h => hf (.inl h), fun h => hf (.inr h)⟩

theorem claimedFrom_none {x : ProfileEntry} {k : Fin 6} {f : TermFn} (h : claimedFrom x k f = none) (hg : f ≠ .generalIn)
    (hn : f ≠ .none) (j : Fin 6) (hj : j ≠ k) : x.functions[j] ≠ f := by
  rw [claimedFrom, if_neg (by simp [hg, hn]), List.find?_eq_none] at h
  intro hf
  exact h j (by simp [allTerms]) (by simp [hj, hf])

/-- What each terminal serves after a claim (R40). -/
theorem claimFunction_get (x : ProfileEntry) (k i : Fin 6) (f : TermFn) : (claimFunction x k f).entry.functions[i] =
    if i = k then f else if claimedFrom x k f = some i then .generalIn else x.functions[i] := by
  unfold claimFunction
  cases h : claimedFrom x k f with
  | none => simp [Vector.getElem_set, Fin.ext_iff, eq_comm]
  | some j => simp [Vector.getElem_set, Fin.ext_iff, eq_comm]

theorem claimFunction_value (x : ProfileEntry) (k : Fin 6) (f : TermFn) :
    (claimFunction x k f).value = ((claimedFrom x k f).map (fun j => j.val + 1)).getD 0 := by
  unfold claimFunction
  cases claimedFrom x k f <;> rfl

theorem claimFunction_rest (x : ProfileEntry) (k : Fin 6) (f : TermFn) :
    (claimFunction x k f).result = .done
      ∧ (claimFunction x k f).entry = { x with functions := (claimFunction x k f).entry.functions } := by
  unfold claimFunction
  cases claimedFrom x k f <;> exact ⟨rfl, rfl⟩

/-- The doors that name a profile are none of those whose state keeps it from a WRITE (R37). -/
theorem profileWriteRefusal_none {e : Env} {p : Fin 8} {g : Segment}
    (h : ∀ d, e.work.door[d].value.profile = p → (g.door d).eng.state = .absent ∨ (g.door d).eng.state = .outOfService) :
    profileWriteRefusal e p field g = none := by
  have named : ∀ d ∈ doorsNaming e p, (g.door d).eng.state = .absent ∨ (g.door d).eng.state = .outOfService := fun d hd =>
    h d (beq_iff_eq.mp (List.mem_filter.mp hd).2)
  unfold profileWriteRefusal
  dsimp only
  rw [if_neg, if_neg]
  · simp only [Bool.and_eq_true, List.any_eq_true, not_and, not_exists]
    intro _ d hd
    rcases named d hd with h | h <;> simp [h]
  · simp only [List.any_eq_true, not_exists, not_and]
    intro d hd
    rcases named d hd with h | h <;> simp [h, DoorState.usesProfile]

theorem serveWriteProfile_ok {p : Fin 8} {w : Written ProfileEntry} (hr : profileWriteRefusal s.env p field s.seg = none)
    (h : writeProfileField s.work.profile[p].value field v = .ok w) :
    serveWriteProfile p.val field v s = ⟨w.result, toValue w.value,
      settled (changeTables { s.work with profile := s.work.profile.set p ⟨w.entry, false⟩ } (profileWritten field p) s)⟩ := by
  rw [serveWriteProfile, dif_pos p.isLt]
  simp only [Fin.eta, hr, h]

/-- Each function but GENERAL_IN and NONE stands on one terminal at most (R40). -/
def StandsOnce (x : ProfileEntry) : Prop :=
  ∀ i j : Fin 6, x.functions[i] = x.functions[j] → x.functions[i] ≠ .generalIn → x.functions[i] ≠ .none → i = j

/-- A terminal that serves function f after its claim for terminal k is k. -/
theorem eq_of_claimed {x : ProfileEntry} {k i : Fin 6} {f : TermFn} (h : StandsOnce x)
    (hi : (claimFunction x k f).entry.functions[i] = f) (hg : f ≠ .generalIn) (hn : f ≠ .none) : i = k := by
  by_contra hk
  rw [claimFunction_get, if_neg hk] at hi
  split at hi
  · exact hg hi.symm
  · next hc =>
    cases hclaim : claimedFrom x k f with
    | none => exact claimedFrom_none hclaim hg hn i hk hi
    | some j =>
      obtain ⟨-, hj, -, -⟩ := claimedFrom_some hclaim
      have hij : i = j := h i j (hi.trans hj.symm) (hi ▸ hg) (hi ▸ hn)
      exact hc (hij ▸ hclaim)

theorem claimFunction_once {x : ProfileEntry} {k : Fin 6} {f : TermFn} (h : StandsOnce x) :
    StandsOnce (claimFunction x k f).entry := by
  intro i j hij hg hn
  by_cases hi : (claimFunction x k f).entry.functions[i] = f
  · have hg' : f ≠ .generalIn := fun hf => hg (hi.trans hf)
    have hn' : f ≠ .none := fun hf => hn (hi.trans hf)
    rw [eq_of_claimed h hi hg' hn', eq_of_claimed h (hij.symm.trans hi) hg' hn']
  · have hj : (claimFunction x k f).entry.functions[j] ≠ f := fun hj => hi (hij.trans hj)
    rw [claimFunction_get] at hi hj
    have hik : i ≠ k := fun h => hi (if_pos h)
    have hjk : j ≠ k := fun h => hj (if_pos h)
    rw [claimFunction_get, claimFunction_get, if_neg hik, if_neg hjk] at hij
    rw [claimFunction_get, if_neg hik] at hg hn
    split at hij
    · next hc => exact absurd (if_pos hc) hg
    · next hc =>
      rw [if_neg hc] at hg hn
      split at hij
      · exact absurd hij hg
      · exact h i j hij hg hn

/-- Settles O27: the claim moves the function from the one terminal it stands on, where it has one. -/
theorem functionClaim : Obligations.FunctionClaim := by
  intro h index field value s p k f ha hp hfield hcode hu hdoors old once honce
  have hserve : serve (fullRequest .write h 4 index field value) s
      = serveWrite TableName.profile.ix.val p.val field.toNat value s := by
    rw [hp]
    rfl
  have hf : field.toNat < TableName.profile.fieldCount := by
    rw [hfield]
    exact (Nat.succ_lt_succ k.isLt).trans (by decide)
  have hown := hserve.trans ((serveWrite_stored p.isLt hf rfl).trans (if_neg (not_underStore hu)))
  have hwrite : writeProfileField old field.toNat value.toNat = .ok (claimFunction old k f) := by
    rw [hfield, ← hcode]
    exact writeProfileField_function old k f
  obtain ⟨hresult, hrest⟩ := claimFunction_rest old k f
  have hserved := hown.trans (serveWriteProfile_ok (profileWriteRefusal_none hdoors) hwrite)
  rw [hresult] at hserved
  refine ⟨_, (claimFunction old k f).entry, (claimFunction old k f).value, exec_served rfl ha hserved, rfl, rfl,
    claimFunction_once honce, hrest, ?_, ?_, ?_, ?_, ?_⟩
  · rw [claimFunction_get, if_pos rfl]
  · intro j hj hg hn hold
    cases hc : claimedFrom old k f with
    | none => exact absurd hold (claimedFrom_none hc hg hn j hj)
    | some i =>
      obtain ⟨-, hi, -, -⟩ := claimedFrom_some hc
      obtain rfl : j = i := honce j i (hold.trans hi.symm) (hold ▸ hg) (hold ▸ hn)
      rw [claimFunction_get, if_neg hj, if_pos hc, claimFunction_value, hc]
      exact ⟨rfl, rfl⟩
  · intro j hj hne
    rw [claimFunction_get, if_neg hj, if_neg]
    intro hc
    obtain ⟨-, hf, hg, hn⟩ := claimedFrom_some hc
    rcases hne with h | h | h
    · exact h hf
    · exact hg h
    · exact hn h
  · intro hne
    have hc : claimedFrom old k f = none := by
      cases hc : claimedFrom old k f with
      | none => rfl
      | some j =>
        obtain ⟨hj, hf, hg, hn⟩ := claimedFrom_some hc
        rcases hne with h | h | h
        · exact absurd hf (h j hj)
        · exact absurd h hg
        · exact absurd h hn
    rw [claimFunction_value, hc]
    rfl
  · intro hold
    have hsame : (claimFunction old k f).entry.functions = old.functions := by
      apply Vector.ext
      intro i hi
      have hget := claimFunction_get old k ⟨i, hi⟩ f
      split at hget
      · next hik => exact hget.trans (hold ▸ congrArg (fun j : Fin 6 => old.functions[j]) hik.symm)
      split at hget
      · next hik hc =>
        obtain ⟨-, hf, hg, hn⟩ := claimedFrom_some hc
        exact absurd (honce _ k (hf.trans hold.symm) (hf ▸ hg) (hf ▸ hn)) hik
      · exact hget
    rw [hrest, hsame]

end Sys2Proof.Machine
end

section
/-! READ: the fields of every table (R169, R182), and the segment report of a status slot (R12, R13). -/

namespace Sys2Proof.Machine

variable {s : State}

/-! ## Which entries exist -/

/-- The tables by code, with their entry counts (R181). -/
theorem table_of_count {t n : Nat} (h : [1, 8, 32, 64, 8, 80, 48, 64, 16, 32, 1][t]? = some n) :
    (∃ tb : TableName, t = tb.ix.val ∧ n = tb.count) ∨ (t, n) ∈ [(7, 64), (8, 16), (9, 32), (10, 1)] := by
  obtain ⟨ht, rfl⟩ := List.getElem?_eq_some_iff.mp h
  simp only [List.length_cons, List.length_nil] at ht
  interval_cases t
  · exact .inl ⟨.segment, rfl, rfl⟩
  · exact .inl ⟨.slotmap, rfl, rfl⟩
  · exact .inl ⟨.groupmap, rfl, rfl⟩
  · exact .inl ⟨.door, rfl, rfl⟩
  · exact .inl ⟨.profile, rfl, rfl⟩
  · exact .inl ⟨.program, rfl, rfl⟩
  · exact .inl ⟨.dayplan, rfl, rfl⟩
  all_goals simp

theorem entryFields_of_count {t n i : Nat} {v : Value} (h : [1, 8, 32, 64, 8, 80, 48, 64, 16, 32, 1][t]? = some n) :
    t ≤ 10 ∧ (n ≤ i → entryFields s t i v = none) ∧ (i < n → ∃ fs, entryFields s t i v = some fs) := by
  rcases table_of_count h with ⟨tb, rfl, rfl⟩ | hmem
  · exact ⟨tb.ix_le, entryFields_stored_none s tb v, fun hi => (entryFields_stored s tb v hi).imp fun _ h => h.1⟩
  · have ht : t ≤ 10 := by
      simp only [List.mem_cons, Prod.mk.injEq, List.not_mem_nil, or_false] at hmem
      omega
    exact ⟨ht, entryFields_runtime hmem⟩

/-! ## Lists -/

/-- The entries of a vector, index by index. -/
theorem map_toList_eq_finRange {α β : Type} {n : Nat} (xs : Vector α n) (f : α → β) :
    xs.toList.map f = (List.finRange n).map (fun k => f xs[k]) := by
  apply List.ext_getElem
  · simp
  · intro i h1 h2
    simp

/-- The bits of a word, the first at bit 0. -/
theorem markWord_take (ms : List Bool) (n : Nat) :
    markWord (ms.take n) = ((List.range n).map (fun b => if ms.getD b false = true then 2 ^ b else 0)).sum := by
  induction n generalizing ms with
  | zero => rfl
  | succ n ih =>
    rw [List.range_succ_eq_map, List.map_cons, List.sum_cons, List.map_map]
    cases ms with
    | nil => simp [markWord, Function.comp_def]
    | cons b ms =>
      have hrest : ((fun i => if (b :: ms).getD i false = true then 2 ^ i else 0) ∘ Nat.succ)
          = fun i => 2 * (if ms.getD i false = true then 2 ^ i else 0) := by
        funext i
        simp [Nat.pow_succ, Nat.mul_comm]
      rw [hrest, List.sum_map_mul_left, ← ih]
      simp [markWord, flagCode]

/-- The fields that hold the marks of a table (log 61). -/
theorem markFields_eq (w : Tables) (t : TableName) : w.markFields t =
    (List.range (((w.marks t).length + 15) / 16)).map (fun i =>
      ((List.range 16).map (fun b => if (w.marks t).getD (16 * i + b) false = true then 2 ^ b else 0)).sum) := by
  have hlen : (w.marks t).length = t.count := by cases t <;> simp [Tables.marks, TableName.count]
  rw [hlen, Tables.markFields]
  refine List.map_congr_left fun i _ => ?_
  rw [markWord_take]
  simp [List.getD_eq_getElem?_getD, List.getElem?_drop]

/-! ## The fields that the rules list otherwise than the model composes them -/

theorem optFlag_reported (p : ProfileEntry) (x : Door) :
    optFlag (x.reported p) = if p.assigns .lockDrive = true then optFlag x.inputs.reportedDrive else 0 := by
  unfold Door.reported
  split <;> rfl

theorem inputReported_eq (p : ProfileEntry) (x : Door) :
    (if x.inputs.current.isNone then Config.noneCode else optFlag (x.reported p)) =
      if x.inputs.current = none then 65535
      else if p.assigns .lockDrive = true then optFlag x.inputs.reportedDrive else 0 := by
  simp only [optFlag_reported, Option.isNone_iff_eq_none, Config.noneCode]

theorem selectedStep_eq (v : Value) : selectedStep v = v.toNat / 256 := by
  have hv := v.isLt
  rw [selectedStep, BitVec.extractLsb'_toNat, Nat.shiftRight_eq_div_pow]
  omega

theorem selectedDoor_eq (v : Value) : selectedDoor v = v.toNat % 256 := by
  rw [selectedDoor, BitVec.extractLsb'_toNat, Nat.shiftRight_zero]

theorem chosenStep_eq (g : Segment) (v : Value) : chosenStep g v =
    g.seqr.run.bind (fun r => if v.toNat / 256 = 0 then none else r.steps[v.toNat / 256 - 1]?) := by
  rw [chosenStep, selectedStep_eq]
  cases g.seqr.run <;> rfl

theorem stepFields_some (z : StepRecord) : stepFields (some z) =
    [z.state.code, flagCode z.baseReached, z.remaining, optCode z.startMinute, optCode z.doneMinute, z.members.length]
      ++ [DoorOutcome.done, .already, .exempt, .absent, .lost, .leftReleased, .proppedLate, .failed, .budget, .overridden].map
        (fun o => z.members.countP (fun m => m.mark == .outcome o))
      ++ [z.members.countP (fun m => match m.mark with
        | .following _ => true
        | _ => false)] := by
  simp only [List.countP_eq_length_filter]
  rfl

theorem memberFields_some (z : StepRecord) (n : Nat) : memberFields (some z) n =
    if 64 ≤ n then [65535, 65535, 65535] else
      match z.members.find? (fun m => m.door.val == n) with
      | none => [0, 65535, 65535]
      | some m => [1] ++ (match m.mark with
        | .nothing => [65535, 65535]
        | .outcome o => [o.code, 65535]
        | .following j => [65535, j]) := by
  by_cases hn : 64 ≤ n
  · rw [if_pos hn]
    exact if_neg (by omega)
  · rw [if_neg hn]
    refine (if_pos (by omega)).trans ?_
    cases z.members.find? (fun m => m.door.val == n) with
    | none => rfl
    | some m =>
      dsimp only
      cases m.mark <;> rfl

theorem entryFields_slotmap (i : Fin 8) (v : Value) :
    entryFields s 1 i.val v = some (slotmapFields s.work.slotmap[i].value) :=
  congrArg (Option.map _) (getElem?_fin _ i)

theorem entryFields_groupmap (i : Fin 32) (v : Value) :
    entryFields s 2 i.val v = some (groupmapFields s.work.groupmap[i].value) :=
  congrArg (Option.map _) (getElem?_fin _ i)

theorem entryFields_profile (i : Fin 8) (v : Value) :
    entryFields s 4 i.val v = some (profileFields s.work.profile[i].value) :=
  congrArg (Option.map _) (getElem?_fin _ i)

theorem entryFields_dayplan (i : Fin 48) (v : Value) :
    entryFields s 6 i.val v = some (dayplanFields s.work.dayplan[i].value) :=
  congrArg (Option.map _) (getElem?_fin _ i)

theorem entryFields_exemption (i : Fin 16) (v : Value) : entryFields s 8 i.val v =
    some (match s.seg.exemptions.find? (fun y => y.group == i) with
      | none => [65535, 65535, 65535, 65535]
      | some y => [y.group.val, if y.keep = .released then 0 else 1, y.expiry, y.dayCount]) := by
  have hgroup : (fun y : Exemption => y.group == i) = fun y => y.group.val == i.val := by
    funext y
    rw [Bool.eq_iff_iff, beq_iff_eq, beq_iff_eq, Fin.ext_iff]
  rw [hgroup]
  refine (if_pos i.isLt).trans ?_
  rw [exemptionFields]
  cases s.seg.exemptions.find? (fun y => y.group.val == i.val) with
  | none => rfl
  | some y =>
    dsimp only
    cases y.keep <;> rfl

theorem entryFields_exception (i : Fin 32) (v : Value) :
    entryFields s 9 i.val v = some (exceptionFields s.seg i.val) := if_pos i.isLt

/-- Settles O19: the tests in their order; the fields of each table as its rule lists them; the codes. -/
theorem readAnswers : Obligations.ReadAnswers := by
  refine ⟨?_, ?_, ?_⟩
  · intro h table index field value s ha q counts
    refine ⟨fun ht => exec_refused rfl ha (serveRead_error (lookupField_badTable ht)), fun n hn hi => ?_, fun n hn hi => ?_⟩
    · obtain ⟨ht, hnone, -⟩ := entryFields_of_count (s := s) (i := index.toNat) (v := value) hn
      exact exec_refused rfl ha (serveRead_error (lookupField_badIndex ht (hnone hi)))
    · obtain ⟨ht, -, hsome⟩ := entryFields_of_count (s := s) (i := index.toNat) (v := value) hn
      obtain ⟨fs, hfs⟩ := hsome hi
      refine ⟨fs, hfs, fun hf => exec_refused rfl ha (serveRead_error (lookupField_badField ht hfs hf)), fun x hx hp => ?_⟩
      have hread : serve q s = answerDone x s := by
        have hserve : serve q s = serveRead table.toNat index.toNat field.toNat value s := rfl
        rw [hserve, serveRead, lookupField_ok ht hfs hx hp]
      exact exec_served rfl ha hread
  · intro s v flag opt optFlag params x
    refine ⟨rfl, fun i => ?_, fun i => ?_, fun d => ?_, fun i => ?_, fun i => ?_, fun i => ?_, fun i => ?_, fun i => ?_,
      fun d => ?_, ?_⟩
    · rw [entryFields_slotmap]
      cases s.work.slotmap[i].value <;> rfl
    · rw [entryFields_groupmap]
      cases s.work.groupmap[i].value <;> rfl
    · exact congrArg (Option.map _) (getElem?_fin _ d)
    · rw [entryFields_profile, profileFields, map_toList_eq_finRange, map_toList_eq_finRange]
      rfl
    · exact congrArg (Option.map _) (getElem?_fin _ i)
    · rw [entryFields_dayplan]
      cases s.work.dayplan[i].value <;> rfl
    · exact entryFields_exemption i v
    · rw [entryFields_exception, exceptionFields]
      cases s.seg.exceptions[i.val]? <;> rfl
    · intro x p y m pending deferral pulse reported
      have hpending : pendingFields y.pendingTarget = pending := by
        dsimp only [pending]
        cases y.pendingTarget <;> rfl
      have hdeferral : y.deferral.fields = deferral := by
        dsimp only [deferral]
        cases y.deferral <;> rfl
      have hpulse : x.drop.pulse.fields = pulse := by
        dsimp only [pulse]
        cases x.drop.pulse <;> rfl
      have hreported : _ = reported := inputReported_eq p x
      rw [entryFields_doorstate, doorstateFields, engineFields, inputFields, dropFields, hreported, hpending, hdeferral, hpulse]
      simp only [List.append_assoc]
      rfl
    · intro c t f q marks k chosen step member summary dropped
      have hmarks : TableName.all.flatMap s.work.markFields = marks [s.work.segment.defective]
          ++ (marks (s.work.slotmap.toList.map (fun w => w.defective)) ++ (marks (s.work.groupmap.toList.map (fun w => w.defective))
          ++ (marks (s.work.door.toList.map (fun w => w.defective)) ++ (marks (s.work.profile.toList.map (fun w => w.defective))
          ++ (marks (s.work.program.toList.map (fun w => w.defective))
          ++ (marks (s.work.dayplan.toList.map (fun w => w.defective)) ++ [])))))) := by
        simp only [TableName.all, List.flatMap_cons, List.flatMap_nil, markFields_eq]
        rfl
      have hchosen : chosenStep s.seg v = chosen := chosenStep_eq s.seg v
      have hstep : stepFields chosen = step := by
        dsimp only [step]
        cases chosen with
        | none => rfl
        | some z =>
          rw [stepFields_some]
          rfl
      have hmember : memberFields chosen (v.toNat % 256) = member := by
        dsimp only [member]
        cases chosen with
        | none => rfl
        | some z => exact memberFields_some z _
      have hsummary : summaryFields q.summary = summary := by
        dsimp only [summary]
        cases q.summary <;> rfl
      have hdropped : droppedFields q.dropped = dropped := by
        dsimp only [dropped]
        cases q.dropped <;> rfl
      have hstatus : entryFields s 10 0 v = some (statusFields s v) := rfl
      rw [hstatus, statusFields, storeFields, sequencerFields, map_toList_eq_finRange, map_toList_eq_finRange, hmarks, hchosen,
        hstep, selectedDoor_eq, hmember, hsummary, hdropped]
      simp only [List.append_assoc, List.append_nil]
      rfl
  · refine ⟨rfl, rfl, rfl, rfl, rfl, rfl, rfl, rfl, rfl, rfl, rfl, rfl, rfl, rfl, rfl, rfl, rfl, rfl, rfl, rfl, rfl, rfl⟩

/-! ## The segment report -/

/-- The greatest of the positions in a list, counted from 1. -/
theorem foldl_max_positions {α : Type} (xs : List (α × Nat)) (m : Nat) :
    let k := xs.foldl (fun m x => max m (x.2 + 1)) m
    m ≤ k ∧ (∀ x ∈ xs, x.2 < k) ∧ (k = m ∨ ∃ x ∈ xs, k = x.2 + 1) := by
  induction xs generalizing m with
  | nil => simp
  | cons y ys ih =>
    obtain ⟨hle, hall, hattained⟩ := ih (max m (y.2 + 1))
    dsimp only at *
    rw [List.foldl_cons]
    refine ⟨by omega, ?_, ?_⟩
    · intro x hx
      rcases List.mem_cons.mp hx with rfl | hx
      · omega
      · exact hall x hx
    · rcases hattained with h | ⟨x, hx, h⟩
      · rcases Nat.le_total (y.2 + 1) m with hm | hm
        · exact .inl (by omega)
        · exact .inr ⟨y, List.mem_cons_self, by omega⟩
      · exact .inr ⟨x, List.mem_cons_of_mem _ hx, h⟩

/-- The highest-numbered step that has started; 0 for none (R13). -/
def lastStarted (steps : List StepRecord) : Nat :=
  (steps.zipIdx.filter (fun x => x.1.state != .delaying)).foldl (fun m x => max m (x.2 + 1)) 0

theorem mem_started {steps : List StepRecord} {y : StepRecord} {j : Nat} :
    (y, j) ∈ steps.zipIdx.filter (fun x => x.1.state != .delaying) ↔ steps[j]? = some y ∧ y.state ≠ .delaying := by
  simp [List.mem_zipIdx_iff_getElem?]

theorem lastStarted_spec (steps : List StepRecord) : lastStarted steps ≤ steps.length
    ∧ (∀ j y, steps[j]? = some y → y.state ≠ .delaying → j < lastStarted steps)
    ∧ (0 < lastStarted steps → ∃ y, steps[lastStarted steps - 1]? = some y ∧ y.state ≠ .delaying) := by
  obtain ⟨-, hall, hattained⟩ := foldl_max_positions (steps.zipIdx.filter (fun x => x.1.state != .delaying)) 0
  have attained : 0 < lastStarted steps → ∃ y, steps[lastStarted steps - 1]? = some y ∧ y.state ≠ .delaying := by
    intro hpos
    rcases hattained with h | ⟨⟨y, j⟩, hmem, h⟩
    · exact absurd h hpos.ne'
    · have hj : lastStarted steps - 1 = j := by
        have : lastStarted steps = j + 1 := h
        omega
      exact ⟨y, hj ▸ mem_started.mp hmem⟩
  refine ⟨?_, fun j y hy hne => hall _ (mem_started.mpr ⟨hy, hne⟩), attained⟩
  by_contra hlt
  obtain ⟨y, hy, -⟩ := attained (by omega)
  have := (List.getElem?_eq_some_iff.mp hy).1
  omega

theorem runByte_of_run {q : Sequencer} {x : Run} (h : q.run = some x) (hk : lastStarted x.steps < 16) :
    (runByte q).toNat = 128 + 16 * x.program.val + lastStarted x.steps := by
  have hp := x.program.isLt
  have hbyte : runByte q = (1#1 ++ BitVec.ofNat 3 x.program.val ++ BitVec.ofNat 4 (lastStarted x.steps) : BitVec 8) := by
    rw [runByte, h]
    rfl
  have hhigh : (1#1 ++ BitVec.ofNat 3 x.program.val : BitVec 4).toNat = 8 + x.program.val := by
    have hofNat : (BitVec.ofNat 3 x.program.val).toNat = x.program.val := Nat.mod_eq_of_lt hp
    rw [BitVec.toNat_append, ← Nat.shiftLeft_add_eq_or_of_lt (BitVec.isLt _), hofNat]
    rfl
  rw [hbyte, toNat_append_nibbles, hhigh, BitVec.toNat_ofNat]
  omega

theorem conditionByte {c : Condition} {a : Nat} (ha : a ≤ 24) :
    (BitVec.ofNat 3 c.code ++ BitVec.ofNat 5 a : BitVec 8).toNat = 32 * c.code + a := by
  have hc : c.code < 8 := by cases c <;> decide
  rw [BitVec.toNat_append, ← Nat.shiftLeft_add_eq_or_of_lt (BitVec.isLt _), Nat.shiftLeft_eq, BitVec.toNat_ofNat,
    BitVec.toNat_ofNat]
  omega

theorem learningByte {learning : Bool} {n : Nat} (hn : n ≤ 64) :
    (bit learning ++ BitVec.ofNat 7 n : BitVec 8).toNat = (if learning then 128 else 0) + n := by
  rw [BitVec.toNat_append, ← Nat.shiftLeft_add_eq_or_of_lt (BitVec.isLt _), Nat.shiftLeft_eq, BitVec.toNat_ofNat]
  cases learning <;> simp [bit] <;> omega

theorem byte_toNat {n : Nat} (h : n < 256) : (byte n).toNat = n := Nat.mod_eq_of_lt h

theorem securedCount_le (g : Segment) : securedCount g ≤ 64 :=
  (List.length_filter_le _ _).trans (by simp [allDoors])

theorem route_of_status {s : State} {n : Nat} (ha : Awaits .status s) (hp : s.trunk.phase = .slots n) :
    s.route n true = .status ∧ n < 64 := by
  obtain ⟨n', h1, h64, hp', hrole⟩ := ha.slot
  obtain rfl : n = n' := FramePhase.slots.inj (hp.symm.trans hp')
  have h0 : n ≠ 0 := by omega
  simp [State.route, ha.frame.running, ha.frame.header, ha.frame.address, h0, ha.listen, hrole, h64]

/-- Settles O17: the slot is routed as a status slot, and the bytes of the report are its items. -/
theorem statusSlotReport : Obligations.StatusSlotReport := by
  intro c r s a n hc hr ha hp haddr ha24 hlist hsteps
  obtain ⟨hroute, hn⟩ := route_of_status ha hp
  refine ⟨segmentReport s, ?_, trunkPasses_trunkSeal _, ?_, ?_, ?_, learningByte (securedCount_le _), ?_, ?_, ?_, ?_⟩
  · rw [exec_of_asRecord hc, recordArrives_slot ha.frame.inserted hp hn, slotArrives, hr, hroute, ← forward_eq _ hp]
  · have hno : s.addressNo = a := by simp [State.addressNo, haddr]
    have hb0 : (segmentReport s).b0 = BitVec.ofNat 3 s.condition.code ++ BitVec.ofNat 5 s.addressNo := rfl
    rw [hb0, hno]
    exact conditionByte ha24
  · intro hrun
    have hb1 : (segmentReport s).b1 = runByte s.seg.seqr := rfl
    rw [hb1, runByte, hrun]
  · intro x hx
    obtain ⟨hle, hall, hattained⟩ := lastStarted_spec x.steps
    exact ⟨lastStarted x.steps, hle, runByte_of_run hx (by have := hsteps x hx; omega), hall, hattained⟩
  · exact byte_toNat (by omega)
  · intro hnil
    have hnone : newestException s.seg = (255, 255) := by rw [newestException, hnil]; rfl
    exact ⟨congrArg Prod.fst hnone, congrArg Prod.snd hnone⟩
  · intro x hx
    have hnew : newestException s.seg = ((x.door.map (fun d => byte d.val)).getD 255, byte x.kind.code) := by
      rw [newestException, hx]
    have hb4 : (segmentReport s).b4 = (x.door.map (fun d => byte d.val)).getD 255 := congrArg Prod.fst hnew
    have hb5 : (segmentReport s).b5 = byte x.kind.code := congrArg Prod.snd hnew
    rw [hb4, hb5]
    constructor
    · cases x.door with
      | none => rfl
      | some d => exact byte_toNat (d.isLt.trans (by decide))
    · exact byte_toNat (by cases x.kind <;> decide)
  · exact byte_toNat (by omega)

end Sys2Proof.Machine
end

section
/-! The group map sorted and placed (R48, R49, R175), WRITE to GROUPMAP, and what settling leaves of the segment. -/

namespace Sys2Proof.Machine

/-! ## Sorting by site group -/

theorem insertSite_perm (x : GroupMapEntry) (ys : List GroupMapEntry) : (insertSite x ys).Perm (x :: ys) := by
  induction ys with
  | nil => exact .refl _
  | cons y ys ih =>
    unfold insertSite
    split
    · exact .refl _
    · exact (ih.cons y).trans (.swap x y ys)

theorem sortSites_perm (xs : List GroupMapEntry) : (sortSites xs).Perm xs := by
  induction xs with
  | nil => exact .refl _
  | cons x xs ih => exact (insertSite_perm x _).trans (ih.cons x)

theorem insertSite_sorted {x : GroupMapEntry} {ys : List GroupMapEntry} (h : ys.Pairwise (fun a b => a.site ≤ b.site)) :
    (insertSite x ys).Pairwise (fun a b => a.site ≤ b.site) := by
  induction ys with
  | nil => exact List.pairwise_singleton _ _
  | cons y ys ih =>
    obtain ⟨hy, hys⟩ := List.pairwise_cons.mp h
    unfold insertSite
    split
    · next hxy =>
      refine List.pairwise_cons.mpr ⟨fun z hz => ?_, h⟩
      rcases List.mem_cons.mp hz with rfl | hz
      · exact hxy
      · exact hxy.trans (hy z hz)
    · next hxy =>
      refine List.pairwise_cons.mpr ⟨fun z hz => ?_, ih hys⟩
      rcases List.mem_cons.mp ((insertSite_perm x ys).subset hz) with rfl | hz
      · omega
      · exact hy z hz

theorem sortSites_sorted (xs : List GroupMapEntry) : (sortSites xs).Pairwise (fun a b => a.site ≤ b.site) := by
  induction xs with
  | nil => exact .nil
  | cons x xs ih => exact insertSite_sorted ih

/-! ## Used entries -/

theorem Working.used_clear {α : Type} (x : Option α) : (⟨x, false⟩ : Working (Option α)).used = x := rfl

theorem Working.used_defective {α : Type} {w : Working (Option α)} (h : w.defective = true) : w.used = none := if_pos h

theorem Working.used_sound {α : Type} {w : Working (Option α)} (h : w.defective = false) : w.used = w.value :=
  if_neg (by simp [h])

theorem usedEntries_length_le {α : Type} {n : Nat} (v : Vector (Working (Option α)) n) : (usedEntries v).length ≤ n :=
  (List.length_filterMap_le _ _).trans (by simp)

/-- The used entries of a vector given index by index. -/
theorem usedEntries_vgen {α : Type} {n : Nat} {f : Fin n → Working (Option α)} {F : Nat → Option α}
    (h : ∀ i : Fin n, (f i).used = F i.val) : usedEntries (vgen n f) = (List.range n).filterMap F := by
  have hlist : (vgen n f).toList = (List.finRange n).map f := rfl
  rw [usedEntries, hlist, List.filterMap_map, ← List.map_coe_finRange_eq_range, List.filterMap_map]
  exact List.filterMap_congr fun i _ => h i

theorem mem_usedEntries {α : Type} {n : Nat} {v : Vector (Working (Option α)) n} {y : α} :
    y ∈ usedEntries v ↔ ∃ i : Fin n, v[i].used = some y := by
  rw [usedEntries, List.mem_filterMap]
  constructor
  · rintro ⟨w, hw, hy⟩
    obtain ⟨i, hi, rfl⟩ := List.mem_iff_getElem.mp hw
    exact ⟨⟨i, by simpa using hi⟩, by simpa using hy⟩
  · rintro ⟨i, hy⟩
    exact ⟨v[i], by simp, hy⟩

theorem filterMap_getElem?_range {α : Type} {n : Nat} {xs : List α} (h : xs.length ≤ n) :
    (List.range n).filterMap (fun i => xs[i]?) = xs := by
  induction xs generalizing n with
  | nil => simp
  | cons x xs ih =>
    obtain ⟨m, rfl⟩ : ∃ m, n = m + 1 := ⟨n - 1, by simp at h; omega⟩
    rw [List.range_succ_eq_map, List.filterMap_cons_some (by rfl), List.filterMap_map]
    exact congrArg _ (ih (Nat.le_of_succ_le_succ h))

theorem sortGroupMap_get (v : GroupMap) (j : Fin 32) :
    (sortGroupMap v)[j] = ⟨(sortSites (usedEntries v))[j.val]?, false⟩ := vgen_get _ _ j

theorem usedEntries_sortGroupMap (v : GroupMap) : usedEntries (sortGroupMap v) = sortSites (usedEntries v) := by
  have hlen : (sortSites (usedEntries v)).length ≤ 32 := (sortSites_perm _).length_eq.trans_le (usedEntries_length_le v)
  exact (usedEntries_vgen fun _ => rfl).trans (filterMap_getElem?_range hlen)

/-- What sorting makes of a group map (R49). -/
theorem sortGroupMap_spec (v : GroupMap) : (∀ j : Fin 32, (sortGroupMap v)[j].defective = false)
    ∧ (usedEntries (sortGroupMap v)).Perm (usedEntries v)
    ∧ (usedEntries (sortGroupMap v)).Pairwise (fun a b => a.site ≤ b.site)
    ∧ (∀ j : Fin 32, (sortGroupMap v)[j].value.isSome = true ↔ j.val < (usedEntries (sortGroupMap v)).length) := by
  rw [usedEntries_sortGroupMap]
  refine ⟨fun j => by rw [sortGroupMap_get], sortSites_perm _, sortSites_sorted _, fun j => ?_⟩
  rw [sortGroupMap_get]
  simp

/-! ## Placing among marked entries -/

/-- The unmarked positions before position i. -/
def unmarkedBefore (ws : List (Working (Option GroupMapEntry))) (i : Nat) : Nat :=
  ((ws.take i).filter (fun w => !w.defective)).length

theorem unmarkedBefore_mono (ws : List (Working (Option GroupMapEntry))) {i j : Nat} (h : i ≤ j) :
    unmarkedBefore ws i ≤ unmarkedBefore ws j :=
  ((List.take_sublist_take_left h).filter _).length_le

theorem unmarkedBefore_cons (w : Working (Option GroupMapEntry)) (ws : List (Working (Option GroupMapEntry))) (i : Nat) :
    unmarkedBefore (w :: ws) (i + 1) = (if w.defective then 0 else 1) + unmarkedBefore ws i := by
  cases hw : w.defective <;> simp [unmarkedBefore, hw, Nat.add_comm]

/-- What stands on the unmarked positions, taken together, is what was placed there. -/
theorem filterMap_unmarked {ws : List (Working (Option GroupMapEntry))} {xs : List GroupMapEntry} (k : Nat) :
    (List.range ws.length).filterMap (fun i =>
      if ws[i]?.any (fun w => w.defective) then none else xs[k + unmarkedBefore ws i]?)
      = (xs.drop k).take (unmarkedBefore ws ws.length) := by
  induction ws generalizing k with
  | nil => simp [unmarkedBefore]
  | cons w ws ih =>
    have hzero : unmarkedBefore (w :: ws) 0 = 0 := rfl
    rw [List.length_cons, List.range_succ_eq_map, List.filterMap_cons, List.filterMap_map, unmarkedBefore_cons]
    simp only [Function.comp_def, Nat.succ_eq_add_one, List.getElem?_cons_succ, List.getElem?_cons_zero, unmarkedBefore_cons,
      Option.any_some, hzero, Nat.add_zero]
    by_cases hw : w.defective = true
    · simpa only [hw, if_true, Nat.zero_add] using ih k
    · have htail := ih (k + 1)
      simp only [Nat.add_assoc] at htail
      simp only [hw, Bool.false_eq_true, if_false, htail]
      cases hk : xs[k]? with
      | none =>
        have hle := List.getElem?_eq_none_iff.mp hk
        simp [List.drop_eq_nil_of_le hle, List.drop_eq_nil_of_le (hle.trans (Nat.le_succ k))]
      | some x =>
        obtain ⟨hlt, rfl⟩ := List.getElem?_eq_some_iff.mp hk
        rw [List.drop_eq_getElem_cons hlt, Nat.add_comm 1, List.take_succ_cons]

theorem placeGroupMap_get (v : GroupMap) (j : Fin 32) : (placeGroupMap v)[j] =
    if v[j].defective then v[j] else ⟨(sortSites (usedEntries v))[unmarkedBefore v.toList j.val]?, false⟩ := vgen_get _ _ j

theorem placeGroupMap_defective (v : GroupMap) (j : Fin 32) : (placeGroupMap v)[j].defective = v[j].defective := by
  rw [placeGroupMap_get]
  split
  · rfl
  · next h => simpa using h

theorem usedEntries_le_unmarked (v : GroupMap) : (usedEntries v).length ≤ unmarkedBefore v.toList 32 := by
  have hall : v.toList.take 32 = v.toList := List.take_of_length_le (by simp)
  rw [usedEntries, unmarkedBefore, hall]
  generalize v.toList = ws
  induction ws with
  | nil => simp
  | cons w ws ih =>
    cases hw : w.defective with
    | true => simpa [hw, Working.used_defective hw] using ih
    | false =>
      simp only [List.filterMap_cons, List.filter_cons, hw, Bool.not_false, if_true, List.length_cons]
      split
      · exact ih.trans (Nat.le_succ _)
      · exact Nat.succ_le_succ ih

theorem usedEntries_placeGroupMap (v : GroupMap) : usedEntries (placeGroupMap v) = sortSites (usedEntries v) := by
  have hused : ∀ i : Fin 32, (placeGroupMap v)[i].used =
      if v.toList[i.val]?.any (fun w => w.defective) then none
      else (sortSites (usedEntries v))[0 + unmarkedBefore v.toList i.val]? := by
    intro i
    have hi : v.toList[i.val]? = some v[i] := by simp
    rw [placeGroupMap_get, hi, Option.any_some, Nat.zero_add]
    split
    · next h => exact Working.used_defective h
    · rfl
  have hlen : v.toList.length = 32 := by simp
  have hplaced := filterMap_unmarked (ws := v.toList) (xs := sortSites (usedEntries v)) 0
  rw [hlen, List.drop_zero, List.take_of_length_le ((sortSites_perm _).length_eq.trans_le (usedEntries_le_unmarked v))] at hplaced
  refine Eq.trans (usedEntries_vgen fun i => ?_) hplaced
  exact (congrArg Working.used (vgen_get _ _ i).symm).trans (hused i)

/-- No used entry stands behind an unmarked unused one (R48). -/
theorem placeGroupMap_front {v : GroupMap} {j k : Fin 32} (hjk : j < k) (hj : (placeGroupMap v)[j].defective = false)
    (hk : (placeGroupMap v)[k].used.isSome = true) : (placeGroupMap v)[j].used.isSome = true := by
  have hkd : v[k].defective = false := by
    by_contra h
    rw [placeGroupMap_get, if_pos (by simpa using h), Working.used_defective (by simpa using h)] at hk
    cases hk
  rw [placeGroupMap_defective] at hj
  rw [placeGroupMap_get, hkd] at hk
  rw [placeGroupMap_get, hj]
  have isSome : ∀ n, (sortSites (usedEntries v))[n]?.isSome = true ↔ n < (sortSites (usedEntries v)).length := fun n => by simp
  simp only [Bool.false_eq_true, if_false, Working.used_clear, isSome] at hk ⊢
  exact (unmarkedBefore_mono v.toList hjk.le).trans_lt hk

end Sys2Proof.Machine
end

section
/-! WRITE to GROUPMAP (R49). -/

namespace Sys2Proof.Machine

variable {s : State} {v field : Nat}

theorem siteTaken_iff {m : GroupMap} {i : Fin 32} :
    siteTaken m i.val v = true ↔ ∃ j : Fin 32, j ≠ i ∧ ∃ y, m[j].used = some y ∧ y.site = v := by
  rw [siteTaken, any_zipIdx_iff]
  simp [Option.any_eq_true, Fin.ext_iff]

/-- A site group that a used entry holds stands at its index. -/
theorem siteIndex_spec {m : GroupMap} (h : ∃ y ∈ usedEntries m, y.site = v) :
    ∃ k : Fin 32, siteIndex m v = k.val ∧ ∃ y, m[k].used = some y ∧ y.site = v := by
  obtain ⟨y, hy, hsite⟩ := h
  obtain ⟨i, hi⟩ := mem_usedEntries.mp hy
  have hex : ∃ x ∈ m.toList, (x.used.any fun y => y.site == v) = true := ⟨m[i], by simp, by rw [hi]; simp [hsite]⟩
  have hlt := List.findIdx_lt_length_of_exists hex
  have hat := List.findIdx_getElem (w := hlt)
  have hlen : siteIndex m v < 32 := hlt.trans_eq (by simp)
  refine ⟨⟨siteIndex m v, hlen⟩, rfl, ?_⟩
  simp only [Option.any_eq_true, beq_iff_eq, Vector.getElem_toList] at hat
  exact hat

theorem used_set_same (m : GroupMap) (i : Fin 32) (g : Option GroupMapEntry) : (m.set i ⟨g, false⟩)[i].used = g := by
  simp [Working.used]

/-- An unused entry made unused stays out of the used ones. -/
theorem usedEntries_set_unused {m : GroupMap} {i : Fin 32} (h : m[i].used = none) :
    usedEntries (m.set i ⟨none, false⟩) = usedEntries m := by
  have hset : (m.set i ⟨none, false⟩).toList = m.toList.set i.val ⟨none, false⟩ := Vector.toList_set ..
  have hi : i.val < m.toList.length := by simp
  have hget : m.toList[i.val].used = none := by simpa using h
  have hunused : (⟨none, false⟩ : Working (Option GroupMapEntry)).used = none := rfl
  have hsplit : m.toList = m.toList.take i.val ++ m.toList[i.val] :: m.toList.drop (i.val + 1) := by
    rw [← List.drop_eq_getElem_cons hi, List.take_append_drop]
  rw [usedEntries, usedEntries, hset, List.set_eq_take_append_cons_drop, if_pos hi]
  conv_rhs => rw [hsplit]
  simp only [List.filterMap_append, List.filterMap_cons, hget, hunused]

section
variable {i : Fin 32}

theorem serveWriteGroupmap_ok {w : Written GroupMap}
    (h : writeGroupmapField s.work.groupmap i.val s.work.groupmap[i] field v = .ok w) :
    serveWriteGroupmap i.val field v s =
      ⟨w.result, toValue w.value, { s with work := { s.work with groupmap := w.entry } }⟩ := by
  rw [serveWriteGroupmap, getElem?_fin]
  simp only [h]

theorem serveWriteGroupmap_error {r : Result}
    (h : writeGroupmapField s.work.groupmap i.val s.work.groupmap[i] field v = .error r) :
    serveWriteGroupmap i.val field v s = refuseWith r s := by
  rw [serveWriteGroupmap, getElem?_fin]
  simp only [h]

end

/-! The lines of R49's table. -/

section
variable {m : GroupMap} {i : Fin 32} {x : Working (Option GroupMapEntry)}

theorem writeGroupmapField_site (h : v ≤ 254) (ht : siteTaken m i.val v = false) : writeGroupmapField m i.val x 0 v =
    (let w := sortGroupMap (m.set i ⟨some ⟨v, (x.used.map (fun y => y.localGroup)).getD 0⟩, false⟩)
     .ok ⟨w, .done, siteIndex w v⟩) := by
  have h1 : ¬255 < v := by omega
  have h2 : ¬v = 255 := by omega
  simp [writeGroupmapField, h1, h2, ht, setIfInBounds_fin]

theorem writeGroupmapField_taken (h : v ≤ 254) (ht : siteTaken m i.val v = true) :
    writeGroupmapField m i.val x 0 v = .error .badValue := by
  have h1 : ¬255 < v := by omega
  have h2 : ¬v = 255 := by omega
  simp [writeGroupmapField, h1, h2, ht]

theorem writeGroupmapField_clear (h : x.used.isSome = true) : writeGroupmapField m i.val x 0 255 =
    .ok ⟨sortGroupMap (m.set i ⟨none, false⟩), .done, (usedEntries (sortGroupMap (m.set i ⟨none, false⟩))).length⟩ := by
  simp [writeGroupmapField, h, setIfInBounds_fin]

theorem writeGroupmapField_unused (h : x.used = none) : writeGroupmapField m i.val x 0 255 =
    .ok ⟨placeGroupMap (m.set i ⟨none, false⟩), .done, (usedEntries m).length⟩ := by
  simp [writeGroupmapField, h, setIfInBounds_fin]

theorem writeGroupmapField_unnamed (h : 16 ≤ v) : writeGroupmapField m i.val x 1 v = .error .badValue := by
  simp only [writeGroupmapField, finOfCode_ge (Nat.not_lt.mpr h)]

theorem writeGroupmapField_group_unused (hv : v < 16) (h : x.used = none) :
    writeGroupmapField m i.val x 1 v = .error .badIndex := by
  simp only [writeGroupmapField, finOfCode_lt hv, h]

theorem writeGroupmapField_group {g : Fin 16} {y : GroupMapEntry} (h : x.used = some y) :
    writeGroupmapField m i.val x 1 g.val = .ok ⟨m.set i ⟨some { y with localGroup := g }, false⟩, .done, i.val⟩ := by
  simp only [writeGroupmapField, finOfCode_lt g.isLt, h, setIfInBounds_fin, Fin.eta]

end

/-- Settles O24: each line of R49's table gives its map, which is sorted or placed. -/
theorem writeGroupmap : Obligations.WriteGroupmap := by
  intro h index field value s ha hu q v c refuses stores sorted
  have hserve : serve q s = serveWrite TableName.groupmap.ix.val index.toNat field.toNat value s := rfl
  refine ⟨fun hi => exec_refused rfl ha (hserve.trans (serveWrite_badIndex hi)), ?_⟩
  intro i hi x taken put
  rw [← hi] at hserve
  have hown : field.toNat < 2 → serve q s = serveWriteGroupmap i.val field.toNat v s := fun hf =>
    hserve.trans ((serveWrite_stored i.isLt hf rfl).trans (if_neg (not_underStore hu)))
  have store : ∀ {m n}, field.toNat < 2 → writeGroupmapField s.work.groupmap i.val x field.toNat v = .ok ⟨m, .done, n⟩ →
      stores m n := fun hf hw => exec_served rfl ha ((hown hf).trans (serveWriteGroupmap_ok hw))
  have refuse : ∀ {r}, field.toNat < 2 → writeGroupmapField s.work.groupmap i.val x field.toNat v = .error r → refuses r :=
    fun hf hw => exec_refused rfl ha ((hown hf).trans (serveWriteGroupmap_error hw))
  refine ⟨?_, ?_, ?_, ?_, ?_, ?_, ?_, ?_⟩
  · rintro rfl hv
    exact refuse (by decide) (if_pos hv)
  · rintro rfl hv htaken
    exact refuse (by decide) (writeGroupmapField_taken hv (siteTaken_iff.mpr htaken))
  · rintro rfl hv htaken
    have hfree : siteTaken s.work.groupmap i.val v = false := by
      rw [Bool.eq_false_iff]
      exact mt siteTaken_iff.mp htaken
    have hw := writeGroupmapField_site (x := x) hv hfree
    obtain ⟨hdefective, hperm, hpairwise, hfront⟩ := sortGroupMap_spec
      (put (some ⟨v, (x.used.map (fun y => y.localGroup)).getD 0⟩))
    have hmem := hperm.symm.subset (mem_usedEntries.mpr ⟨i, used_set_same s.work.groupmap i _⟩)
    obtain ⟨k, hk, y, hy, hsite⟩ := siteIndex_spec ⟨_, hmem, rfl⟩
    refine ⟨_, k, store (by decide) (hw.trans ?_), ⟨hdefective, hperm, hpairwise, hfront⟩, y, ?_, hsite⟩
    · exact congrArg _ (congrArg (Written.mk _ _) hk)
    · rw [← hy, Working.used_sound (hdefective k)]
  · rintro rfl hv hused
    exact ⟨_, store (by decide) (hv ▸ writeGroupmapField_clear hused), sortGroupMap_spec _⟩
  · rintro rfl hv hunused
    have hsame := usedEntries_set_unused hunused
    refine ⟨_, store (by decide) (hv ▸ writeGroupmapField_unused hunused), ?_, ?_, fun j => ?_, fun j k => placeGroupMap_front⟩
    · rw [usedEntries_placeGroupMap, hsame]
      exact sortSites_perm _
    · rw [usedEntries_placeGroupMap]
      exact sortSites_sorted _
    · rw [placeGroupMap_defective]
      by_cases hj : j = i
      · subst hj
        simp
      · have hne : i.val ≠ j.val := fun h => hj (Fin.ext h.symm)
        simp [hj, hne]
  · rintro rfl hv
    exact refuse (by decide) (writeGroupmapField_unnamed hv)
  · rintro rfl hv hunused
    exact refuse (by decide) (writeGroupmapField_group_unused hv hunused)
  · rintro rfl g y hg hy
    exact store (by decide) (hg ▸ writeGroupmapField_group hy)

end Sys2Proof.Machine
end

section
/-! What no door or run changes of the segment (`KeepsSides`), and STORE (R48, R177). -/

namespace Sys2Proof.Machine

/-! ## Sides -/

theorem KeepsSides.refl (g : Segment) : KeepsSides g g := ⟨rfl, rfl, rfl, rfl, rfl⟩

theorem KeepsSides.trans {g h k : Segment} (a : KeepsSides g h) (b : KeepsSides h k) : KeepsSides g k :=
  ⟨b.exemptions.trans a.exemptions, b.fire.trans a.fire, b.branches.trans a.branches, b.window.trans a.window,
    b.flash.trans a.flash⟩

theorem Kept.sides {g h : Segment} (k : Kept g h) : KeepsSides g h :=
  ⟨k.exemptions, k.fire, k.branches, k.window, k.flash⟩

theorem startRequest_sides (e : Env) (p : Fin 8) (g : Segment) : KeepsSides g (startRequest e p g).2 := by
  unfold startRequest
  split
  · unfold dropRequest
    dsimp only
    split <;> exact ⟨rfl, rfl, rfl, rfl, rfl⟩
  · split <;> exact ⟨rfl, rfl, rfl, rfl, rfl⟩

theorem completeRun_sides (e : Env) (r : Run) (g : Segment) : KeepsSides g (completeRun e r g) := by
  unfold completeRun
  dsimp only
  split <;> exact ⟨rfl, rfl, rfl, rfl, rfl⟩

theorem beginStep_sides (e : Env) (k : Nat) (g : Segment) : KeepsSides g (beginStep e k g) := by
  unfold beginStep
  split
  · exact .refl g
  · next r hr =>
    dsimp only
    have classified : ∀ ds h, KeepsSides h (forDoors ds (classify e r.program k) h) := fun ds h =>
      ((Kept.refl h).forDoors fun _ _ h => h.classify).sides
    exact KeepsSides.trans (h := { g with seqr := { g.seqr with run := some _ } }) ⟨rfl, rfl, rfl, rfl, rfl⟩
      ((classified _ _).trans ⟨rfl, rfl, rfl, rfl, rfl⟩)

theorem runDue_sides (e : Env) (n : Nat) (g : Segment) : KeepsSides g (runDue e n g) := by
  induction n generalizing g with
  | zero => exact .refl g
  | succ n ih =>
    unfold runDue
    split
    · exact .refl g
    · split
      · exact (beginStep_sides e _ g).trans (ih _)
      · split
        · exact (completeRun_sides e _ g).trans (ih _)
        · exact .refl g

/-- What becomes due changes doors and runs alone (R141, R146). -/
theorem settle_sides (e : Env) (g : Segment) : KeepsSides g (settle e g) := runDue_sides e 64 g

theorem forDoors_eq_foldl (ds : List DoorNo) (f : DoorNo → Segment → Segment) (g : Segment) :
    forDoors ds f g = ds.foldl (fun g d => f d g) g := rfl

/-! ## STORE and STORE_ENTRY_COMPLETE -/

theorem tableName_ofCode {tb : TableName} {n : Nat} (h : tb.ix.val = n) : TableName.ofCode n = some tb :=
  h ▸ tb.ofCode_ix

theorem tableName_ofCode_ge {n : Nat} (h : 7 ≤ n) : TableName.ofCode n = none := List.getElem?_eq_none h

theorem storeEntryDone_idle {s : State} (h : s.store.writing = none) : storeEntryDone s = s := by
  rw [storeEntryDone, h]

theorem storeEntryDone_next {s : State} {tb : TableName} {i : Nat} (h : s.store.writing = some (tb, i))
    (hi : i + 1 < tb.count) : storeEntryDone s =
      { s with stored := s.stored.writeEntry s.work tb i, store := ⟨some (tb, i + 1), 0⟩ } := by
  rw [storeEntryDone, h]
  exact if_pos hi

theorem storeEntryDone_last {s : State} {tb : TableName} {i : Nat} (h : s.store.writing = some (tb, i))
    (hi : tb.count ≤ i + 1) : storeEntryDone s = settled (changeTables (s.work.clean tb) (storedEffect tb)
      { s with stored := s.stored.writeEntry s.work tb i, store := .idle }) := by
  rw [storeEntryDone, h]
  exact if_neg (Nat.not_lt.mpr hi)

theorem countMarks_eq_zero {α : Type} {n : Nat} {v : Vector (Working α) n} (h : ∀ i : Fin n, v[i].defective = false) :
    countMarks v = 0 := by
  rw [countMarks, List.length_eq_zero_iff, List.filter_eq_nil_iff]
  intro w hw
  obtain ⟨i, hi, rfl⟩ := List.mem_iff_getElem.mp hw
  have := h ⟨i, by simpa using hi⟩
  simpa using this

theorem countMarks_clearMarks {α : Type} {n : Nat} (v : Vector (Working α) n) : countMarks (clearMarks v) = 0 :=
  countMarks_eq_zero fun i => by rw [clearMarks, vmap_get]

/-- A stored table has no mark left (R177). -/
theorem defects_clean (w : Tables) (tb : TableName) : (w.clean tb).defects tb = 0 := by
  cases tb
  case segment => rfl
  case groupmap => exact countMarks_eq_zero (sortGroupMap_spec w.groupmap).1
  all_goals exact countMarks_clearMarks _

theorem corrected_clean (w : Tables) (tb : TableName) : (w.clean tb).corrected[tb.ix] = false := by
  cases tb <;> exact Vector.getElem_set_self _

/-- What the end of a STORE does in the segment changes doors alone (R176). -/
theorem storedEffect_sides (tb : TableName) (old e : Env) (g : Segment) : KeepsSides g (storedEffect tb old e g) := by
  cases tb
  case door => exact ((Kept.refl g).forDoors fun _ _ h => h.doorChanged).sides
  case profile => exact ((Kept.refl g).forDoors fun _ _ h => h.profileChanged).sides
  all_goals exact .refl g

/-- Settles O33: the request by its tests, the entry by its table, the end by the marks; the sorted map by `sortGroupMap_spec`. -/
theorem storeWritesEntries : Obligations.StoreWritesEntries := by
  refine ⟨?_, ?_, ?_, fun _ => rfl, ?_⟩
  · intro h table s ha q
    have hserve : serve q s = serveStore table.toNat s := rfl
    refine ⟨fun ht => exec_refused rfl ha (hserve.trans ?_), fun tb htb => ⟨fun hw => exec_refused rfl ha (hserve.trans ?_),
      fun hw => exec_served rfl ha (hserve.trans ?_)⟩⟩
    · rw [serveStore, tableName_ofCode_ge ht]
    · rw [serveStore, tableName_ofCode htb]
      exact if_pos hw
    · rw [serveStore, tableName_ofCode htb]
      exact if_neg (by simp [hw])
  · intro s hp
    have hexec : exec .storeEntryComplete s = .next (storeEntryDone s) := congrArg _ (whenRunning_eq _ s hp)
    rw [hexec]
    refine ⟨fun hw => by rw [storeEntryDone_idle hw], fun tb i hw => ⟨fun hi => by rw [storeEntryDone_next hw hi], fun hi => ?_⟩⟩
    refine ⟨_, rfl, ?_⟩
    rw [storeEntryDone_last hw hi]
    refine ⟨rfl, rfl, rfl, defects_clean _ tb, corrected_clean _ tb, ?_, rfl, rfl, rfl, ?_⟩
    · cases tb <;> rfl
    · exact (storedEffect_sides tb _ _ _).trans (settle_sides _ _)
  · intro st w
    refine ⟨rfl, fun i => ?_, fun i => ?_, fun i => ?_, fun i => ?_, fun i => ?_, fun i => ?_⟩ <;>
      simp only [StoredTables.writeEntry, getElem?_fin, setIfInBounds_fin]
  · intro v
    obtain ⟨hdefective, hperm, hpairwise, hfront⟩ := sortGroupMap_spec v
    exact ⟨hperm, hpairwise, fun j => ⟨hdefective j, by rw [hfront, hperm.length_eq]⟩⟩

end Sys2Proof.Machine
end

section
/-! Command slots: the scope, the acknowledgment, group targets, exemptions and start requests (R11, R29, R138, R156 to R161). -/

namespace Sys2Proof.Machine

variable {s : State} {x : CommandSlot} {sc : Scope}

/-! ## The slot (R11) -/

theorem commandCode_ofCode_code (c : CommandCode) : CommandCode.ofCode c.code = some c := by cases c <;> rfl

theorem commandOf_acknowledge (a : Nat) (r : TrunkRecord) :
    commandOf (acknowledge a r) = { commandOf r with mask := (commandOf r).mask ||| 1#24 <<< (a - 1) } := by
  rw [← mask_acknowledge]
  rfl

theorem commandArrives_awaited (ha : Awaits .command s) (c : CommandCode) :
    commandArrives c x s = commandSlot (commandRecord c.code x) c x s := by
  simp only [commandArrives, ha.routesTo_command, if_true]

theorem recordArrives_commandRecord (ha : Awaits .command s) (c : CommandCode) :
    recordArrives (commandRecord c.code x) s = commandSlot (commandRecord c.code x) c x s := by
  obtain ⟨n, h1, h64, hp, hrole⟩ := ha.slot
  have h0 : n ≠ 0 := by omega
  have hroute : s.route n true = .command := by
    simp [State.route, ha.frame.running, ha.frame.header, ha.frame.address, h0, ha.listen, hrole]
  have hpasses : trunkPasses (commandRecord c.code x) = true := trunkPasses_trunkSeal _
  have hb0 : (commandRecord c.code x).b0 = c.code := rfl
  rw [recordArrives_slot ha.frame.inserted hp h64, slotArrives, hpasses, hroute]
  simp only [hb0, commandCode_ofCode_code, commandOf_commandRecord]

/-- A command whose site group the segment does not know goes on unchanged (R11). -/
theorem commandSlot_unknown {r : TrunkRecord} {c : CommandCode} (h : scopeOf s.work x.siteGroup.toNat = none) :
    commandSlot r c x s = passing r s := by
  rw [commandSlot, h]
  rfl

theorem exec_commanded {c : Instr} {code : CommandCode} (hc : c.asCommand = some (code, x)) (h : Commanded x sc s) :
    exec c s = .next (if (decodeCommand code sc x.argument s.env s.seg).1 = true then
        passing (acknowledge s.addressNo (commandRecord code.code x))
          (settled { s with seg := (decodeCommand code sc x.argument s.env s.seg).2 })
      else passing (commandRecord code.code x) { s with seg := (decodeCommand code sc x.argument s.env s.seg).2 }) := by
  rw [exec_of_asCommand hc, commandArrives_commanded h]
  rfl

theorem exec_taken {c : Instr} {code : CommandCode} {g : Segment} (hc : c.asCommand = some (code, x)) (h : Commanded x sc s)
    (hd : decodeCommand code sc x.argument s.env s.seg = (true, g)) :
    exec c s = .next (passing (acknowledge s.addressNo (commandRecord code.code x)) (settled { s with seg := g })) := by
  rw [exec_commanded hc h, hd]
  rfl

theorem exec_untaken {c : Instr} {code : CommandCode} {g : Segment} (hc : c.asCommand = some (code, x)) (h : Commanded x sc s)
    (hd : decodeCommand code sc x.argument s.env s.seg = (false, g)) :
    exec c s = .next (passing (commandRecord code.code x) { s with seg := g }) := by
  rw [exec_commanded hc h, hd]
  rfl

/-! ## The scope (R11, R48) -/

theorem scopeOf_all (w : Tables) : scopeOf w 255 = some .segment := rfl

theorem scopeOf_eq_none {w : Tables} {n : Nat} (hn : n ≠ 255) (h : ∀ y ∈ usedEntries w.groupmap, y.site ≠ n) :
    scopeOf w n = none := by
  rw [scopeOf, if_neg hn, List.findSome?_eq_none_iff]
  exact fun y hy => if_neg (h y hy)

theorem scopeOf_eq_some {w : Tables} {n : Nat} {y : GroupMapEntry} (hn : n ≠ 255) (hy : y ∈ usedEntries w.groupmap)
    (hsite : y.site = n) (honly : ∀ z ∈ usedEntries w.groupmap, z.site = n → z = y) :
    scopeOf w n = some (.localGroup y.localGroup) := by
  rw [scopeOf, if_neg hn]
  cases hf : (usedEntries w.groupmap).findSome? (fun x => if x.site = n then some (Scope.localGroup x.localGroup) else none) with
  | none => exact absurd (List.findSome?_eq_none_iff.mp hf y hy) (by simp [hsite])
  | some r =>
    obtain ⟨z, hz, hr⟩ := List.exists_of_findSome?_eq_some hf
    split at hr
    · next hzn => rw [← hr, honly z hz hzn]
    · cases hr

theorem used_eq_some_iff {α : Type} {w : Working (Option α)} {y : α} :
    w.used = some y ↔ w.defective = false ∧ w.value = some y := by
  cases hd : w.defective with
  | true => simp [Working.used_defective hd]
  | false => simp [Working.used_sound hd]

/-- Settles O35: the slot routed to the controller by its row as by its bytes, and the map read by its used entries. -/
theorem commandSlotAnswer : Obligations.CommandSlotAnswer := by
  refine ⟨?_, ?_, ?_, ?_, ?_⟩
  · intro c code x s hc ha h255 hnone
    have hn : x.siteGroup.toNat ≠ 255 := fun h => h255 (BitVec.eq_of_toNat_eq h)
    rw [exec_of_asCommand hc, commandArrives_awaited ha, commandSlot_unknown (scopeOf_eq_none hn hnone)]
  · intro c code x s hc ha
    rw [exec_of_asCommand hc, commandArrives_awaited ha]
    exact congrArg _ (recordArrives_commandRecord ha code)
  · intro code x a _ _
    refine ⟨rfl, trunkPasses_trunkSeal _, ?_⟩
    rw [commandOf_acknowledge, commandOf_commandRecord]
  · intro w n
    refine ⟨fun h => h ▸ scopeOf_all w, fun hn i y hd hv hsite honly => ?_, fun hn hnone => scopeOf_eq_none hn fun y hy => ?_⟩
    · have hy := mem_usedEntries.mpr ⟨i, used_eq_some_iff.mpr ⟨hd, hv⟩⟩
      refine scopeOf_eq_some hn hy hsite fun z hz hzn => ?_
      obtain ⟨j, hj⟩ := mem_usedEntries.mp hz
      obtain ⟨hjd, hjv⟩ := used_eq_some_iff.mp hj
      obtain rfl := honly j z hjd hjv hzn
      exact Option.some.inj (hjv.symm.trans hv)
    · obtain ⟨i, hi⟩ := mem_usedEntries.mp hy
      obtain ⟨hd, hv⟩ := used_eq_some_iff.mp hi
      exact hnone i y hd hv
  · exact fun c code x s sc hc h => exec_commanded hc h

/-! ## Exemptions and the expected posture (R29, R159) -/

theorem any_exemption_iff {xs : List Exemption} {keep : Posture} {y : DoorEntry} :
    xs.any (fun m => m.keep == keep && y.inGroup m.group) = true ↔
      ∃ m ∈ xs, m.keep = keep ∧ y.groups.getLsbD m.group.val = true := by
  simp [DoorEntry.inGroup]

/-- A plan entry that counts for a door at a minute limit (R29). -/
def Env.countingEntry (e : Env) (t limit : Nat) (x : DoorEntry) (i : Nat) : Option DayPlanEntry :=
  (e.planEntry t i).filter (fun y => y.minute ≤ limit && e.relevant y.program x)

/-- The later of two plan entries, in plan order (R29). -/
def laterEntry (best next : Option DayPlanEntry) : Option DayPlanEntry :=
  match next, best with
  | none, best => best
  | some y, none => some y
  | some y, some z => if z.minute ≤ y.minute then some y else some z

theorem latestEntry_eq (e : Env) (t limit : Nat) (x : DoorEntry) :
    e.latestEntry t limit x = (List.range 6).foldl (fun best i => laterEntry best (e.countingEntry t limit x i)) none := by
  have hstep : ∀ best i, (match e.planEntry t i with
      | none => best
      | some y =>
        if y.minute ≤ limit && e.relevant y.program x then
          match best with
          | none => some y
          | some z => if z.minute ≤ y.minute then some y else some z
        else best) = laterEntry best (e.countingEntry t limit x i) := by
    intro best i
    unfold Env.countingEntry
    cases e.planEntry t i with
    | none => rfl
    | some y =>
      rw [Option.filter_some]
      dsimp only
      split
      · cases best <;> rfl
      · rfl
  exact congrArg (fun f => (List.range 6).foldl f none) (funext fun best => funext fun i => hstep best i)

/-- The last of the latest entries among positions below n. -/
def IsLatest (F : Nat → Option DayPlanEntry) (n : Nat) (y : DayPlanEntry) : Prop :=
  ∃ i, i < n ∧ F i = some y ∧ ∀ j z, j < n → F j = some z → z.minute < y.minute ∨ (z.minute = y.minute ∧ j ≤ i)

theorem foldl_laterEntry (F : Nat → Option DayPlanEntry) (n : Nat) :
    (∀ y, (List.range n).foldl (fun best i => laterEntry best (F i)) none = some y → IsLatest F n y)
    ∧ ((List.range n).foldl (fun best i => laterEntry best (F i)) none = none → ∀ i, i < n → F i = none) := by
  induction n with
  | zero => exact ⟨fun _ h => absurd h (by simp), fun _ i hi => absurd hi (Nat.not_lt_zero i)⟩
  | succ n ih =>
    rw [List.range_succ, List.foldl_append, List.foldl_cons, List.foldl_nil]
    obtain ⟨hsome, hnone⟩ := ih
    cases hF : F n with
    | none =>
      have hsucc : ∀ {i}, i < n + 1 → F i ≠ none → i < n := fun {i} hi hne => by
        rcases Nat.lt_succ_iff_lt_or_eq.mp hi with h | rfl
        · exact h
        · exact absurd hF hne
      refine ⟨fun y hy => ?_, fun hb i hi => by_contra fun h => h (hnone hb i (hsucc hi h))⟩
      obtain ⟨i, hi, hFi, hlater⟩ := hsome y hy
      exact ⟨i, Nat.lt_succ_of_lt hi, hFi, fun j z hj hz => hlater j z (hsucc hj (by simp [hz])) hz⟩
    | some y =>
      cases hb : (List.range n).foldl (fun best i => laterEntry best (F i)) none with
      | none =>
        refine ⟨fun w hw => ?_, fun h => nomatch h⟩
        obtain rfl : y = w := Option.some.inj hw
        refine ⟨n, Nat.lt_succ_self n, hF, fun j z hj hz => ?_⟩
        rcases Nat.lt_succ_iff_lt_or_eq.mp hj with h | rfl
        · exact absurd hz (by simp [hnone hb j h])
        · exact .inr ⟨by rw [Option.some.inj (hF.symm.trans hz)], le_refl _⟩
      | some b =>
        obtain ⟨i, hi, hFi, hlater⟩ := hsome b hb
        have hdef : laterEntry (some b) (some y) = if b.minute ≤ y.minute then some y else some b := rfl
        rw [hdef]
        refine ⟨fun w hw => ?_, fun h => by split at h <;> cases h⟩
        split at hw <;> obtain rfl := Option.some.inj hw
        · next hle =>
          refine ⟨n, Nat.lt_succ_self n, hF, fun j z hj hz => ?_⟩
          rcases Nat.lt_succ_iff_lt_or_eq.mp hj with h | rfl
          · rcases hlater j z h hz with h' | ⟨h', -⟩ <;> omega
          · exact .inr ⟨by rw [Option.some.inj (hF.symm.trans hz)], le_refl _⟩
        · next hle =>
          refine ⟨i, Nat.lt_succ_of_lt hi, hFi, fun j z hj hz => ?_⟩
          rcases Nat.lt_succ_iff_lt_or_eq.mp hj with h | rfl
          · exact hlater j z h hz
          · rw [← Option.some.inj (hF.symm.trans hz)]
            omega

theorem IsLatest.unique {F : Nat → Option DayPlanEntry} {n : Nat} {y z : DayPlanEntry} (hy : IsLatest F n y)
    (hz : IsLatest F n z) : y = z := by
  obtain ⟨i, hi, hFi, hli⟩ := hy
  obtain ⟨j, hj, hFj, hlj⟩ := hz
  have h1 := hli j z hj hFj
  have h2 := hlj i y hi hFi
  obtain rfl : i = j := by omega
  exact Option.some.inj (hFi.symm.trans hFj)

theorem planEntry_of_index (e : Env) (i : Fin 48) : e.planEntry (i.val / 6) (i.val % 6) =
    if e.work.dayplan[i].defective then none else e.work.dayplan[i].value := by
  have hi : 6 * (i.val / 6) + i.val % 6 = i.val := Nat.div_add_mod i.val 6
  rw [Env.planEntry, hi, getElem?_fin]

theorem programDefective_iff {e : Env} {p : Fin 8} :
    e.programDefective p = false ↔ ∀ i : Fin 80, i.val / 10 = p.val → e.work.program[i].defective = false := by
  have hat : ∀ i : Fin 80, (e.programAt i.val).defective = e.work.program[i].defective := fun i => by
    rw [Env.programAt, getElem?_fin]
    rfl
  rw [Env.programDefective, List.any_eq_false]
  constructor
  · intro h i hi
    have hm := h (i.val % 10) (List.mem_range.mpr (Nat.mod_lt _ (by decide)))
    have hix : 10 * p.val + i.val % 10 = i.val := by omega
    rw [hix, hat] at hm
    simpa using hm
  · intro h i hi
    have hlt := List.mem_range.mp hi
    have := h ⟨10 * p.val + i, by omega⟩ (by simp only; omega)
    rw [← hat] at this
    simp [this]

theorem relevant_iff {e : Env} {p : Fin 8} {x : DoorEntry} : e.relevant p x = true ↔
    0 < e.stepCount p ∧ (∀ i : Fin 80, i.val / 10 = p.val → e.work.program[i].defective = false)
      ∧ ∃ k, 1 ≤ k ∧ k ≤ e.stepCount p ∧ x.groups.getLsbD (e.stepEntry p k).localGroup.val = true := by
  rw [← programDefective_iff]
  simp only [Env.relevant, Bool.and_eq_true, decide_eq_true_eq, Bool.not_eq_true', List.any_eq_true, List.mem_range, and_assoc]
  refine and_congr_right fun _ => and_congr_right fun _ => ⟨?_, ?_⟩
  · rintro ⟨i, hi, hg⟩
    exact ⟨i + 1, by omega, by omega, hg⟩
  · rintro ⟨k, h1, hk, hg⟩
    exact ⟨k - 1, by omega, by rwa [Nat.sub_add_cancel h1]⟩

theorem countingEntry_eq_some_iff {e : Env} {t limit : Nat} {x : DoorEntry} {i : Nat} {y : DayPlanEntry} :
    e.countingEntry t limit x i = some y ↔ e.planEntry t i = some y ∧ y.minute ≤ limit ∧ e.relevant y.program x = true := by
  simp [Env.countingEntry, Option.filter_eq_some_iff]

theorem latestEntry_of_isLatest {e : Env} {t limit : Nat} {x : DoorEntry} {y : DayPlanEntry}
    (h : IsLatest (e.countingEntry t limit x) 6 y) : e.latestEntry t limit x = some y := by
  obtain ⟨hsome, hnone⟩ := foldl_laterEntry (e.countingEntry t limit x) 6
  rw [latestEntry_eq]
  cases hb : (List.range 6).foldl (fun best i => laterEntry best (e.countingEntry t limit x i)) none with
  | none =>
    obtain ⟨i, hi, hFi, -⟩ := h
    exact absurd hFi (by simp [hnone hb i hi])
  | some z => rw [(hsome z hb).unique h]

theorem latestEntry_eq_none {e : Env} {t limit : Nat} {x : DoorEntry} (h : ∀ i, i < 6 → e.countingEntry t limit x i = none) :
    e.latestEntry t limit x = none := by
  rw [latestEntry_eq]
  cases hb : (List.range 6).foldl (fun best i => laterEntry best (e.countingEntry t limit x i)) none with
  | none => rfl
  | some z =>
    obtain ⟨i, hi, hFi, -⟩ := (foldl_laterEntry (e.countingEntry t limit x) 6).1 z hb
    exact absurd hFi (by simp [h i hi])

/-! ## Group commands (R156, R157) -/

theorem mem_scopeMembers (e : Env) (sc : Scope) : scopeMembers e sc = allDoors.filter (fun d => e.fitted d && (match sc with
    | .segment => true
    | .localGroup k => (e.doorEntry d).groups.getLsbD k.val)) := by
  cases sc with
  | segment => simp [scopeMembers]
  | localGroup k => rfl

/-- Settles O36: the three commands by the latch and the clock; exemptions by their postures; the plan by its latest counting
entry. -/
theorem groupTargets : Obligations.GroupTargets := by
  refine ⟨?_, ?_, ?_⟩
  · intro x sc s h members untaken taken
    have hmembers : scopeMembers s.env sc = members := mem_scopeMembers s.env sc
    refine ⟨fun hl => ⟨?_, ?_, ?_⟩, fun hl => ⟨?_, ?_, fun hc => ?_, fun hc => ?_⟩⟩
    · exact exec_untaken rfl h (if_pos hl)
    · exact exec_untaken rfl h (if_pos hl)
    · exact exec_untaken rfl h (if_pos (by simp [hl]))
    · exact exec_taken rfl h ((if_neg (by simp [hl])).trans (by rw [hmembers]; rfl))
    · exact exec_taken rfl h ((if_neg (by simp [hl])).trans (by rw [hmembers]; rfl))
    · exact exec_untaken rfl h (if_pos (by simp [Env.known, State.env, hc]))
    · have hknown : s.env.known = true := Option.isSome_iff_ne_none.mpr hc
      refine exec_taken rfl h ((if_neg (by simp [hl, hknown])).trans ?_)
      rw [hmembers]
      rfl
  · intro xs x covers
    simp only [effectiveExemption, any_exemption_iff]
    exact ⟨fun h => if_pos h, fun hs hr => (if_neg hs).trans (if_pos hr), fun hs hr => (if_neg hs).trans (if_neg hr)⟩
  · intro e xs d x expected relevant entry latest given
    have hentry : ∀ {t i m y}, entry t i m y ↔ i < 6 ∧ e.countingEntry t m x i = some y := fun {t i m y} => by
      rw [countingEntry_eq_some_iff, relevant_iff]
    have hlatest : ∀ {t m y}, latest t m y → e.latestEntry t m x = some y := by
      rintro t m y ⟨i, hi, hlater⟩
      obtain ⟨h6, hFi⟩ := hentry.mp hi
      exact latestEntry_of_isLatest ⟨i, h6, hFi, fun j z hj hz => hlater j z (hentry.mpr ⟨hj, hz⟩)⟩
    have hnone : ∀ {t m}, (∀ i y, ¬entry t i m y) → e.latestEntry t m x = none := fun {t m} h =>
      latestEntry_eq_none fun i hi => Option.eq_none_iff_forall_ne_some.mpr fun y hy => h i y (hentry.mpr ⟨hi, hy⟩)
    have hgiven : ∀ y : DayPlanEntry, (e.programKind y.program).posture = given y := fun y => by
      dsimp only [given]
      unfold Env.programKind
      cases (e.stepEntry y.program 1).kind <;> rfl
    refine ⟨planEntry_of_index e, fun hc => by simp only [expected, expectedPosture, hc], fun n hn => ⟨fun keep hk => ?_,
      fun hk => ?_⟩⟩
    · simp only [expected, expectedPosture, hn, x, hk]
    have hexpected : expected = some (e.planPosture (n / 60) x) := by simp only [expected, expectedPosture, hn, x, hk]
    rw [hexpected, Env.planPosture]
    refine ⟨fun y hy => ?_, fun htoday => ⟨fun y hy => ?_, fun hyesterday => ?_⟩⟩
    · rw [hlatest hy, ← hgiven]
    · have hlast : e.latestEntry e.clock.yesterday (Config.noMinute - 1) x = some y := hlatest hy
      rw [hnone htoday, hlast, ← hgiven]
    · have hlast : e.latestEntry e.clock.yesterday (Config.noMinute - 1) x = none := hnone hyesterday
      rw [hnone htoday, hlast]

end Sys2Proof.Machine
end

section
/-! Exemption commands and start requests (R138, R140, R141, R156, R158, R160, R161). -/

namespace Sys2Proof.Machine

variable {s : State}

/-! ## The exemption table -/

theorem insertExemption_find (x : Exemption) (ys : List Exemption) :
    (insertExemption x ys).find? (fun y => y.group == x.group) = some x := by
  induction ys with
  | nil => simp [insertExemption]
  | cons y ys ih =>
    unfold insertExemption
    split
    · simp
    · split
      · simp
      · next hne => rw [List.find?_cons_of_neg (by simpa using Ne.symm hne), ih]

theorem insertExemption_others (x : Exemption) (ys : List Exemption) :
    (insertExemption x ys).filter (fun y => y.group != x.group) = ys.filter (fun y => y.group != x.group) := by
  induction ys with
  | nil => simp [insertExemption]
  | cons y ys ih =>
    unfold insertExemption
    split
    · simp
    · split
      · next heq => simp [heq]
      · simp [List.filter_cons, ih]

theorem exemption_argument (a : BitVec 12) : (a.extractLsb' 0 11).toNat = a.toNat % 2048 := by
  rw [BitVec.extractLsb'_toNat, Nat.shiftRight_zero]

theorem known_iff : s.env.known = true ↔ s.clock.second ≠ none := Option.isSome_iff_ne_none

theorem exemptAccepted_iff {m expiry : Nat} {next : Bool} {k : Fin 16} {xs : List Exemption} :
    exemptAccepted m expiry next k xs = true ↔
      expiry ≤ 1439 ∧ (next = true ∨ m < expiry) ∧ ((∃ y ∈ xs, y.group = k) ∨ xs.length < 16) := by
  have hlast : expiry < Config.noMinute ↔ expiry ≤ 1439 := Nat.lt_succ_iff
  simp only [exemptAccepted, Bool.and_eq_true, Bool.or_eq_true, decide_eq_true_eq, List.any_eq_true, beq_iff_eq, hlast, and_assoc]
  rfl

/-- EXEMPT_RELEASED and EXEMPT_SECURED at a local group (R160). -/
theorem exempt_local (e : Env) (keep : Posture) (k : Fin 16) (arg : BitVec 12) (g : Segment) :
    exempt e keep (.localGroup k) arg g =
      if e.known && exemptAccepted e.minute (arg.toNat % 2048) (arg.getLsbD 11) k g.exemptions then
        let xs := insertExemption ⟨k, keep, arg.toNat % 2048, if arg.getLsbD 11 then 1 else 0⟩ g.exemptions
        (true, ((groupMembers e k).filter (fun d => effectiveExemption xs (e.doorEntry d) == some keep)).foldl
          (fun g d => targetSet e d keep e.catchUp none g) { g with exemptions := xs })
      else (false, g) := by
  rw [← exemption_argument]
  rfl

/-- What the removal of an entry does (R161). -/
theorem removeExemption_listed {e : Env} {k : Fin 16} {g : Segment} {y : Exemption}
    (h : g.exemptions.find? (fun y => y.group == k) = some y) : removeExemption e k g =
      forDoors (groupMembers e k) (afterRemoval e y.keep)
        { g with exemptions := g.exemptions.filter (fun y => y.group != k) } := by
  rw [removeExemption, h]

theorem removeExemption_unlisted {e : Env} {k : Fin 16} {g : Segment} (h : ¬∃ y ∈ g.exemptions, y.group = k) :
    removeExemption e k g = g := by
  have hnone : g.exemptions.find? (fun y => y.group == k) = none :=
    List.find?_eq_none.mpr fun y hy hk => h ⟨y, hy, by simpa using hk⟩
  rw [removeExemption, hnone]

/-- Settles O37: the commands by their scope, the argument's test, and the table with the entry placed or removed. -/
theorem exemptionCommands : Obligations.ExemptionCommands := by
  intro x sc s h expiry next untaken taken
  refine ⟨?_, ?_⟩
  · rintro rfl
    exact ⟨exec_untaken rfl h rfl, exec_untaken rfl h rfl, exec_untaken rfl h rfl⟩
  · rintro k rfl listed accepted
    have haccepted : (s.env.known && exemptAccepted s.env.minute expiry next k s.seg.exemptions) = true ↔ accepted := by
      rw [Bool.and_eq_true, known_iff, exemptAccepted_iff]
      rfl
    refine ⟨fun c code keep hc => ?_, fun hl => ?_, fun y hy => ?_⟩
    · obtain ⟨hcode, hdecode⟩ : c.asCommand = some (code, x)
          ∧ decodeCommand code (.localGroup k) x.argument s.env s.seg = exempt s.env keep (.localGroup k) x.argument s.seg := by
        simp only [List.mem_cons, Prod.mk.injEq, List.not_mem_nil, or_false] at hc
        rcases hc with ⟨rfl, rfl, rfl⟩ | ⟨rfl, rfl, rfl⟩ <;> exact ⟨rfl, rfl⟩
      rw [exempt_local] at hdecode
      refine ⟨fun hno => exec_untaken hcode h (hdecode.trans (if_neg (mt haccepted.mp hno))), fun hyes => ?_⟩
      have hput := hdecode.trans (if_pos (haccepted.mpr hyes))
      exact ⟨_, insertExemption_find ⟨k, keep, expiry, if next then 1 else 0⟩ s.seg.exemptions,
        insertExemption_others ⟨k, keep, expiry, if next then 1 else 0⟩ s.seg.exemptions, exec_taken hcode h hput⟩
    · exact exec_taken rfl h (congrArg (Prod.mk true) (removeExemption_unlisted hl))
    · exact exec_taken rfl h (congrArg (Prod.mk true) (removeExemption_listed hy))

/-! ## Start requests -/

/-- The lines of R138's table in order, while the tables are loaded. -/
theorem dropReason_loaded {e : Env} {p : Fin 8} {g : Segment} (hl : e.loaded = true) : dropReason e p g =
    if g.fire.latch then some .fire
    else if e.programDefective p then some .defective
    else if e.stepCount p = 0 then some .disabled
    else if g.seqr.run.any (fun r => r.program == p) then some .active
    else if p ∈ g.seqr.queue then some .queued
    else if g.seqr.run.isSome ∧ 4 ≤ g.seqr.queue.length then some .full
    else none := by
  rw [dropReason, if_neg (by simp [hl])]
  simp only [List.contains_iff_mem, Bool.and_eq_true, decide_eq_true_eq]
  rfl

theorem startRequest_dropped {e : Env} {p : Fin 8} {g : Segment} {y : DropReason} (h : dropReason e p g = some y) :
    startRequest e p g = (.dropped, dropRequest e p y g) := by
  rw [startRequest, h]

theorem startRequest_queued {e : Env} {p : Fin 8} {g : Segment} (h : dropReason e p g = none)
    (hr : g.seqr.run.isSome = true) :
    startRequest e p g = (.queued, { g with seqr := { g.seqr with queue := g.seqr.queue ++ [p] } }) := by
  rw [startRequest, h]
  exact if_neg (by simpa using Option.isSome_iff_ne_none.mp hr)

theorem startRequest_started {e : Env} {p : Fin 8} {g : Segment} (h : dropReason e p g = none) (hr : g.seqr.run = none) :
    startRequest e p g = (.started, startRun e p g) := by
  rw [startRequest, h]
  exact if_pos (by simp [hr])

/-- A drop that is not NOT_LOADED is recorded and listed at once (R137, R138). -/
theorem dropRequest_listed {e : Env} {p : Fin 8} {g : Segment} {y : DropReason} (h : y ≠ .notLoaded) : dropRequest e p y g =
    { g with
      seqr := { g.seqr with dropped := some ⟨p, y, e.minute⟩ }
      exceptions := handException (fun z => z.active g) none .runDropped none e.minute g.exceptions } := by
  rw [dropRequest]
  exact if_neg h

theorem dropReason_ne_notLoaded {e : Env} {p : Fin 8} {g : Segment} (hl : e.loaded = true) :
    dropReason e p g ≠ some .notLoaded := by
  rw [dropReason_loaded hl]
  split_ifs <;> simp

/-- The run that a start makes (R140, R141). -/
def newRun (e : Env) (p : Fin 8) : Run :=
  Run.reachBase e 1 { program := p, startMinute := e.minute
                      steps := (List.range (e.stepCount p)).map (fun i => .initial (e.stepEntry p (i + 1)).offset) }

theorem startRun_eq (e : Env) (p : Fin 8) (g : Segment) :
    startRun e p g = { g with seqr := { g.seqr with run := some (newRun e p) } } := rfl

theorem newRun_step {e : Env} {p : Fin 8} {i : Nat} {z : StepRecord} (h : (newRun e p).steps[i]? = some z) :
    z.state = .delaying ∧ z.remaining = (e.stepEntry p (i + 1)).offset ∧ z.baseReached = (i == 0)
      ∧ z.due = (i == 0 && z.remaining == 0 && !e.hold) ∧ z.startMinute = none ∧ z.doneMinute = none ∧ z.members = [] := by
  have hsteps : (newRun e p).steps = ((List.range (e.stepCount p)).map fun i =>
      StepRecord.initial (e.stepEntry p (i + 1)).offset).modify 0 (fun s => if s.baseReached then s
        else { s with baseReached := true, sub := 0, due := s.remaining == 0 && !e.hold }) := rfl
  rw [hsteps, List.getElem?_modify, List.getElem?_map] at h
  simp only [Option.map_eq_map, Option.map_map, Option.map_eq_some_iff] at h
  obtain ⟨j, hj, rfl⟩ := h
  obtain ⟨-, rfl⟩ := List.getElem?_eq_some_iff.mp hj
  rw [List.getElem_range]
  cases i with
  | zero => simp [StepRecord.initial]
  | succ i => simp [StepRecord.initial]

theorem newRun_length (e : Env) (p : Fin 8) : (newRun e p).steps.length = e.stepCount p := by
  simp [newRun, Run.reachBase, Run.modStep]

theorem startProgram_segment {e : Env} {p : Fin 8} {arg : BitVec 12} {g : Segment} (h : p.val = arg.toNat) :
    startProgram e .segment arg g = ((startRequest e p g).1 != .dropped, (startRequest e p g).2) := by
  have hlt : arg.toNat < 8 := h ▸ p.isLt
  obtain rfl : p = ⟨arg.toNat, hlt⟩ := Fin.ext h
  exact dif_pos hlt

end Sys2Proof.Machine

namespace Sys2Proof

open Machine

/-- Settles O38: the lines of R138 in order, then the run made or the program queued. -/
theorem startRequest : Obligations.StartRequest := by
  intro x sc s h untaken taken q
  refine ⟨fun hno => exec_untaken (code := .startProgram) rfl h ?_, ?_⟩
  · cases sc with
    | localGroup k => rfl
    | segment => exact dif_neg (Nat.not_lt.mpr (hno.resolve_left (fun hs => hs rfl)))
  rintro rfl p hp reason
  have hloaded : s.env.loaded = true := by simp [State.env, h.awaits.frame.running]
  have hreason : dropReason s.env p s.seg = reason := dropReason_loaded hloaded
  have hdecode : decodeCommand .startProgram .segment x.argument s.env s.seg
      = ((Machine.startRequest s.env p s.seg).1 != .dropped, (Machine.startRequest s.env p s.seg).2) := startProgram_segment hp
  refine ⟨fun y hy => exec_untaken (code := .startProgram) rfl h (hdecode.trans ?_), fun hy hr => exec_taken (code := .startProgram) rfl h (hdecode.trans ?_), fun hy hr => ?_⟩
  · have hy' := hreason.trans hy
    have hne : y ≠ .notLoaded := fun hyn => dropReason_ne_notLoaded hloaded (hyn ▸ hy')
    rw [startRequest_dropped hy', dropRequest_listed hne]
    rfl
  · rw [startRequest_queued (hreason.trans hy) hr]
    rfl
  · refine ⟨newRun s.env p, exec_taken (code := .startProgram) rfl h (hdecode.trans ?_), Run.reachBase_program .., rfl, newRun_length _ _,
      fun i z hz => newRun_step hz⟩
    rw [startRequest_started (hreason.trans hy) hr, startRun_eq]
    rfl

end Sys2Proof
end

section
/-! What the operations of a door's engine can touch, once for every predicate of the segment: a predicate that stands the changes of
single doors, of the queue, of the exception list and of the run's record that such operations consist of stands the operations. -/

namespace Sys2Proof.Machine

/-- The kinds that a door's engine raises and clears: all but those of the monitor and of tampering. -/
abbrev Kind.byEngine (k : Kind) : Prop := k ≠ .propped ∧ k ≠ .tamper

theorem failKind_byEngine (p : Posture) : (failKind p).byEngine := by
  cases p <;> decide

/-- The record of a door but for what its engine moves at work: the inputs, the drop record but for the pulse, the monitor but for the
watch, and the service mark. -/
def Door.aside (x : Door) : Inputs × Drop × Monitor × Bool :=
  (x.inputs, { x.drop with pulse := .none, pulseSeq := 0 }, { x.mon with watch := none }, x.eng.inService)

/-- The flags of PROPPED and TAMPER, which are not the engine's. -/
def Engine.guards (y : Engine) := (y.live.propped, y.live.tamper, y.sticky.tamper, y.sticky.tamperReason)

/-- What a door's engine at work leaves of the door's record; and it enters neither ABSENT nor OUT_OF_SERVICE. -/
structure Calm (x y : Door) : Prop where
  aside : y.aside = x.aside
  guards : y.eng.guards = x.eng.guards
  fit : x.eng.state ∉ [DoorState.absent, .outOfService] → y.eng.state ∉ [DoorState.absent, .outOfService]

namespace Calm

variable {x y z : Door}

theorem refl (x : Door) : Calm x x := ⟨rfl, rfl, id⟩

theorem trans (a : Calm x y) (b : Calm y z) : Calm x z :=
  ⟨b.aside.trans a.aside, b.guards.trans a.guards, fun h => b.fit (a.fit h)⟩

theorem inputs (h : Calm x y) : y.inputs = x.inputs := congrArg (fun r => r.1) h.aside

theorem drop (h : Calm x y) : y.drop = { x.drop with pulse := y.drop.pulse, pulseSeq := y.drop.pulseSeq } :=
  congrArg (fun r => { r.2.1 with pulse := y.drop.pulse, pulseSeq := y.drop.pulseSeq }) h.aside

theorem mon (h : Calm x y) : y.mon = { x.mon with watch := y.mon.watch } :=
  congrArg (fun r => { r.2.2.1 with watch := y.mon.watch }) h.aside

theorem inService (h : Calm x y) : y.eng.inService = x.eng.inService := congrArg (fun r => r.2.2.2) h.aside

theorem propped (h : Calm x y) : y.eng.live.propped = x.eng.live.propped := congrArg (fun r => r.1) h.guards

theorem tamper (h : Calm x y) : y.eng.live.tamper = x.eng.live.tamper := congrArg (fun r => r.2.1) h.guards

theorem tampered (h : Calm x y) : y.eng.sticky.tamper = x.eng.sticky.tamper := congrArg (fun r => r.2.2.1) h.guards

theorem reason (h : Calm x y) : y.eng.sticky.tamperReason = x.eng.sticky.tamperReason := congrArg (fun r => r.2.2.2) h.guards

end Calm

/-- The states that an engine enters. -/
abbrev DoorState.byEngine (st : DoorState) : Prop := st ∉ [DoorState.absent, .outOfService]

theorem Posture.state_byEngine (p : Posture) : p.state.byEngine := by
  cases p <;> decide

theorem raise_byEngine (y : Engine) {k : Kind} (sub : Option SubReason) (hk : k.byEngine) :
    ({ y with live := y.live.put k true, sticky := y.sticky.set k sub } : Engine).guards = y.guards := by
  cases k with
  | propped => exact absurd rfl hk.1
  | tamper => exact absurd rfl hk.2
  | _ => rfl

theorem put_byEngine (y : Engine) {k : Kind} (b : Bool) (hk : k.byEngine) :
    ({ y with live := y.live.put k b } : Engine).guards = y.guards := by
  cases k with
  | propped => exact absurd rfl hk.1
  | tamper => exact absurd rfl hk.2
  | _ => rfl

theorem clear_byEngine (y : Engine) (ks : List Kind) (hk : ∀ k ∈ ks, k.byEngine) :
    ({ y with live := ks.foldl (fun l k => l.put k false) y.live } : Engine).guards = y.guards := by
  induction ks generalizing y with
  | nil => rfl
  | cons k ks ih =>
    have cleared := put_byEngine y false (hk k List.mem_cons_self)
    exact (ih { y with live := y.live.put k false } fun j hj => hk j (List.mem_cons_of_mem k hj)).trans cleared

theorem revertTo_byEngine (p : ProfileEntry) (y : Door) : (y.revertTo p).1.byEngine := by
  unfold Door.revertTo
  split
  · exact (by decide : DoorState.holding.byEngine)
  · exact (by decide : DoorState.faulted.byEngine)
  · split <;> decide
  · split
    · decide
    · split <;> decide

/-- P stands the changes that the engines of the doors of D make of their own doors' records, of the queue, the exception list, the free
values and the run's record. -/
structure DoorWork (e : Env) (D : DoorNo → Prop) (P : Segment → Prop) : Prop where
  door : ∀ {d x g}, D d → Calm (g.door d) x → P g → P (g.putDoor d x)
  queue : ∀ {qs g}, (∀ q ∈ qs, q ∈ g.queue ∨ D q.door) → P g → P { g with queue := qs }
  exceptions : ∀ {xs g}, P g → P { g with exceptions := xs }
  free : ∀ {n g}, P g → P { g with free := n }
  outcome : ∀ {d k o g}, D d → P g → P (recordOutcome e d k o g)

/-- The engines of the doors of D work, and the arbiter considers, and P stands it. -/
structure EngineWork (e : Env) (D : DoorNo → Prop) (P : Segment → Prop) : Prop extends DoorWork e D P where
  consider : ∀ {g}, P g → P (consider e g)

namespace DoorWork

variable {e : Env} {D : DoorNo → Prop} {P : Segment → Prop} (I : DoorWork e D P) {d : DoorNo} {g : Segment}

include I

/-! ### Single changes -/

theorem upd {f : Door → Door} (hd : D d) (hf : Calm (g.door d) (f (g.door d))) (hg : P g) : P (g.upd e d f) := by
  unfold Segment.upd; dsimp only
  split
  · exact I.door hd (hf.trans ⟨rfl, rfl, id⟩) hg
  · exact I.door hd hf hg

theorem updEng {f : Engine → Engine} (hd : D d) (hf : ∀ x : Door, Calm x { x with eng := f x.eng }) (hg : P g) :
    P (updEng e d f g) := I.upd hd (hf _) hg

theorem setCharge {c : Charge} (hd : D d) (hg : P g) : P (setCharge d c g) := I.door hd ⟨rfl, rfl, id⟩ hg

theorem enterState {st : DoorState} (hst : st.byEngine) (hd : D d) (hg : P g) : P (enterState e d st g) :=
  I.upd hd ⟨rfl, rfl, fun _ => hst⟩ hg

theorem startTimer {n : Nat} (hd : D d) (hg : P g) : P (startTimer e d n g) := I.upd hd ⟨rfl, rfl, id⟩ hg

theorem clearLive {ks : List Kind} (hk : ∀ k ∈ ks, k.byEngine) (hd : D d) (hg : P g) : P (clearLive e d ks g) :=
  I.upd hd (⟨rfl, clear_byEngine _ ks hk, id⟩) hg

theorem raiseKind {k : Kind} {sub : Option SubReason} (hk : k.byEngine) (hd : D d) (hg : P g) :
    P (raiseKind e d k sub g) :=
  I.exceptions (I.upd hd ⟨rfl, raise_byEngine _ sub hk, id⟩ hg)

theorem answer {owed : Option Nat} {o : DoorOutcome} (hd : D d) (hg : P g) : P (answer e d owed o g) := by
  unfold Machine.answer
  split
  · exact hg
  · exact I.outcome hd hg

theorem answerOwed {o : DoorOutcome} (hd : D d) (hg : P g) : P (answerOwed e d o g) :=
  I.answer hd (I.upd hd ⟨rfl, rfl, id⟩ hg)

theorem answerPending {o : DoorOutcome} (hd : D d) (hg : P g) : P (answerPending e d o g) := by
  unfold Machine.answerPending
  split
  · exact hg
  · exact I.answer hd (I.upd hd ⟨rfl, rfl, id⟩ hg)

theorem dropPending (hd : D d) (hg : P g) : P (dropPending e d g) := I.upd hd ⟨rfl, rfl, id⟩ hg

theorem postPulse {k : PulseKind} (hd : D d) (hg : P g) : P (postPulse e d k g) := I.upd hd ⟨rfl, rfl, id⟩ hg

theorem withholdPulse (hd : D d) (hg : P g) : P (withholdPulse e d g) := I.upd hd ⟨rfl, rfl, id⟩ hg

theorem cancelPulse (hd : D d) (hg : P g) : P (cancelPulse e d g) := I.upd hd ⟨rfl, rfl, id⟩ hg

theorem clearWatch (hd : D d) (hg : P g) : P (clearWatch e d g) := I.upd hd ⟨rfl, rfl, id⟩ hg

/-! ### The arbiter -/

theorem dequeue (hg : P g) : P (dequeue d g) := I.queue (fun _ hq => .inl (List.mem_of_mem_filter hq)) hg

theorem revert (hd : D d) (hg : P g) : P (revert e d g) := by
  unfold Machine.revert Machine.stopWaiting; dsimp only
  have stopped := I.upd (f := fun x => { x with
    eng := { x.eng with timer := .stopped, deferral := .none, deferralSub := 0 }
    mon := { x.mon with watch := none } }) hd ⟨rfl, rfl, id⟩ (I.dequeue (d := d) hg)
  split
  · exact I.clearLive (by decide) hd (I.upd hd ⟨rfl, rfl, fun _ => revertTo_byEngine _ _⟩ stopped)
  · exact I.upd hd ⟨rfl, rfl, fun _ => revertTo_byEngine _ _⟩ stopped

theorem grant (hd : D d) (hg : P g) : P (grant e d g) := by
  have driving : P (Machine.enterState e d .driving (Machine.setCharge d ⟨(e.profile d).runUnits, .run, 0, 0⟩ (Machine.dequeue d g))) :=
    I.enterState (by decide) hd (I.setCharge hd (I.dequeue hg))
  unfold Machine.grant; dsimp only
  split
  · split
    · exact I.postPulse hd driving
    · exact I.withholdPulse hd driving
  · exact I.upd hd ⟨rfl, rfl, id⟩ driving

theorem refuse (hd : D d) (hg : P g) : P (refuse e d g) := I.revert hd (I.raiseKind (by decide) hd (I.answerOwed hd (I.dequeue hg)))

end DoorWork

/-- The consideration of the queue is grants and refusals of its doors. -/
theorem consider_keeps {e : Env} {P : Segment → Prop}
    (hgrant : ∀ {g}, ∀ q ∈ g.queue, P g → P (grant e q.door g)) (hrefuse : ∀ {g}, ∀ q ∈ g.queue, P g → P (refuse e q.door g))
    {g : Segment} (hg : P g) : P (consider e g) := by
  have loop : ∀ (n : Nat) (g : Segment), P g → P (considerLoop e n g) := by
    intro n
    induction n with
    | zero => exact fun _ hg => hg
    | succ n ih =>
      intro g hg
      unfold considerLoop
      split
      · exact hg
      · next q rest hq =>
        have hmem : q ∈ g.queue := by simp [hq]
        split
        · exact ih _ (hgrant q hmem hg)
        · split
          · exact hg
          · exact ih _ (hrefuse q hmem hg)
  unfold consider
  split <;> [exact hg; exact loop _ g hg]

/-- Where the doors that wait are of D, the arbiter's grants and refusals are their work. -/
theorem DoorWork.engine {e : Env} {D : DoorNo → Prop} {P : Segment → Prop} (I : DoorWork e D P)
    (queued : ∀ {g}, P g → ∀ q ∈ g.queue, D q.door) : EngineWork e D P where
  toDoorWork := I
  consider := consider_keeps (fun q hq hg => I.grant (queued hg q hq) hg) (fun q hq hg => I.refuse (queued hg q hq) hg)

theorem DoorWork.all {e : Env} {P : Segment → Prop} (I : DoorWork e (fun _ => True) P) : EngineWork e (fun _ => True) P :=
  I.engine fun _ _ _ => trivial

namespace EngineWork

variable {e : Env} {D : DoorNo → Prop} {P : Segment → Prop} (I : EngineWork e D P) {d : DoorNo} {g : Segment}

include I

/-! ### Drive-offs and the queue -/

theorem enqueue (hd : D d) (hg : P g) : P (enqueue e d g) := by
  refine I.consider (I.queue (fun q hq => ?_) hg)
  rcases List.mem_cons.mp ((insertEntry_perm ..).mem_iff.mp hq) with rfl | h
  · exact .inr hd
  · exact .inl h

theorem forceDriveOff (hd : D d) (hg : P g) : P (forceDriveOff e d g) :=
  I.consider (I.upd hd ⟨rfl, rfl, id⟩ (I.setCharge hd hg))

theorem turnDriveOff (hd : D d) (hg : P g) : P (turnDriveOff e d g) := by
  unfold Machine.turnDriveOff
  split <;> [exact I.forceDriveOff hd hg; exact hg]

theorem setDrive {on : Bool} (hd : D d) (hg : P g) : P (setDrive e d on g) := by
  unfold Machine.setDrive
  split <;> [exact I.upd hd ⟨rfl, rfl, id⟩ hg; exact I.turnDriveOff hd hg]

theorem leaveHolding (hd : D d) (hg : P g) : P (leaveHolding e d g) := by
  unfold Machine.leaveHolding; dsimp only
  split
  · exact hg
  · split
    · exact I.setDrive hd hg
    · split
      · exact I.setDrive hd hg
      · exact I.setDrive hd (I.free hg)

theorem runEnd (hd : D d) (hg : P g) : P (runEnd e d g) := by
  unfold Machine.runEnd; dsimp only
  split <;> [exact I.consider (I.setCharge hd hg); exact hg]

theorem withdraw (hg : P g) : P (withdraw e d g) := by
  unfold Machine.withdraw
  split <;> [exact I.consider (I.dequeue hg); exact hg]

/-! ### Settling, waiting and proceeding -/

theorem settleAt {p : Posture} {o : DoorOutcome} (hd : D d) (hg : P g) : P (settleAt e d p o g) :=
  I.answerOwed hd (I.clearLive (by decide) hd (I.setDrive hd (I.updEng hd (fun _ => ⟨rfl, rfl, fun _ => p.state_byEngine⟩) hg)))

theorem enterFaulted {k : Kind} (hk : k.byEngine) (hd : D d) (hg : P g) : P (enterFaulted e d k g) :=
  I.answerOwed hd (I.raiseKind hk hd (I.updEng hd (fun _ => ⟨rfl, rfl, fun _ => (by decide : DoorState.faulted.byEngine)⟩) hg))

theorem enterVerifying (hd : D d) (hg : P g) : P (enterVerifying e d g) := by
  have started : P (Machine.startTimer e d (e.profile d).verifyTime (Machine.enterState e d .verifying g)) :=
    I.startTimer hd (I.enterState (by decide) hd hg)
  unfold Machine.enterVerifying; dsimp only
  split
  · split <;> [exact I.settleAt hd started; exact started]
  · exact started

theorem whenWired {f : Segment → Segment} (hd : D d) (hf : P (f g)) (hg : P g) : P (whenWired e d f g) := by
  unfold Machine.whenWired
  split <;> [exact hf; exact I.enterFaulted (failKind_byEngine _) hd hg]

theorem awaitGrant (hd : D d) (hg : P g) : P (awaitGrant e d g) := I.enqueue hd (I.enterState (by decide) hd hg)

theorem proceed (hd : D d) (hg : P g) : P (proceed e d g) := by
  refine I.whenWired hd ?_ hg
  split <;> [exact I.enterVerifying hd (I.turnDriveOff hd hg); exact I.awaitGrant hd hg]

theorem quietNotice (hd : D d) (hg : P g) : P (quietNotice e d g) := by
  unfold Machine.quietNotice; dsimp only
  split
  · split <;> [exact I.startTimer hd (I.enterState (by decide) hd hg); exact I.proceed hd hg]
  · exact hg

theorem evaluateWatch (hd : D d) (hg : P g) : P (evaluateWatch e d g) := by
  unfold Machine.evaluateWatch; dsimp only
  split
  · split <;> [exact I.quietNotice hd (I.clearWatch hd hg); exact hg]
  · exact hg

theorem setWatch (hd : D d) (hg : P g) : P (setWatch e d g) := I.evaluateWatch hd (I.upd hd ⟨rfl, rfl, id⟩ hg)

theorem startDeferral (hd : D d) (hg : P g) : P (startDeferral e d g) := I.updEng hd (fun _ => ⟨rfl, rfl, id⟩) hg

/-! ### Toward a posture -/

theorem takeReleased {o : DoorOutcome} (hd : D d) (hg : P g) : P (takeReleased e d o g) := by
  have left := I.leaveHolding hd hg
  unfold Machine.takeReleased; dsimp only
  split
  · exact I.settleAt hd left
  · split
    · exact I.settleAt hd left
    · split
      · exact I.enterFaulted (by decide) hd left
      · split
        · exact I.enterVerifying hd (I.turnDriveOff hd left)
        · exact I.awaitGrant hd left

theorem actOnExpiry (hd : D d) (hg : P g) : P (actOnExpiry e d g) := by
  have ended := I.updEng (f := fun x => { x with deferral := .none, deferralSub := 0 }) hd (fun _ => ⟨rfl, rfl, id⟩) hg
  unfold Machine.actOnExpiry; dsimp only
  split
  · exact I.takeReleased hd (I.clearWatch hd (I.raiseKind (by decide) hd (I.answerOwed hd (I.updEng hd (fun _ => ⟨rfl, rfl, id⟩) ended))))
  · have watched := I.setWatch hd (I.updEng (f := fun x => { x with force := true }) hd (fun _ => ⟨rfl, rfl, id⟩) ended)
    split <;> [exact I.exceptions (I.answerOwed hd watched); exact watched]

theorem enterQuietWait (hd : D d) (hg : P g) : P (enterQuietWait e d g) := by
  have watched := I.setWatch hd (I.enterState (st := .quietWait) (by decide) hd hg)
  unfold Machine.enterQuietWait; dsimp only
  split <;> [exact I.actOnExpiry hd watched; exact watched]

theorem takeSecured {o : DoorOutcome} (hd : D d) (hg : P g) : P (takeSecured e d o g) := by
  have left := I.leaveHolding hd hg
  unfold Machine.takeSecured; dsimp only
  split
  · exact I.settleAt hd left
  · split
    · exact I.enterFaulted (by decide) hd left
    · exact I.enterQuietWait hd (I.startDeferral hd left)

theorem takeToward {p : Posture} {o : DoorOutcome} (hd : D d) (hg : P g) : P (takeToward e d p o g) := by
  cases p with
  | secured => exact I.takeSecured hd hg
  | released => exact I.takeReleased hd hg

/-! ### Target sets -/

theorem adopt {p : Posture} {params : Params} {owed : Option Nat} (hd : D d) (hg : P g) : P (adopt e d p params owed g) :=
  I.updEng hd (fun _ => ⟨rfl, rfl, id⟩) (I.answerOwed hd hg)

theorem holdPending {p : Posture} {params : Params} {owed : Option Nat} (hd : D d) (hg : P g) :
    P (holdPending e d p params owed g) := I.updEng hd (fun _ => ⟨rfl, rfl, id⟩) (I.answerPending hd hg)

theorem beginAttempt {fb : Fallback} {prev : Option Posture} (hd : D d) (hg : P g) : P (beginAttempt e d fb prev g) := I.updEng hd (fun _ => ⟨rfl, rfl, id⟩) hg

theorem newAttempt {p : Posture} {params : Params} {owed : Option Nat} {fb : Option Fallback} (hd : D d) (hg : P g) :
    P (newAttempt e d p params owed fb g) := I.takeToward hd (I.beginAttempt hd (I.adopt hd hg))

theorem targetSet {p : Posture} {params : Params} {owed : Option Nat} (hd : D d) (hg : P g) : P (targetSet e d p params owed g) := by
  unfold Machine.targetSet; dsimp only
  split
  · exact I.answer hd hg
  · exact I.answer hd hg
  · exact I.answer hd hg
  · split
    · exact I.answer hd (I.holdPending hd hg)
    · exact I.answer hd (I.updEng hd (fun _ => ⟨rfl, rfl, id⟩) hg)
  · exact I.holdPending hd hg
  · exact I.holdPending hd hg
  · exact I.newAttempt hd hg
  · split <;> [exact I.answer hd (I.updEng hd (fun _ => ⟨rfl, rfl, id⟩) hg); exact I.newAttempt hd hg]
  · split <;> [exact I.answer hd (I.updEng hd (fun _ => ⟨rfl, rfl, id⟩) hg); exact I.newAttempt hd hg]
  · split <;> [exact I.newAttempt hd hg; exact I.answerOwed hd (I.adopt hd hg)]
  · split
    · exact I.setWatch hd (I.updEng hd (fun _ => ⟨rfl, rfl, id⟩) (I.startDeferral hd (I.adopt hd hg)))
    · exact I.newAttempt hd (I.clearWatch hd hg)
  · split <;> [exact I.startDeferral hd (I.adopt hd hg); exact I.newAttempt hd (I.updEng hd (fun _ => ⟨rfl, rfl, id⟩) hg)]
  · split <;> [exact I.adopt hd hg; exact I.newAttempt hd (I.withdraw hg)]
  · split <;> [exact I.adopt hd hg; exact I.newAttempt hd (I.updEng hd (fun _ => ⟨rfl, rfl, id⟩) hg)]
  · split <;> [exact I.newAttempt hd (I.updEng hd (fun _ => ⟨rfl, rfl, id⟩) hg); exact I.adopt hd hg]

theorem takePending (hd : D d) (hg : P g) : P (takePending e d g) := by
  unfold Machine.takePending; dsimp only
  split
  · exact hg
  · split <;> [exact hg; exact I.targetSet hd (I.dropPending hd hg)]

theorem giveExpected (hd : D d) (hg : P g) : P (giveExpected e d g) := by
  unfold Machine.giveExpected
  split <;> [exact I.targetSet hd hg; exact hg]

/-! ### Timers and terminal events -/

theorem readVerifying (hd : D d) (hg : P g) : P (readVerifying e d g) := by
  unfold Machine.readVerifying; dsimp only
  split
  · split <;> [exact I.takePending hd (I.settleAt hd hg); exact hg]
  · exact hg

theorem positionOpen (hd : D d) (hg : P g) : P (positionOpen e d g) := by
  unfold Machine.positionOpen; dsimp only
  split
  · exact I.enterQuietWait hd hg
  · split <;> [exact I.enterQuietWait hd (I.withdraw hg); exact hg]
  · split <;> [exact I.raiseKind (by decide) hd (I.updEng hd (fun _ => ⟨rfl, rfl, id⟩) hg); exact I.updEng hd (fun _ => ⟨rfl, rfl, id⟩) hg]
  · exact hg

theorem positionClosed (hd : D d) (hg : P g) : P (positionClosed e d g) := by
  unfold Machine.positionClosed; dsimp only
  split
  · exact I.takePending hd (I.enterVerifying hd (I.updEng hd (fun _ => ⟨rfl, rfl, id⟩) hg))
  · exact hg

theorem exitRequested (hd : D d) (hg : P g) : P (exitRequested e d g) := by
  unfold Machine.exitRequested; dsimp only
  split
  · split <;> [exact I.startTimer hd (I.enterState (by decide) hd (I.turnDriveOff hd hg)); exact I.updEng hd (fun _ => ⟨rfl, rfl, id⟩) hg]
  · exact I.startTimer hd hg
  · exact hg

theorem supervisionFault {k : Kind} (hk : k.byEngine) (hd : D d) (hg : P g) : P (supervisionFault e d k g) := by
  have raised := I.raiseKind (k := k) (sub := none) hk hd (I.forceDriveOff hd (I.dequeue (d := d) hg))
  have cleared := I.updEng (f := fun x => { x with deferral := .none, deferralSub := 0 }) hd (fun _ => ⟨rfl, rfl, id⟩) (I.clearWatch hd raised)
  unfold Machine.supervisionFault; dsimp only
  split
  · exact raised
  · split
    · exact I.takePending hd (I.answerOwed hd (I.enterState (by decide) hd cleared))
    · exact I.takePending hd (I.startTimer hd (I.enterState (by decide) hd cleared))

/-! ### Loss, finding, abort -/

theorem lostNotice (hd : D d) (hg : P g) : P (lostNotice e d g) := by
  have raised := I.raiseKind (k := .lost) (sub := none) (by decide) hd hg
  unfold Machine.lostNotice; dsimp only
  split
  · exact raised
  · exact I.consider (I.answerPending hd (I.answerOwed hd (I.updEng hd
      (fun _ => ⟨rfl, rfl, fun _ => (by decide : DoorState.lost.byEngine)⟩) (I.clearWatch hd (I.withdraw (I.leaveHolding hd raised))))))

theorem enterEgress (hd : D d) (hg : P g) : P (enterEgress e d g) := by
  unfold Machine.enterEgress
  exact I.updEng hd (fun _ => ⟨rfl, rfl, fun _ => (by decide : DoorState.egress.byEngine)⟩) (I.forceDriveOff hd (I.dropPending hd hg))

theorem resumeState {st : DoorState} (hst : st.byEngine) (hd : D d) (hg : P g) : P (resumeState e d st g) := by
  unfold Machine.resumeState
  exact I.updEng hd (fun _ => ⟨rfl, rfl, fun _ => hst⟩) hg

theorem resumeByTarget (hd : D d) (hg : P g) : P (resumeByTarget e d g) := by
  unfold Machine.resumeByTarget; dsimp only
  split
  · exact I.enterState (by decide) hd hg
  · split
    · exact I.settleAt hd hg
    · exact I.takeToward hd (I.beginAttempt hd (I.updEng hd (fun _ => ⟨rfl, rfl, id⟩) hg))

theorem pendingAsTarget (hd : D d) (hg : P g) : P (pendingAsTarget e d g) :=
  I.updEng hd (fun _ => by split <;> exact ⟨rfl, rfl, id⟩) hg

theorem foundNotice (hd : D d) (hg : P g) : P (foundNotice e d g) := by
  have cleared := I.clearLive (ks := [.lost]) (by decide) hd hg
  have considered := I.consider cleared
  have faulted (x : Door) : Calm x { x with eng := { x.eng.enter .faulted with owed := none } } :=
    ⟨rfl, rfl, fun _ => (by decide : DoorState.faulted.byEngine)⟩
  unfold Machine.foundNotice; dsimp only
  split
  · split
    · exact I.enterEgress hd cleared
    · split
      · split <;> [exact I.resumeByTarget hd (I.pendingAsTarget hd considered); exact I.resumeState (by decide) hd considered]
      · split
        · exact I.resumeByTarget hd (I.pendingAsTarget hd considered)
        · exact I.readVerifying hd (I.resumeState (by decide) hd considered)
      · exact I.resumeState (by decide) hd considered
      · exact I.resumeState (by decide) hd considered
      · split
        · exact I.takeReleased hd (I.beginAttempt hd (I.updEng hd faulted considered))
        · exact I.updEng hd faulted considered
      · exact I.resumeByTarget hd considered
  · exact considered

theorem abortDoor (hd : D d) (hg : P g) : P (abortDoor e d g) := by
  have answered := I.answerOwed (o := .overridden) hd hg
  have dropped : P (dropOwingPending e d (Machine.answerOwed e d .overridden g)) := by
    unfold Machine.dropOwingPending
    split
    · split <;> [exact I.dropPending hd (I.answerPending hd answered); exact answered]
    · exact answered
  unfold Machine.abortDoor; dsimp only
  split
  · exact I.consider (I.revert hd dropped)
  · exact I.consider (I.revert hd dropped)
  · exact I.consider (I.revert hd dropped)
  · exact dropped

theorem fireDoor (hd : D d) (hg : P g) : P (fireDoor e d g) := by
  have egress : P (Machine.updEng e d (fun x =>
      { x.enter .egress with target := none, deferral := .none, deferralSub := 0, retry := 0, force := false })
      (Machine.forceDriveOff e d (Machine.clearWatch e d (Machine.withdraw e d (Machine.dropPending e d (Machine.answerPending e d .overridden
        (Machine.answerOwed e d .overridden g))))))) :=
    I.updEng hd (fun _ => ⟨rfl, rfl, fun _ => (by decide : DoorState.egress.byEngine)⟩)
      (I.forceDriveOff hd (I.clearWatch hd (I.withdraw (I.dropPending hd (I.answerPending hd (I.answerOwed hd hg))))))
  unfold Machine.fireDoor; dsimp only
  split
  · exact hg
  · exact hg
  · exact I.forceDriveOff hd (I.updEng hd (fun _ => ⟨rfl, rfl, id⟩) hg)
  · exact egress

omit I in
theorem forDoors {ds : List DoorNo} {f : DoorNo → Segment → Segment} (hf : ∀ d ∈ ds, ∀ g, P g → P (f d g)) (hg : P g) :
    P (forDoors ds f g) := by
  unfold Machine.forDoors
  induction ds generalizing g with
  | nil => exact hg
  | cons d ds ih => exact ih (fun j hj => hf j (List.mem_cons_of_mem d hj)) (hf d List.mem_cons_self g hg)

theorem removeExemption {k : Fin 16} (hD : ∀ d, D d) (hx : ∀ {xs g}, P g → P { g with exemptions := xs }) (hg : P g) :
    P (removeExemption e k g) := by
  unfold Machine.removeExemption
  split
  · exact hg
  · refine forDoors (fun d _ g hg => ?_) (hx hg)
    unfold afterRemoval
    split
    · exact I.giveExpected (hD d) hg
    · split <;> [exact hg; exact I.targetSet (hD d) hg]

theorem removeAll {ks : List (Fin 16)} (hD : ∀ d, D d) (hx : ∀ {xs g}, P g → P { g with exemptions := xs }) (hg : P g) :
    P (removeAll e ks g) := by
  unfold Machine.removeAll
  induction ks generalizing g with
  | nil => exact hg
  | cons k ks ih => exact ih (I.removeExemption hD hx hg)

end EngineWork

/-! ## A door that stands aside -/

/-- The door stands in no queue. -/
def Unqueued (d : DoorNo) (g : Segment) : Prop := ∀ q ∈ g.queue, q.door ≠ d

/-- The door is as it was, and stands in no queue. -/
structure Aside (d : DoorNo) (g h : Segment) : Prop where
  door : h.door d = g.door d
  unqueued : Unqueued d h

theorem recordOutcome_eq (e : Env) (d : DoorNo) (k : Nat) (o : DoorOutcome) (g : Segment) :
    recordOutcome e d k o g = { g with seqr := (recordOutcome e d k o g).seqr } := by
  unfold recordOutcome
  split
  · rfl
  · split
    · rfl
    · split <;> rfl

/-- An answer is between the door and the sequencer alone. -/
theorem answer_eq (e : Env) (d : DoorNo) (owed : Option Nat) (o : DoorOutcome) (g : Segment) :
    answer e d owed o g = { g with seqr := (answer e d owed o g).seqr } := by
  unfold answer
  split <;> [rfl; exact recordOutcome_eq e d _ o g]

/-- The work of other doors leaves a door aside. -/
theorem asideDoors (e : Env) (d : DoorNo) (g0 : Segment) : DoorWork e (fun j => j ≠ d) (Aside d g0) where
  door := fun hj _ hg => ⟨(door_putDoor_ne _ _ d _ hj.symm).trans hg.door, hg.unqueued⟩
  queue := fun hqs hg => ⟨hg.door, fun q hq => (hqs q hq).elim (hg.unqueued q) id⟩
  exceptions := fun hg => ⟨hg.door, hg.unqueued⟩
  free := fun hg => ⟨hg.door, hg.unqueued⟩
  outcome := fun _ hg => by rw [recordOutcome_eq]; exact ⟨hg.door, hg.unqueued⟩

theorem asideWork (e : Env) (d : DoorNo) (g0 : Segment) : EngineWork e (fun j => j ≠ d) (Aside d g0) :=
  (asideDoors e d g0).engine fun hg => hg.unqueued

theorem Aside.refl {d : DoorNo} {g : Segment} (h : Unqueued d g) : Aside d g g := ⟨rfl, h⟩

/-- The arbiter leaves a door aside that stands in no queue. -/
theorem consider_aside {e : Env} {d : DoorNo} {g : Segment} (h : Unqueued d g) : Aside d g (consider e g) :=
  (asideWork e d g).consider (.refl h)

/-- The engines' work leaves every door's senses. -/
theorem calmDoors (e : Env) (d : DoorNo) (x : Door) : DoorWork e (fun _ => True) (fun g => Calm x (g.door d)) where
  door := fun {j y g} _ hy hg => by
    show Calm x ((g.putDoor j y).door d)
    rw [door_putDoor]
    split
    · next h => subst h; exact hg.trans hy
    · exact hg
  queue := fun _ hg => hg
  exceptions := fun hg => hg
  free := fun hg => hg
  outcome := fun _ hg => by rw [recordOutcome_eq]; exact hg

theorem calmWork (e : Env) (d : DoorNo) (x : Door) : EngineWork e (fun _ => True) (fun g => Calm x (g.door d)) := (calmDoors e d x).all

/-- What stands the recording of outcomes stands the engines' work. -/
theorem recordWork {e : Env} {Q : Sequencer → Prop} (hQ : ∀ {d k o g}, Q g.seqr → Q (recordOutcome e d k o g).seqr) :
    EngineWork e (fun _ => True) (fun g => Q g.seqr) := DoorWork.all {
  door := fun _ _ hg => hg
  queue := fun _ hg => hg
  exceptions := fun hg => hg
  free := fun hg => hg
  outcome := fun _ hg => hQ hg }

/-- What the recording of an outcome keeps of the sequencer: all but the marks and the states of the run's steps. -/
structure SameRun (a b : Sequencer) : Prop where
  rest : b = { a with run := b.run }
  idle : a.run = none → b.run = none
  runs : ∀ r, a.run = some r → ∃ r', b.run = some r' ∧ r'.program = r.program ∧ r'.startMinute = r.startMinute
    ∧ r'.steps.length = r.steps.length

theorem SameRun.refl (a : Sequencer) : SameRun a a := ⟨rfl, id, fun r h => ⟨r, h, rfl, rfl, rfl⟩⟩

theorem SameRun.trans {a b c : Sequencer} (h : SameRun a b) (k : SameRun b c) : SameRun a c := by
  refine ⟨by rw [k.rest, h.rest], fun hn => k.idle (h.idle hn), fun r hr => ?_⟩
  obtain ⟨r', hr', hp, hm, hl⟩ := h.runs r hr
  obtain ⟨r'', hr'', hp', hm', hl'⟩ := k.runs r' hr'
  exact ⟨r'', hr'', hp'.trans hp, hm'.trans hm, hl'.trans hl⟩

@[simp] theorem Run.modStep_startMinute (k : Nat) (f : StepRecord → StepRecord) (r : Run) :
    (r.modStep k f).startMinute = r.startMinute := rfl

@[simp] theorem Run.modStep_length (k : Nat) (f : StepRecord → StepRecord) (r : Run) :
    (r.modStep k f).steps.length = r.steps.length := List.length_modify ..

theorem Run.judge_startMinute_length (e : Env) (k : Nat) (r : Run) :
    (r.judge e k).startMinute = r.startMinute ∧ (r.judge e k).steps.length = r.steps.length := by
  unfold Run.judge
  split
  · exact ⟨rfl, rfl⟩
  · split
    · dsimp only
      split <;> simp [Run.reachBase]
    · exact ⟨rfl, rfl⟩

theorem Run.judgeAll_startMinute_length (e : Env) (r : Run) :
    (r.judgeAll e).startMinute = r.startMinute ∧ (r.judgeAll e).steps.length = r.steps.length := by
  have fold : ∀ (is : List Nat) (r : Run),
      (is.foldl (fun r i => r.judge e (i + 1)) r).startMinute = r.startMinute
      ∧ (is.foldl (fun r i => r.judge e (i + 1)) r).steps.length = r.steps.length := by
    intro is
    induction is with
    | nil => exact fun r => ⟨rfl, rfl⟩
    | cons i is ih =>
      intro r
      obtain ⟨hm, hl⟩ := ih (r.judge e (i + 1))
      obtain ⟨hm', hl'⟩ := r.judge_startMinute_length e (i + 1)
      exact ⟨hm.trans hm', hl.trans hl'⟩
  exact fold _ r

theorem recordOutcome_sameRun (e : Env) (d : DoorNo) (k : Nat) (o : DoorOutcome) (g : Segment) :
    SameRun g.seqr (recordOutcome e d k o g).seqr := by
  unfold recordOutcome
  split
  · exact .refl _
  · next r hr =>
    split
    · exact .refl _
    · split
      · refine ⟨rfl, fun hn => absurd (hn ▸ hr) (by simp), fun r0 hr0 => ?_⟩
        obtain rfl : r = r0 := Option.some.inj (hr.symm.trans hr0)
        obtain ⟨hm, hl⟩ := (r.record d k o).judgeAll_startMinute_length e
        exact ⟨_, rfl, by simp, hm, hl.trans (by simp [Run.record])⟩
      · exact .refl _

/-- The engines' work keeps all of the sequencer but the marks and the states of the run's steps. -/
theorem sameRunWork (e : Env) (a : Sequencer) : EngineWork e (fun _ => True) (fun g => SameRun a g.seqr) :=
  recordWork (Q := SameRun a) fun h => h.trans (recordOutcome_sameRun e _ _ _ _)

/-- The engines' work leaves the learning flag. -/
theorem learningWork (e : Env) (b : Bool) : EngineWork e (fun _ => True) (fun g => g.learning = b) := DoorWork.all {
  door := fun _ _ hg => hg
  queue := fun _ hg => hg
  exceptions := fun hg => hg
  free := fun hg => hg
  outcome := fun _ hg => by rw [recordOutcome_eq]; exact hg }

/-- The engines' work leaves the fire release unit. -/
theorem fireWork (e : Env) (f : Fire) : EngineWork e (fun _ => True) (fun g => g.fire = f) := DoorWork.all {
  door := fun _ _ hg => hg
  queue := fun _ hg => hg
  exceptions := fun hg => hg
  free := fun hg => hg
  outcome := fun _ hg => by rw [recordOutcome_eq]; exact hg }

end Sys2Proof.Machine
end

section
/-! The day plan at a minute boundary: which programs are due, which marks are set, and what is handed to the sequencer. -/

namespace Sys2Proof.Machine

/-! ## The entries of a minute -/

/-- The program of today's entry at position i, where it is due at minute m (R27). -/
def dueProgram (m : Nat) (s : State) (i : Nat) : Option (Fin 8) :=
  match s.env.planEntry s.clock.today i with
  | some y => if y.minute = m ∧ s.clock.fired[6 * s.clock.today + i]? = some false then some y.program else none
  | none => none

theorem duePrograms_eq (m : Nat) (s : State) : duePrograms m s = (List.range 6).filterMap (dueProgram m s) := rfl

/-- The marks of some of today's positions are set. -/
def markAll (today : Nat) (is : List Nat) (v : Vector Bool 48) : Vector Bool 48 :=
  is.foldl (fun v i => v.setIfInBounds (6 * today + i) true) v

theorem markAll_get (today : Nat) (is : List Nat) (v : Vector Bool 48) (k : Fin 48) :
    (markAll today is v)[k] = true ↔ v[k] = true ∨ ∃ i ∈ is, 6 * today + i = k.val := by
  induction is generalizing v with
  | nil => simp [markAll]
  | cons i is ih =>
    rw [show markAll today (i :: is) v = markAll today is (v.setIfInBounds (6 * today + i) true) from rfl, ih]
    have hset : (v.setIfInBounds (6 * today + i) true)[k] = true ↔ v[k] = true ∨ 6 * today + i = k.val := by
      rw [Fin.getElem_fin, Vector.getElem_setIfInBounds]
      split
      · next h => simp [h]
      · next h => simp [h]
    rw [hset, List.exists_mem_cons_iff, or_assoc]

/-- One entry: nothing where it is not due, else its mark and a start request. -/
theorem fireEntry_eq (m i : Nat) (s : State) : fireEntry m i s = (match dueProgram m s i with
    | none => s
    | some p => { s with
        clock := { s.clock with fired := s.clock.fired.setIfInBounds (6 * s.clock.today + i) true }
        seg := (startRequest s.env p s.seg).2 }) := by
  unfold fireEntry dueProgram
  cases s.env.planEntry s.clock.today i with
  | none => rfl
  | some y =>
    dsimp only
    split <;> rfl

/-- A mark at another position does not change whether an entry is due. -/
theorem dueProgram_marked (m i j : Nat) (s : State) (g : Segment) (h : j ≠ i) : dueProgram m { s with
    clock := { s.clock with fired := s.clock.fired.setIfInBounds (6 * s.clock.today + i) true }, seg := g } j = dueProgram m s j := by
  have hget : (s.clock.fired.setIfInBounds (6 * s.clock.today + i) true)[6 * s.clock.today + j]? = s.clock.fired[6 * s.clock.today + j]? :=
    Vector.getElem?_setIfInBounds_ne (by omega)
  unfold dueProgram
  show (match s.env.planEntry s.clock.today j with | some y => _ | none => _) = _
  cases s.env.planEntry s.clock.today j with
  | none => rfl
  | some y => exact congrArg (fun z => if y.minute = m ∧ z = some false then some y.program else none) hget

/-- Some entries of a minute: the due ones are marked, and their requests handed in plan order. -/
theorem fireEntries_eq (m : Nat) (is : List Nat) (hd : is.Nodup) (s : State) :
    is.foldl (fun s i => fireEntry m i s) s = { s with
      clock := { s.clock with fired := markAll s.clock.today (is.filter (fun i => (dueProgram m s i).isSome)) s.clock.fired }
      seg := (is.filterMap (dueProgram m s)).foldl (fun g p => (startRequest s.env p g).2) s.seg } := by
  induction is generalizing s with
  | nil => rfl
  | cons i is ih =>
    obtain ⟨hi, hd⟩ := List.nodup_cons.mp hd
    rw [List.foldl_cons, ih hd, fireEntry_eq]
    cases hp : dueProgram m s i with
    | none => simp [hp]
    | some p =>
      have hne : ∀ j ∈ is, j ≠ i := fun j hj e => hi (e ▸ hj)
      have hsame : ∀ j ∈ is, dueProgram m { s with
          clock := { s.clock with fired := s.clock.fired.setIfInBounds (6 * s.clock.today + i) true }
          seg := (startRequest s.env p s.seg).2 } j = dueProgram m s j := fun j hj => dueProgram_marked m i j s _ (hne j hj)
      have hfilter := List.filter_congr fun j hj => congrArg Option.isSome (hsame j hj)
      have hprograms := List.filterMap_congr hsame
      dsimp only
      rw [hfilter, hprograms, List.filterMap_cons_some hp, List.filter_cons_of_pos (by simp [hp])]
      rfl

/-- The entries of a minute, all six positions. -/
theorem fireMinute_eq (m : Nat) (s : State) : fireMinute m s = settled { s with
    clock := { s.clock with fired := markAll s.clock.today ((List.range 6).filter (fun i => (dueProgram m s i).isSome)) s.clock.fired }
    seg := (duePrograms m s).foldl (fun g p => (startRequest s.env p g).2) s.seg } :=
  congrArg settled (fireEntries_eq m _ List.nodup_range s)

theorem fireMinute_seg (m : Nat) (s : State) : (fireMinute m s).seg = settle (fireMinute m s).env
    ((duePrograms m s).foldl (fun g p => (startRequest s.env p g).2) s.seg) := by
  rw [fireMinute_eq]
  rfl

/-- After the entries of a minute a mark is set that was, or whose entry stands in today's plan at that minute. -/
theorem fireMinute_fired (m : Nat) (s : State) (k : Fin 48) : (fireMinute m s).clock.fired[k] = true ↔
    s.clock.fired[k] = true ∨ (k.val / 6 = s.clock.today ∧ ∃ y, s.env.planEntry (k.val / 6) (k.val % 6) = some y ∧ y.minute = m) := by
  rw [fireMinute_eq, settled_clock]
  refine (markAll_get ..).trans ⟨?_, ?_⟩
  · rintro (h | ⟨i, hi, hk⟩)
    · exact .inl h
    · obtain ⟨hi6, hdue⟩ := List.mem_filter.mp hi
      have hlt : i < 6 := List.mem_range.mp hi6
      have htoday : k.val / 6 = s.clock.today := by omega
      obtain rfl : k.val % 6 = i := by omega
      refine .inr ⟨htoday, ?_⟩
      unfold dueProgram at hdue
      rw [← htoday] at hdue
      cases hy : s.env.planEntry (k.val / 6) (k.val % 6) with
      | none => simp [hy] at hdue
      | some y =>
        simp only [hy, Option.isSome_ite] at hdue
        exact ⟨y, rfl, hdue.1⟩
  · rintro (h | ⟨htoday, y, hy, hm⟩)
    · exact .inl h
    · by_cases hf : s.clock.fired[k] = true
      · exact .inl hf
      · refine .inr ⟨k.val % 6, List.mem_filter.mpr ⟨List.mem_range.mpr (by omega), ?_⟩, by omega⟩
        have hix : 6 * s.clock.today + k.val % 6 = k.val := by omega
        unfold dueProgram
        rw [← htoday, hy]
        simp only [htoday, hix, getElem?_fin, hm, Bool.not_eq_true _ ▸ hf, and_self, if_true, Option.isSome_some]

/-! ## The boundary -/

theorem tellMinute_env (m : Nat) (s : State) : (tellMinute m s).env = s.env := by
  simp [State.env]

/-- The order of expiry and start (log 17). -/
theorem boundary_eq (s : State) : boundary s =
    if Config.expiryFirst s.seg.free then
      fireMinute s.clock.minute (tellMinute s.clock.minute { s with seg := { s.seg with free := s.seg.free + 1 } })
    else tellMinute s.clock.minute (fireMinute s.clock.minute { s with seg := { s.seg with free := s.seg.free + 1 } }) := rfl

/-- In either order the marks of a minute are those of its entries. -/
theorem minute_fired (m : Nat) (first : Bool) (s : State) (k : Fin 48) :
    (if first then fireMinute m (tellMinute m s) else tellMinute m (fireMinute m s)).clock.fired[k] = true ↔
    s.clock.fired[k] = true ∨ (k.val / 6 = s.clock.today ∧ ∃ y, s.env.planEntry (k.val / 6) (k.val % 6) = some y ∧ y.minute = m) := by
  cases first with
  | true =>
    have h := fireMinute_fired m (tellMinute m s) k
    rw [tellMinute_clock, tellMinute_env] at h
    rw [if_pos rfl]
    exact h
  | false =>
    rw [if_neg Bool.false_ne_true, tellMinute_clock]
    exact fireMinute_fired m s k

theorem boundary_fired (s : State) (k : Fin 48) : (boundary s).clock.fired[k] = true ↔
    s.clock.fired[k] = true ∨ (k.val / 6 = s.clock.today
      ∧ ∃ y, s.env.planEntry (k.val / 6) (k.val % 6) = some y ∧ y.minute = s.clock.minute) :=
  minute_fired s.clock.minute (Config.expiryFirst s.seg.free) { s with seg := { s.seg with free := s.seg.free + 1 } } k

/-- The minute of a known second (R16). -/
theorem minute_atSecond (t : Nat) (s : State) : (s.atSecond t).clock.minute = t / 60 := rfl

/-- The marks that a second leaves: midnight clears them, and a boundary sets those of its minute (R24, R27, R28). -/
theorem secondPasses_fired {s : State} {c : Nat} (h : s.clock.second = some c) (k : Fin 48) :
    (secondPasses s).clock.fired[k] = true ↔
      ((c + 1) % 86400 ≠ 0 ∧ s.clock.fired[k] = true)
      ∨ ((c + 1) % 86400 % 60 = 0 ∧ k.val / 6 = (if (c + 1) % 86400 = 0 then s.clock.tomorrow else s.clock.today)
        ∧ ∃ y, s.env.planEntry (k.val / 6) (k.val % 6) = some y ∧ y.minute = (c + 1) % 86400 / 60) := by
  unfold secondPasses
  rw [h]
  dsimp only [Config.daySeconds]
  by_cases h0 : (c + 1) % 86400 = 0
  · rw [if_pos h0, if_pos (by rw [h0])]
    refine (boundary_fired _ k).trans ?_
    have hclear : (rollover (s.atSecond ((c + 1) % 86400))).clock.fired[k] = false := by
      rw [rollover_clock]
      simp
    rw [hclear, h0]
    simp only [Bool.false_eq_true, false_or, ne_eq, not_true_eq_false, false_and, if_true, true_and]
    rfl
  · rw [if_neg h0]
    by_cases h60 : (c + 1) % 86400 % 60 = 0
    · rw [if_pos h60]
      refine (boundary_fired _ k).trans ?_
      simp only [ne_eq, h0, not_false_eq_true, true_and, h60, if_false]
      rfl
    · rw [if_neg h60]
      simp only [ne_eq, h0, not_false_eq_true, true_and, h60, false_and, or_false]
      rfl

/-! ## What a run of due steps leaves -/

/-- The run of program p that started at minute m is active, or has run and none is active; no program waits. -/
def RunsOrRan (p : Fin 8) (m : Nat) (q : Sequencer) : Prop :=
  q.queue = [] ∧ ((∃ r, q.run = some r ∧ r.program = p ∧ r.startMinute = m)
    ∨ (q.run = none ∧ ∃ y, q.summary = some y ∧ y.program = p ∧ y.ending = .completed ∧ y.startMinute = m))

theorem RunsOrRan.sameRun {p : Fin 8} {m : Nat} {a b : Sequencer} (h : RunsOrRan p m a) (k : SameRun a b) : RunsOrRan p m b := by
  have hq : b.queue = a.queue := by rw [k.rest]
  have hs : b.summary = a.summary := by rw [k.rest]
  refine ⟨hq.trans h.1, ?_⟩
  rcases h.2 with ⟨r, hr, hp, hm⟩ | ⟨hn, y⟩
  · obtain ⟨r', hr', hp', hm', -⟩ := k.runs r hr
    exact .inl ⟨r', hr', hp'.trans hp, hm'.trans hm⟩
  · exact .inr ⟨k.idle hn, hs ▸ y⟩

theorem SameRun.setRun {a : Sequencer} {r r' : Run} (hr : a.run = some r) (hp : r'.program = r.program)
    (hm : r'.startMinute = r.startMinute) (hl : r'.steps.length = r.steps.length) : SameRun a { a with run := some r' } :=
  ⟨rfl, fun hn => absurd (hn ▸ hr) (by simp), fun r0 hr0 => by
    obtain rfl : r = r0 := Option.some.inj (hr.symm.trans hr0)
    exact ⟨r', rfl, hp, hm, hl⟩⟩

theorem SameRun.mapRun {a : Sequencer} {f : Run → Run} (hf : ∀ r, (f r).program = r.program ∧ (f r).startMinute = r.startMinute
    ∧ (f r).steps.length = r.steps.length) : SameRun a { a with run := a.run.map f } :=
  ⟨rfl, fun hn => by simp [hn], fun r hr => ⟨f r, by simp [hr], hf r⟩⟩

theorem classify_sameRun {e : Env} {p : Fin 8} {k : Nat} {d : DoorNo} {a : Sequencer} {g : Segment} (h : SameRun a g.seqr) :
    SameRun a (classify e p k d g).seqr := by
  have I := sameRunWork e a
  unfold classify; dsimp only
  split
  · exact I.outcome trivial h
  · split
    · exact I.targetSet trivial h
    · split
      · exact I.outcome trivial h
      · split
        · exact I.outcome trivial h
        · split
          · split
            · exact h.trans (.mapRun fun r => by simp)
            · exact I.targetSet trivial h
          · exact I.targetSet trivial h

theorem judgeAll_same (e : Env) (r : Run) : (r.judgeAll e).program = r.program ∧ (r.judgeAll e).startMinute = r.startMinute
    ∧ (r.judgeAll e).steps.length = r.steps.length :=
  ⟨r.judgeAll_program e, (r.judgeAll_startMinute_length e).1, (r.judgeAll_startMinute_length e).2⟩

theorem reachBase_same (e : Env) (k : Nat) (r : Run) : (r.reachBase e k).program = r.program
    ∧ (r.reachBase e k).startMinute = r.startMinute ∧ (r.reachBase e k).steps.length = r.steps.length :=
  ⟨rfl, rfl, r.modStep_length k _⟩

theorem beginStep_sameRun (e : Env) (k : Nat) (g : Segment) : SameRun g.seqr (beginStep e k g).seqr := by
  unfold beginStep
  split
  · exact .refl _
  · next r hr =>
    dsimp only
    refine SameRun.trans ?_ (.mapRun (judgeAll_same e))
    have begun (r' : Run) (hp : r'.program = r.program) (hm : r'.startMinute = r.startMinute) (hl : r'.steps.length = r.steps.length)
        (ds : List DoorNo) : SameRun g.seqr (forDoors ds (classify e r.program k) { g with seqr := { g.seqr with run := some r' } }).seqr :=
      EngineWork.forDoors (P := fun h => SameRun g.seqr h.seqr) (fun d _ h hh => classify_sameRun hh) (.setRun hr hp hm hl)
    split
    · refine begun _ ?_ ?_ ?_ _
      exacts [rfl, rfl, (Run.modStep_length ..).trans (Run.modStep_length ..)]
    · refine begun _ ?_ ?_ ?_ _
      exacts [rfl, rfl, Run.modStep_length ..]

theorem runDue_runsOrRan (e : Env) {p : Fin 8} {m : Nat} (n : Nat) {g : Segment} (h : RunsOrRan p m g.seqr) :
    RunsOrRan p m (runDue e n g).seqr := by
  induction n generalizing g with
  | zero => exact h
  | succ n ih =>
    unfold runDue
    split
    · exact h
    · next r hr =>
      split
      · exact ih (h.sameRun (beginStep_sameRun e _ g))
      · split
        · refine ih ?_
          obtain ⟨hq, ⟨r', hr', hp, hm⟩ | ⟨hn, -⟩⟩ := h
          · obtain rfl : r = r' := Option.some.inj (hr.symm.trans hr')
            rw [completeRun]
            simp only [hq]
            exact ⟨rfl, .inr ⟨rfl, _, rfl, hp, rfl, hm⟩⟩
          · exact absurd (hn ▸ hr) (by simp)
        · exact h

/-! ## A minute that nothing expires at -/

theorem expireAt_none {e : Env} {m : Nat} {g : Segment} (h : ∀ x ∈ g.exemptions, ¬(x.dayCount = 0 ∧ x.expiry ≤ m)) : expireAt e m g = g := by
  have hnone : g.exemptions.filter (fun x => x.dayCount == 0 && decide (x.expiry ≤ m)) = [] := by
    simpa [List.filter_eq_nil_iff] using h
  rw [expireAt, hnone]
  rfl

end Sys2Proof.Machine
end

section
/-! The tick of the clock (R18, R22, R24, R26 to R28). -/

namespace Sys2Proof.Machine

section
variable {e : Env} {s : State} {g : Segment}

/-! ## Exemptions and the run -/

theorem expireAt_sameRun (e : Env) (m : Nat) (g : Segment) : SameRun g.seqr (expireAt e m g).seqr :=
  (sameRunWork e g.seqr).removeAll (fun _ => trivial) id (SameRun.refl g.seqr)

theorem rolloverExemptions_sameRun (e : Env) (g : Segment) : SameRun g.seqr (rolloverExemptions e g).seqr :=
  (sameRunWork e g.seqr).removeAll (fun _ => trivial) id (SameRun.refl g.seqr)

/-- Removing an entry, its members written out (R161). -/
theorem removeExemption_eq (e : Env) (k : Fin 16) (g : Segment) : removeExemption e k g =
    match g.exemptions.find? (fun y => y.group == k) with
    | none => g
    | some y => (groupMembers e k).foldl (fun g d =>
        match effectiveExemption g.exemptions (e.doorEntry d) with
        | none => (match expectedPosture e g.exemptions d with
          | some p => targetSet e d p e.catchUp none g
          | none => g)
        | some keep => if keep = y.keep then g else targetSet e d keep e.catchUp none g)
        { g with exemptions := g.exemptions.filter (fun z => z.group != k) } := by
  unfold removeExemption
  cases g.exemptions.find? (fun y => y.group == k) <;> rfl

/-! ## A minute with no run -/

theorem tellMinute_idle {m : Nat} (h : s.seg.seqr.run = none) : (tellMinute m s).seg = expireAt s.env m s.seg := by
  rw [tellMinute_seg]
  exact settle_of_no_run _ _ ((expireAt_sameRun _ _ _).idle h)

theorem tellMinute_run {m : Nat} (h : s.seg.seqr.run = none) : (tellMinute m s).seg.seqr.run = none := by
  rw [tellMinute_idle h]
  exact (expireAt_sameRun _ _ _).idle h

theorem rollover_run (h : s.seg.seqr.run = none) : (rollover s).seg.seqr.run = none := by
  have hrun : (rolloverExemptions (rollover s).env s.seg).seqr.run = none := (rolloverExemptions_sameRun _ _).idle h
  show (settle (rollover s).env (rolloverExemptions (rollover s).env s.seg)).seqr.run = none
  rw [settle_of_no_run _ _ hrun]
  exact hrun

theorem tellMinute_quiet {m : Nat} (hr : s.seg.seqr.run = none) (h : ∀ x ∈ s.seg.exemptions, ¬(x.dayCount = 0 ∧ x.expiry ≤ m)) :
    (tellMinute m s).seg = s.seg := by
  rw [tellMinute_idle hr, expireAt_none h]

theorem fireMinute_none_due {m : Nat} (hr : s.seg.seqr.run = none) (h : duePrograms m s = []) : fireMinute m s = s := by
  have hfilter : (List.range 6).filter (fun i => (dueProgram m s i).isSome) = [] := by
    rw [List.filter_eq_nil_iff]
    intro i hi
    rw [duePrograms_eq, List.filterMap_eq_nil_iff] at h
    simp [h i hi]
  rw [fireMinute_eq, hfilter, h]
  exact settled_of_no_run s hr

/-- A boundary that fires nothing tells the exemption table the minute, and that is all. -/
theorem boundary_none_due (hr : s.seg.seqr.run = none) (h : duePrograms s.clock.minute s = []) :
    boundary s = tellMinute s.clock.minute { s with seg := { s.seg with free := s.seg.free + 1 } } := by
  have told := tellMinute_run (m := s.clock.minute) (s := { s with seg := { s.seg with free := s.seg.free + 1 } }) hr
  have hdue : duePrograms s.clock.minute (tellMinute s.clock.minute { s with seg := { s.seg with free := s.seg.free + 1 } }) = [] := by
    rw [← h, duePrograms, duePrograms, tellMinute_env, tellMinute_clock]
    rfl
  rw [boundary_eq]
  split
  · exact fireMinute_none_due told hdue
  · exact congrArg (tellMinute s.clock.minute) (fireMinute_none_due (s := { s with seg := { s.seg with free := s.seg.free + 1 } }) hr h)

/-! ## A second, case by case -/

theorem secondPasses_between {c : Nat} (h : s.clock.second = some c) (hc : c < 86400) (h60 : (c + 1) % 60 ≠ 0) :
    secondPasses s = s.atSecond (c + 1) := by
  have hmod : (c + 1) % 86400 = c + 1 := Nat.mod_eq_of_lt (by omega)
  rw [secondPasses, h]
  dsimp only [Config.daySeconds]
  rw [hmod, if_neg (Nat.succ_ne_zero c), if_neg h60]

theorem secondPasses_minute {c : Nat} (h : s.clock.second = some c) (hc : c < 86399) (h60 : (c + 1) % 60 = 0) :
    secondPasses s = boundary (s.atSecond (c + 1)) := by
  have hmod : (c + 1) % 86400 = c + 1 := Nat.mod_eq_of_lt (by omega)
  rw [secondPasses, h]
  dsimp only [Config.daySeconds]
  rw [hmod, if_neg (Nat.succ_ne_zero c), if_pos h60]

theorem secondPasses_midnight (h : s.clock.second = some 86399) : secondPasses s = boundary (rollover (s.atSecond 0)) := by
  rw [secondPasses, h]
  rfl

theorem secondPasses_clock_day {c : Nat} (h : s.clock.second = some c) (hc : (c + 1) % 86400 ≠ 0) : (secondPasses s).clock =
    { s.clock with second := some ((c + 1) % 86400), fired := (secondPasses s).clock.fired } := by
  have hclock := secondPasses_clock h
  rw [if_neg (show ¬(c + 1) % Config.daySeconds = 0 from hc)] at hclock
  exact hclock.eq

theorem secondPasses_clock_midnight {c : Nat} (h : s.clock.second = some c) (hc : (c + 1) % 86400 = 0) : (secondPasses s).clock =
    { s.clock with second := some 0, yesterday := s.clock.today, today := s.clock.tomorrow, tomorrow := 7
                   fired := (secondPasses s).clock.fired } := by
  have hclock := secondPasses_clock h
  rw [if_pos (show (c + 1) % Config.daySeconds = 0 from hc)] at hclock
  exact hclock.eq

theorem planEntry_of_work {e e' : Env} (h : e'.work = e.work) : e'.planEntry = e.planEntry := by
  funext t i
  rw [Env.planEntry, Env.planEntry, h]

/-! ## The single program of a minute -/

theorem startRequest_seqr_of_dropped {p : Fin 8} {y : DropReason} (h : dropReason e p g = some y) (hr : g.seqr.run = none) :
    (startRequest e p g).2.seqr.run = none ∧ (startRequest e p g).2.seqr.dropped = some ⟨p, y, e.minute⟩ := by
  rw [startRequest_dropped h, dropRequest]
  dsimp only
  split <;> exact ⟨hr, rfl⟩

theorem startRequest_runs {p : Fin 8} (h : dropReason e p g = none) (hr : g.seqr.run = none) (hq : g.seqr.queue = []) :
    RunsOrRan p e.minute (startRequest e p g).2.seqr := by
  rw [startRequest_started h hr]
  exact ⟨hq, .inl ⟨newRun e p, rfl, rfl, rfl⟩⟩

/-- What R138 makes of the request of program p at minute m, where no run was active and no program waited. -/
def Requested (e : Env) (p : Fin 8) (m : Nat) (g h : Segment) : Prop :=
  (∀ y, dropReason e p g = some y → h.seqr.run = none ∧ h.seqr.dropped = some ⟨p, y, m⟩)
  ∧ (dropReason e p g = none → RunsOrRan p m h.seqr)

theorem Requested.settle {e e' : Env} {p : Fin 8} {m : Nat} {g h : Segment} (k : Requested e p m g h) :
    Requested e p m g (settle e' h) := by
  refine ⟨fun y hy => ?_, fun hn => runDue_runsOrRan e' 64 (k.2 hn)⟩
  obtain ⟨hr, hd⟩ := k.1 y hy
  rw [settle_of_no_run e' h hr]
  exact ⟨hr, hd⟩

theorem startRequest_requested {p : Fin 8} (hr : g.seqr.run = none) (hq : g.seqr.queue = []) :
    Requested e p e.minute g (startRequest e p g).2 :=
  ⟨fun _ hy => startRequest_seqr_of_dropped hy hr, fun hn => startRequest_runs hn hr hq⟩

theorem fireMinute_requested {p : Fin 8} (hr : s.seg.seqr.run = none) (hq : s.seg.seqr.queue = [])
    (hp : duePrograms s.clock.minute s = [p]) : Requested s.env p s.clock.minute s.seg (fireMinute s.clock.minute s).seg := by
  rw [fireMinute_seg, hp]
  exact (startRequest_requested hr hq).settle

theorem fireMinute_exemptions (m : Nat) (s : State) : (fireMinute m s).seg.exemptions = s.seg.exemptions := by
  have fold : ∀ (ps : List (Fin 8)) (g : Segment), KeepsSides g (ps.foldl (fun g p => (startRequest s.env p g).2) g) := by
    intro ps
    induction ps with
    | nil => exact .refl
    | cons p ps ih => exact fun g => (startRequest_sides s.env p g).trans (ih _)
  rw [fireMinute_seg]
  exact ((fold _ s.seg).trans (settle_sides _ _)).exemptions

/-- A minute at which nothing expires and one program is due, in either order. -/
theorem minute_requested {p : Fin 8} (first : Bool) (hr : s.seg.seqr.run = none) (hq : s.seg.seqr.queue = [])
    (hx : ∀ x ∈ s.seg.exemptions, ¬(x.dayCount = 0 ∧ x.expiry ≤ s.clock.minute)) (hp : duePrograms s.clock.minute s = [p]) :
    Requested s.env p s.clock.minute s.seg (if first then fireMinute s.clock.minute (tellMinute s.clock.minute s)
      else tellMinute s.clock.minute (fireMinute s.clock.minute s)).seg := by
  have fired := fireMinute_requested hr hq hp
  cases first with
  | true =>
    have told : tellMinute s.clock.minute s = s := congrArg (fun g => { s with seg := g }) (tellMinute_quiet hr hx)
    rw [if_pos rfl, told]
    exact fired
  | false =>
    rw [if_neg Bool.false_ne_true, tellMinute_seg, expireAt_none (by rw [fireMinute_exemptions]; exact hx)]
    exact fired.settle

theorem boundary_requested {p : Fin 8} (hr : s.seg.seqr.run = none) (hq : s.seg.seqr.queue = [])
    (hx : ∀ x ∈ s.seg.exemptions, ¬(x.dayCount = 0 ∧ x.expiry ≤ s.clock.minute)) (hp : duePrograms s.clock.minute s = [p]) :
    Requested s.env p s.clock.minute s.seg (boundary s).seg :=
  minute_requested (s := { s with seg := { s.seg with free := s.seg.free + 1 } }) (Config.expiryFirst s.seg.free) hr hq hx hp

end

theorem tick_eq (s : State) : tick s = settled (secondPasses (restartPhase s)) := rfl

/-- Settles O41: a tick right behind a header's change is not taken; else a second passes, whose clock, marks and boundary are as the
lemmas above have them. -/
theorem clockTickAdvances : Obligations.ClockTickAdvances := by
  intro s
  have taken (hp : s.power ≠ .resetHeld) (hj : s.clock.justSet = false) : exec .clockTick s = .next (tick s) :=
    congrArg Host.Outcome.next ((unlessHeld_eq _ s hp).trans (tickArrives_else s hj))
  refine ⟨fun hp => congrArg Host.Outcome.next (unlessHeld_held _ s hp),
    fun hp hj => congrArg Host.Outcome.next ((unlessHeld_eq _ s hp).trans (tickArrives_due s hj)),
    fun hp hj hn => ?_, fun hp hj c hc hlt => ⟨tick s, taken hp hj, ?_⟩, fun m => fireMinute_seg m s, ?_, fun hp hj hr c hc => ?_⟩
  · rw [taken hp hj, tick_eq, secondPasses_of_unknown (s := restartPhase s) hn]
    rfl
  · have hclock := (secondPasses_clock (s := restartPhase s) hc).eq
    have hfired := secondPasses_fired (s := restartPhase s) hc
    have hplan : (tick s).env.planEntry = s.env.planEntry := planEntry_of_work (tick_side s).work
    have hmod : (c + 1) % 86400 = 0 ↔ c = 86399 := by omega
    have hday : c ≠ 86399 ↔ (c + 1) % 86400 ≠ 0 := not_congr hmod.symm
    have hsecond : (tick s).clock.second = some ((c + 1) % 86400) ∧ (tick s).clock.phase = 0 ∧ (tick s).clock.justSet = false
        ∧ (tick s).clock.lastSite = s.clock.lastSite
        ∧ (c ≠ 86399 → (tick s).clock.today = s.clock.today ∧ (tick s).clock.tomorrow = s.clock.tomorrow
            ∧ (tick s).clock.yesterday = s.clock.yesterday)
        ∧ (c = 86399 → (tick s).clock.today = s.clock.tomorrow ∧ (tick s).clock.tomorrow = 7
            ∧ (tick s).clock.yesterday = s.clock.today) := by
      rw [tick_eq, settled_clock]
      by_cases h0 : c = 86399
      · rw [secondPasses_clock_midnight (s := restartPhase s) hc (hmod.mpr h0)]
        exact ⟨by rw [hmod.mpr h0], rfl, hj, rfl, fun h => absurd h0 h, fun _ => ⟨rfl, rfl, rfl⟩⟩
      · rw [secondPasses_clock_day (s := restartPhase s) hc (hday.mp h0)]
        exact ⟨rfl, rfl, hj, rfl, fun _ => ⟨rfl, rfl, rfl⟩, fun h => absurd h h0⟩
    obtain ⟨hsec, hphase, hjust, hsite, hsame, hmidnight⟩ := hsecond
    have htoday : (tick s).clock.today = if (c + 1) % 86400 = 0 then s.clock.tomorrow else s.clock.today := by
      split
      · next h => exact (hmidnight (hmod.mp h)).1
      · next h => exact (hsame (mt hmod.mpr h)).1
    have h60 : (c + 1) % 86400 % 60 = (c + 1) % 60 := by omega
    have marks (i : Fin 48) : (tick s).clock.fired[i] = true ↔ (c ≠ 86399 ∧ s.clock.fired[i] = true)
        ∨ ((c + 1) % 60 = 0 ∧ i.val / 6 = (tick s).clock.today
          ∧ ∃ y, s.env.planEntry (i.val / 6) (i.val % 6) = some y ∧ y.minute = (c + 1) % 86400 / 60) := by
      rw [htoday, ← h60, hday]
      exact hfired i
    refine ⟨hsec, hphase, hjust, hsite, hsame, hmidnight, fun h => ?_, fun i hi => ?_, fun h i hi => (marks i).mpr (.inl ⟨h, hi⟩),
      fun i hm ht y hy hmin => (marks i).mpr (.inr ⟨hm, ht, y, hplan ▸ hy, hmin⟩), (tick_side s).power, (tick_side s).trunk,
      ⟨(tick_side s).work, (tick_side s).stored, (tick_side s).store⟩, ?_⟩
    · rw [tick_eq, secondPasses_between (s := restartPhase s) hc hlt h]
      rfl
    · rw [hplan]
      exact ((marks i).mp hi).imp (fun h => ⟨h.2, h.1⟩) id
    · intro m hne hm hr hq hx p hp
      have hmin : (c + 1) / 60 = m := rfl
      have h : Requested s.env p m s.seg (tick s).seg := by
        rw [tick_eq, secondPasses_minute (s := restartPhase s) hc (by omega) hm]
        exact (boundary_requested (s := (restartPhase s).atSecond (c + 1)) hr hq hx hp).settle
      refine ⟨h.1, fun hn => ?_⟩
      obtain ⟨-, hrun | hran⟩ := h.2 hn
      · exact .inl hrun
      · exact .inr hran
  · have fold (e : Env) (ks : List (Fin 16)) (g : Segment) := congrArg (fun f => ks.foldl f g)
      (funext fun g => funext fun k => removeExemption_eq e k g)
    refine ⟨fun m => ?_, ?_⟩
    · exact congrArg (fun g => { s with seg := settle s.env g }) (fold s.env _ s.seg)
    · exact congrArg (fun g => { s with
        clock := { s.clock with yesterday := s.clock.today, today := s.clock.tomorrow, tomorrow := 7, fired := .replicate 48 false }
        seg := settle (rollover s).env g }) (fold (rollover s).env _ _)
  · have settledRun (z : State) (hz : z.seg.seqr.run = none) (n : Nat) :
        (settled (tellMinute n { z with seg := { z.seg with free := z.seg.free + 1 } })).seg
          = (tellMinute n { z with seg := { z.seg with free := z.seg.free + 1 } }).seg :=
      congrArg State.seg (settled_of_no_run _ (tellMinute_run (s := { z with seg := { z.seg with free := z.seg.free + 1 } }) hz))
    refine ⟨fun hlt hm hdue => ⟨tick s, taken hp hj, ?_⟩, fun hmid hplan => ⟨tick s, taken hp hj, ?_⟩⟩
    · rw [tick_eq, secondPasses_minute (s := restartPhase s) hc hlt hm,
        boundary_none_due (s := (restartPhase s).atSecond (c + 1)) hr hdue]
      exact settledRun ((restartPhase s).atSecond (c + 1)) hr _
    · subst hmid
      have hrun : (rollover ((restartPhase s).atSecond 0)).seg.seqr.run = none := rollover_run hr
      have hdue : duePrograms 0 (rollover ((restartPhase s).atSecond 0)) = [] := by
        rw [duePrograms_eq, List.filterMap_eq_nil_iff]
        intro i hi
        unfold dueProgram
        split
        · next y hy => exact if_neg fun h => hplan i y (List.mem_range.mp hi) hy h.1
        · rfl
      rw [tick_eq, secondPasses_midnight (s := restartPhase s) hc, boundary_none_due hrun hdue]
      exact settledRun _ hrun _

end Sys2Proof.Machine
end

section
/-! A valid header at the segment clock and at the fire release unit (R3, R25, R164). -/

namespace Sys2Proof.Machine

/-! ## The fire release unit through the clock -/

theorem expireAt_fire (e : Env) (m : Nat) (g : Segment) : (expireAt e m g).fire = g.fire :=
  (fireWork e g.fire).removeAll (fun _ => trivial) id rfl

theorem rolloverExemptions_fire (e : Env) (g : Segment) : (rolloverExemptions e g).fire = g.fire :=
  (fireWork e g.fire).removeAll (fun _ => trivial) id rfl

theorem tellMinute_fire (m : Nat) (s : State) : (tellMinute m s).seg.fire = s.seg.fire := by
  rw [tellMinute_seg]
  exact (settle_sides _ _).fire.trans (expireAt_fire ..)

theorem rollover_fire (s : State) : (rollover s).seg.fire = s.seg.fire :=
  (settle_sides (rollover s).env (rolloverExemptions (rollover s).env s.seg)).fire.trans (rolloverExemptions_fire ..)

theorem fireMinute_fire (m : Nat) (s : State) : (fireMinute m s).seg.fire = s.seg.fire := by
  have fold : ∀ (ps : List (Fin 8)) (g : Segment), KeepsSides g (ps.foldl (fun g p => (startRequest s.env p g).2) g) := by
    intro ps
    induction ps with
    | nil => exact .refl
    | cons p ps ih => exact fun g => (startRequest_sides s.env p g).trans (ih _)
  rw [fireMinute_seg]
  exact ((fold _ s.seg).trans (settle_sides _ _)).fire

theorem boundary_fire (s : State) : (boundary s).seg.fire = s.seg.fire := by
  rw [boundary_eq]
  split
  · rw [fireMinute_fire, tellMinute_fire]
  · rw [tellMinute_fire, fireMinute_fire]

theorem secondPasses_fire (s : State) : (secondPasses s).seg.fire = s.seg.fire := by
  unfold secondPasses
  split
  · rfl
  · dsimp only
    split <;> split
    · rw [boundary_fire, rollover_fire]; rfl
    · rw [boundary_fire]; rfl
    · rw [rollover_fire]; rfl
    · rfl

theorem secondsPass_fire (n : Nat) (s : State) : (secondsPass n s).seg.fire = s.seg.fire := by
  induction n generalizing s with
  | zero => rfl
  | succ n ih => exact (ih _).trans (secondPasses_fire s)

theorem clockStep_fire (d : Int) (c : Nat) (h : Header) (s : State) : (clockStep d c h s).seg.fire = s.seg.fire := by
  have set : (if d = 0 then restartPhase (s.atSecond h.second) else headerRestarts (s.atSecond h.second)).seg.fire = s.seg.fire := by
    split <;> rfl
  unfold clockStep
  dsimp only
  rw [tellMinute_fire]
  split
  · exact (rollover_fire _).trans set
  · exact set

theorem trackingHeader_fire (h : Header) (s : State) : (trackingHeader h s).seg.fire = s.seg.fire := by
  unfold trackingHeader
  dsimp only
  split
  · rw [firstTracking, initialApplication_seg]
    exact (settle_sides _ _).fire.trans (Kept.refl s.seg).tryInitial.fire
  · split
    · rfl
    · rfl
    · exact secondsPass_fire _ _
    · exact clockStep_fire _ _ _ _

/-! ## The last site command -/

theorem secondPasses_lastSite (s : State) : (secondPasses s).clock.lastSite = s.clock.lastSite := by
  cases h : s.clock.second with
  | none => rw [secondPasses_of_unknown h]
  | some t =>
    by_cases h0 : (t + 1) % 86400 = 0
    · rw [secondPasses_clock_midnight h h0]
    · rw [secondPasses_clock_day h h0]

theorem secondsPass_lastSite (n : Nat) (s : State) : (secondsPass n s).clock.lastSite = s.clock.lastSite := by
  induction n generalizing s with
  | zero => rfl
  | succ n ih => exact (ih _).trans (secondPasses_lastSite s)

/-- A TRACKING header gives the last site command, however it stands to the clock (R25). -/
theorem trackingHeader_lastSite (h : Header) (s : State) : (trackingHeader h s).clock.lastSite = h.site := by
  unfold trackingHeader
  dsimp only
  split
  · rfl
  · split
    · rfl
    · rfl
    · exact secondsPass_lastSite _ _
    · unfold clockStep
      dsimp only
      rw [tellMinute_clock]
      split <;> split <;> rfl

/-! ## The fire release unit's own step (R164) -/

theorem fireRun_fire (e : Env) (g : Segment) : (fireRun e g).fire = g.fire := rfl

theorem setLatchFlag_fire (e : Env) (cause : LatchCause) (g : Segment) :
    (setLatchFlag e cause g).fire = { g.fire with latch := true, cause := some cause } := rfl

/-- The setting of the latch, at the fire release unit's record (R164, R165). -/
theorem setLatch_fire (e : Env) (cause : LatchCause) (g : Segment) :
    (setLatch e cause g).fire = if g.fire.latch then g.fire else { g.fire with latch := true, cause := some cause } := by
  unfold setLatch
  split
  · rfl
  · have cancelled := (Kept.refl (setLatchFlag e cause g)).forDoors (ds := allDoors) (f := cancelPulse e) fun _ _ h => h.cancelPulse
    have acted := (Kept.refl (fireRun e (forDoors allDoors (cancelPulse e) (setLatchFlag e cause g)))).forDoors (ds := allDoors)
      (f := fireDoor e) fun _ _ h => h.fireDoor
    rw [acted.fire, fireRun_fire, cancelled.fire, setLatchFlag_fire]

theorem fireHeader_fire (e : Env) (c : SiteCommand) (g : Segment) : (fireHeader e c g).fire =
    { g.fire with
      lastEmergency := c == .emergencyRelease
      latch := g.fire.latch || c == .emergencyRelease
      cause := if !g.fire.latch && c == .emergencyRelease then some .header else g.fire.cause } := by
  unfold fireHeader
  dsimp only
  cases hc : c == .emergencyRelease with
  | false => simp
  | true =>
    rw [if_pos rfl, setLatch_fire]
    cases g.fire.latch <;> simp

/-- Without EMERGENCY_RELEASE a header leaves the release unit's latch as it is, and touches nothing else (R164). -/
theorem fireHeader_calm (e : Env) {c : SiteCommand} (g : Segment) (hc : c ≠ .emergencyRelease) :
    fireHeader e c g = { g with fire := { g.fire with lastEmergency := false } } := by
  have hb : (c == .emergencyRelease) = false := beq_eq_false_iff_ne.mpr hc
  unfold fireHeader
  dsimp only
  rw [hb, if_neg Bool.false_ne_true]

/-! ## The valid header -/

/-- The state in which a valid header reaches the segment clock: its port as the header leaves it (R3). -/
def atHeader (r : TrunkRecord) (s : State) : State := { s with trunk := s.trunk.validHeader.holdHeader r true }

theorem validHeaderArrives_tracking {r : TrunkRecord} {s : State} (h : s.trunk.validHeader.state = .tracking) :
    validHeaderArrives r s = settled ((trackingHeader (headerOf r) (atHeader r s)).seg! fun e g => fireHeader e (headerOf r).site g) := by
  unfold validHeaderArrives
  exact congrArg (fun z => settled (State.seg! z fun e g => fireHeader e (headerOf r).site g)) (if_pos h)

theorem validHeaderArrives_untracked {r : TrunkRecord} {s : State} (h : s.trunk.validHeader.state ≠ .tracking) :
    validHeaderArrives r s = settled ((atHeader r s).seg! fun e g => fireHeader e (headerOf r).site g) := by
  unfold validHeaderArrives
  exact congrArg (fun z => settled (State.seg! z fun e g => fireHeader e (headerOf r).site g)) (if_neg h)

theorem exec_validHeader {c : Instr} {r : TrunkRecord} {s : State} (hc : c.asRecord = some r) (hi : s.trunk.inserted = true)
    (hp : s.trunk.phase = .awaitHeader) (hv : headerIsValid r = true) : exec c s = .next (validHeaderArrives r s) := by
  rw [exec_of_asRecord hc, recordArrives_header hi hp, headerArrives, if_pos hv]

theorem validHeader_state (p : TrunkPort) :
    p.validHeader.state = if p.state = .tracking ∨ 3 ≤ p.count + 1 then .tracking else p.state := by
  have hcount : min 3 (p.count + 1) = 3 ↔ 3 ≤ p.count + 1 := by omega
  show p.state.afterHeader (min 3 (p.count + 1)) = _
  cases p.state <;> simp [TrunkState.afterHeader, hcount]

theorem validHeaderArrives_tables (r : TrunkRecord) (s : State) : KeepsTables s (validHeaderArrives r s) := by
  by_cases h : s.trunk.validHeader.state = .tracking
  · rw [validHeaderArrives_tracking h]
    have side := trackingHeader_side (headerOf r) (atHeader r s)
    exact ⟨side.work, side.stored, side.store⟩
  · rw [validHeaderArrives_untracked h]
    exact ⟨rfl, rfl, rfl⟩

theorem validHeaderArrives_fire (r : TrunkRecord) (s : State) : (validHeaderArrives r s).seg.fire =
    { s.seg.fire with
      lastEmergency := siteOfCode r.b6 == .emergencyRelease
      latch := s.seg.fire.latch || siteOfCode r.b6 == .emergencyRelease
      cause := if !s.seg.fire.latch && siteOfCode r.b6 == .emergencyRelease then some .header else s.seg.fire.cause } := by
  by_cases h : s.trunk.validHeader.state = .tracking
  · rw [validHeaderArrives_tracking h]
    refine (settle_sides _ _).fire.trans ((fireHeader_fire _ _ _).trans ?_)
    rw [trackingHeader_fire]
    rfl
  · rw [validHeaderArrives_untracked h]
    exact (settle_sides _ _).fire.trans (fireHeader_fire _ _ _)

/-- Settles O15: the port and the fire release unit as a valid header leaves them, and the site command where the clock takes it. -/
theorem validHeader : Obligations.ValidHeader := by
  intro c r s hc hi hp hv
  have hstate : (validHeaderArrives r s).trunk.state = s.trunk.validHeader.state := by rw [validHeaderArrives_trunk]; rfl
  refine ⟨_, exec_validHeader hc hi hp hv, ?_, fun ht => ?_, fun ht => ?_, ?_, ?_, ?_, validHeaderArrives_power r s,
    validHeaderArrives_tables r s⟩
  · rw [validHeaderArrives_trunk, ← validHeader_state]
    rfl
  · rw [validHeaderArrives_clock, if_neg (hstate ▸ ht)]
  · rw [validHeaderArrives_clock, if_pos (hstate ▸ ht)]
    exact trackingHeader_lastSite _ _
  · rw [validHeaderArrives_fire]
  · rw [validHeaderArrives_fire]
  · rw [validHeaderArrives_fire]

end Sys2Proof.Machine
end

section
/-! A TRACKING header at the segment clock, and what a first reply teaches (R17, R19 to R22, R31, R42, R97, R98). -/

namespace Sys2Proof.Machine

/-! ## Seconds in succession (R20) -/

theorem secondsPass_succ (k : Nat) (s : State) : secondsPass (k + 1) s = secondPasses (secondsPass k s) := by
  induction k generalizing s with
  | zero => rfl
  | succ k ih => exact ih (secondPasses s)

theorem secondsPass_plan (k : Nat) (s : State) : (secondsPass k s).env.planEntry = s.env.planEntry :=
  planEntry_of_work (secondsPass_side k s).work

/-- Up to midnight the second goes on, and the marks of the minutes passed are set. -/
theorem secondsPass_before {s : State} {n : Nat} (hn : s.clock.second = some n) (k : Nat) (hk : n + k < 86400) :
    (secondsPass k s).clock = { s.clock with second := some (n + k), fired := (secondsPass k s).clock.fired }
    ∧ ∀ i : Fin 48, (secondsPass k s).clock.fired[i] = true ↔ s.clock.fired[i] = true ∨ (i.val / 6 = s.clock.today
      ∧ ∃ y, s.env.planEntry (i.val / 6) (i.val % 6) = some y ∧ n < 60 * y.minute ∧ 60 * y.minute ≤ n + k) := by
  induction k with
  | zero =>
    refine ⟨by show s.clock = _; rw [Nat.add_zero, ← hn]; rfl, fun i => ?_⟩
    refine ⟨Or.inl, fun h => h.elim id ?_⟩
    rintro ⟨-, y, -, hlt, hle⟩
    omega
  | succ k ih =>
    obtain ⟨hclock, hfired⟩ := ih (by omega)
    have hc : (secondsPass k s).clock.second = some (n + k) := by rw [hclock]
    have htoday : (secondsPass k s).clock.today = s.clock.today := by rw [hclock]
    have hmod : (n + k + 1) % 86400 = n + k + 1 := Nat.mod_eq_of_lt (by omega)
    have h0 : (n + k + 1) % 86400 ≠ 0 := by omega
    rw [secondsPass_succ]
    refine ⟨?_, fun i => ?_⟩
    · rw [secondPasses_clock_day hc h0, hmod, hclock]
      rfl
    · rw [secondPasses_fired hc i, hfired i, secondsPass_plan, if_neg h0, htoday, hmod]
      simp only [ne_eq, Nat.succ_ne_zero, not_false_eq_true, true_and]
      constructor
      · rintro ((hf | ⟨ht, y, hy, hlt, hle⟩) | ⟨hm, ht, y, hy, hmin⟩)
        · exact .inl hf
        · exact .inr ⟨ht, y, hy, hlt, by omega⟩
        · exact .inr ⟨ht, y, hy, by omega, by omega⟩
      · rintro (hf | ⟨ht, y, hy, hlt, hle⟩)
        · exact .inl (.inl hf)
        · by_cases hlast : 60 * y.minute = n + k + 1
          · exact .inr ⟨by omega, ht, y, hy, by omega⟩
          · exact .inl (.inr ⟨ht, y, hy, hlt, by omega⟩)

/-- Over midnight the day types have moved on, and the marks are those of the minutes passed since. -/
theorem secondsPass_after {s : State} {n : Nat} (hn : s.clock.second = some n) (hlt : n < 86400) (k : Nat) (hk : 86400 ≤ n + k)
    (hday : n + k < 172800) :
    (secondsPass k s).clock = { s.clock with
      second := some (n + k - 86400), yesterday := s.clock.today, today := s.clock.tomorrow, tomorrow := 7
      fired := (secondsPass k s).clock.fired }
    ∧ ∀ i : Fin 48, (secondsPass k s).clock.fired[i] = true ↔ (i.val / 6 = s.clock.tomorrow
      ∧ ∃ y, s.env.planEntry (i.val / 6) (i.val % 6) = some y ∧ 60 * y.minute + 86400 ≤ n + k) := by
  induction k with
  | zero => omega
  | succ k ih =>
    rw [secondsPass_succ]
    by_cases hmid : n + k = 86399
    · obtain ⟨hclock, -⟩ := secondsPass_before hn k (by omega)
      have hc : (secondsPass k s).clock.second = some 86399 := by rw [hclock, hmid]
      refine ⟨?_, fun i => ?_⟩
      · rw [secondPasses_clock_midnight hc rfl, hclock, show n + (k + 1) - 86400 = 0 by omega]
      · rw [secondPasses_fired hc i, secondsPass_plan, hclock]
        simp only [ne_eq, not_true_eq_false, false_and, false_or, Nat.zero_div, true_and,
          show (86399 + 1) % 86400 = 0 from rfl, if_true]
        refine and_congr_right fun _ => exists_congr fun y => and_congr_right fun _ => ?_
        omega
    · obtain ⟨hclock, hfired⟩ := ih (by omega) (by omega)
      have hc : (secondsPass k s).clock.second = some (n + k - 86400) := by rw [hclock]
      have htoday : (secondsPass k s).clock.today = s.clock.tomorrow := by rw [hclock]
      have hsucc : n + k - 86400 + 1 = n + (k + 1) - 86400 := by omega
      have hmod : (n + k - 86400 + 1) % 86400 = n + (k + 1) - 86400 := by omega
      have h0 : (n + k - 86400 + 1) % 86400 ≠ 0 := by omega
      refine ⟨?_, fun i => ?_⟩
      · rw [secondPasses_clock_day hc h0, hmod, hclock]
      · rw [secondPasses_fired hc i, hfired i, secondsPass_plan, if_neg h0, htoday, hmod]
        constructor
        · rintro (⟨-, ht, y, hy, hle⟩ | ⟨hm, ht, y, hy, hmin⟩)
          · exact ⟨ht, y, hy, by omega⟩
          · exact ⟨ht, y, hy, by omega⟩
        · rintro ⟨ht, y, hy, hle⟩
          by_cases hlast : 60 * y.minute + 86400 = n + (k + 1)
          · exact .inr ⟨by omega, ht, y, hy, by omega⟩
          · exact .inl ⟨by omega, ht, y, hy, by omega⟩

/-! ## The classes of a header (R19) -/

theorem clockDifference_bounds {h c : Nat} (hh : h < 86400) (hc : c < 86400) :
    -43199 ≤ clockDifference h c ∧ clockDifference h c ≤ 43200 ∧ (clockDifference h c = (h : Int) - c
      ∨ clockDifference h c = (h : Int) - c - 86400 ∨ clockDifference h c = (h : Int) - c + 86400) := by
  unfold clockDifference
  dsimp only
  split
  · omega
  · split <;> omega

/-- The header's site command is set first (R25, log 36). -/
def sited (h : Header) (s : State) : State := { s with clock := { s.clock with lastSite := h.site } }

theorem trackingHeader_eq (h : Header) (s : State) : trackingHeader h s =
    match (sited h s).clock.second with
    | none => firstTracking h (sited h s)
    | some c =>
      match classifyHeader h c (sited h s).clock with
      | .lagging => sited h s
      | .agreeing => setTomorrow h.tomorrow (sited h s)
      | .forward d => forwardStep d h (sited h s)
      | .step d => clockStep d c h (sited h s) := rfl

theorem trackingHeader_unknown {h : Header} {s : State} (hn : s.clock.second = none) :
    trackingHeader h s = firstTracking h (sited h s) := by
  rw [trackingHeader_eq, show (sited h s).clock.second = none from hn]

theorem trackingHeader_known {h : Header} {s : State} {n : Nat} (hn : s.clock.second = some n) : trackingHeader h s =
    match classifyHeader h n (sited h s).clock with
    | .lagging => sited h s
    | .agreeing => setTomorrow h.tomorrow (sited h s)
    | .forward d => forwardStep d h (sited h s)
    | .step d => clockStep d n h (sited h s) := by
  rw [trackingHeader_eq, show (sited h s).clock.second = some n from hn]

section
variable {h : Header} {n : Nat} {k : Clock}

theorem classify_lagging (hd : clockDifference h.second n = -1) : classifyHeader h n k = .lagging := by
  simp [classifyHeader, hd]

theorem classify_agreeing (hd : clockDifference h.second n = 0) (ht : h.today = k.today) : classifyHeader h n k = .agreeing := by
  simp [classifyHeader, hd, ht]

/-- The day type that today holds after a step, with the step as an integer. -/
theorem todayAfter_eq {d : Int} (hd : 1 ≤ d) :
    todayAfter n d.toNat k = if (n : Int) + d < 86400 then k.today else k.tomorrow := by
  have hiff : n + d.toNat < 86400 ↔ (n : Int) + d < 86400 := by omega
  unfold todayAfter
  simp only [Config.daySeconds, hiff]

theorem classify_of_ne (hm : clockDifference h.second n ≠ -1) (h0 : clockDifference h.second n ≠ 0) : classifyHeader h n k =
    if 1 ≤ clockDifference h.second n ∧ clockDifference h.second n ≤ 300 then
      if h.today = todayAfter n (clockDifference h.second n).toNat k then .forward (clockDifference h.second n).toNat
      else .step (clockDifference h.second n)
    else .step (clockDifference h.second n) :=
  (if_neg hm).trans (if_neg h0)

theorem classify_forward (h1 : 1 ≤ clockDifference h.second n) (h2 : clockDifference h.second n ≤ 300)
    (ht : h.today = if (n : Int) + clockDifference h.second n < 86400 then k.today else k.tomorrow) :
    classifyHeader h n k = .forward (clockDifference h.second n).toNat := by
  rw [← todayAfter_eq h1] at ht
  rw [classify_of_ne (by omega) (by omega), if_pos (And.intro h1 h2), if_pos ht]

theorem classify_step (hd : (clockDifference h.second n = 0 ∧ h.today ≠ k.today) ∨ clockDifference h.second n < -1
    ∨ 300 < clockDifference h.second n ∨ (1 ≤ clockDifference h.second n ∧ clockDifference h.second n ≤ 300
      ∧ h.today ≠ if (n : Int) + clockDifference h.second n < 86400 then k.today else k.tomorrow)) :
    classifyHeader h n k = .step (clockDifference h.second n) := by
  have far (hfar : clockDifference h.second n < -1 ∨ 300 < clockDifference h.second n) :
      classifyHeader h n k = .step (clockDifference h.second n) :=
    (classify_of_ne (by omega) (by omega)).trans (if_neg (by omega))
  rcases hd with ⟨h0, ht⟩ | hlt | hgt | ⟨h1, h2, ht⟩
  · simp [classifyHeader, h0, ht]
  · exact far (.inl hlt)
  · exact far (.inr hgt)
  · rw [← todayAfter_eq h1] at ht
    rw [classify_of_ne (by omega) (by omega), if_pos (And.intro h1 h2), if_neg ht]

end

/-! ## The clock step (R21) -/

/-- The clock at the header's second, the phase restarted (R21, R22, log 71). -/
def stepped (d : Int) (h : Header) (s : State) : State := { s with clock := { s.clock with
  second := some h.second, phase := 0, justSet := s.clock.justSet || decide (d ≠ 0) } }

/-- A step over midnight rolls over (R24, log 75). -/
def rolled (d : Int) (c : Nat) (h : Header) (s : State) : State :=
  if 0 < d ∧ (86400 : Int) ≤ (c : Int) + d then rollover (stepped d h s) else stepped d h s

theorem clockStep_eq (d : Int) (c : Nat) (h : Header) (s : State) : clockStep d c h s =
    tellMinute (h.second / 60) ((setDayTypes h.today h.tomorrow (rolled d c h s)).seg! fun e g => listException e none .clockStep none g) := by
  have hstepped : (if d = 0 then restartPhase (s.atSecond h.second) else headerRestarts (s.atSecond h.second)) = stepped d h s := by
    unfold stepped
    split
    · next h0 => simp [h0, restartPhase, State.atSecond]
    · next h0 => simp [h0, headerRestarts, setJustSet, restartPhase, State.atSecond]
  have hminute : (rolled d c h s).clock.second = some h.second := by
    unfold rolled
    split <;> rfl
  have hfold : (if 0 < d ∧ (Config.daySeconds : Int) ≤ (c : Int) + d then rollover (stepped d h s) else stepped d h s)
      = rolled d c h s := rfl
  unfold clockStep
  dsimp only
  rw [hstepped, hfold]
  have hmin : ((setDayTypes h.today h.tomorrow (rolled d c h s)).seg! fun e g => listException e none .clockStep none g).clock.minute
      = h.second / 60 := by
    rw [seg!_clock]
    show Clock.minute { (rolled d c h s).clock with today := h.today, tomorrow := h.tomorrow } = _
    rw [Clock.minute, hminute]
  rw [hmin]

theorem rolled_clock (d : Int) (c : Nat) (h : Header) (s : State) : (rolled d c h s).clock = { s.clock with
    second := some h.second, phase := 0, justSet := s.clock.justSet || decide (d ≠ 0)
    yesterday := if 0 < d ∧ (86400 : Int) ≤ (c : Int) + d then s.clock.today else s.clock.yesterday
    today := (rolled d c h s).clock.today, tomorrow := (rolled d c h s).clock.tomorrow
    fired := if 0 < d ∧ (86400 : Int) ≤ (c : Int) + d then .replicate 48 false else s.clock.fired } := by
  unfold rolled
  split
  · rfl
  · rfl

/-- The rollover of a segment without exemptions and without a run leaves it as it is. -/
theorem rollover_quiet {s : State} (hx : s.seg.exemptions = []) (hr : s.seg.seqr.run = none) : (rollover s).seg = s.seg := by
  have hexemptions : rolloverExemptions (rollover s).env s.seg = s.seg := by
    have hmap : s.seg.exemptions.map (fun x => if x.dayCount = 0 then x else { x with dayCount := 0 }) = s.seg.exemptions := by
      rw [hx]; rfl
    have hnone : s.seg.exemptions.filter (fun x => x.dayCount == 0) = [] := by rw [hx]; rfl
    unfold rolloverExemptions
    rw [hmap, hnone]
    rfl
  show settle (rollover s).env (rolloverExemptions (rollover s).env s.seg) = s.seg
  rw [hexemptions, settle_of_no_run _ _ hr]

theorem rolled_quiet {d : Int} {c : Nat} {h : Header} {s : State} (hx : s.seg.exemptions = []) (hr : s.seg.seqr.run = none) :
    (rolled d c h s).seg = s.seg := by
  unfold rolled
  split
  · exact rollover_quiet (s := stepped d h s) hx hr
  · rfl

end Sys2Proof.Machine
end

section
/-! A TRACKING header, class by class (R17, R19 to R22, R31), the end of learning and a first reply (R42, R97, R98). -/

namespace Sys2Proof.Machine

/-! ## Each class of a header -/

section
variable {r : TrunkRecord} {s : State}

/-- What follows the clock's part of a valid header in TRACKING: the fire release unit's, and what is due starts. -/
theorem validHeaderArrives_seg {z : State} (ht : s.trunk.validHeader.state = .tracking)
    (hz : trackingHeader (headerOf r) (atHeader r s) = z) :
    (validHeaderArrives r s).clock = z.clock ∧ (validHeaderArrives r s).env = z.env
    ∧ (validHeaderArrives r s).seg = settle (validHeaderArrives r s).env
      (fireHeader (validHeaderArrives r s).env (siteOfCode r.b6) z.seg) := by
  rw [validHeaderArrives_tracking ht, hz]
  exact ⟨rfl, rfl, rfl⟩

/-- The first TRACKING header: the clock is set, and the initial application follows where nothing stands in its way (R17, R31). -/
theorem firstTracking_clock (h : Header) (s : State) : (firstTracking h s).clock = { s.clock with
    second := some h.second, phase := 0, justSet := true, today := h.today, tomorrow := h.tomorrow } := rfl

theorem tryInitial_known {e : Env} {g : Segment} (hk : e.known = true) : tryInitial e g =
    if g.initialDone = false ∧ g.learning = false then
      { (allDoors.filter (fun d => (g.door d).eng.state == .holding)).foldl (fun g d =>
          match expectedPosture e g.exemptions d with
          | some p => targetSet e d p e.catchUp none g
          | none => g) g with initialDone := true }
    else g := by
  unfold tryInitial
  simp only [hk, Bool.and_true, Bool.and_eq_true, Bool.not_eq_true']
  rfl

theorem firstTracking_seg (h : Header) (s : State) : (firstTracking h s).seg = settle (firstTracking h s).env
    (if s.seg.initialDone = false ∧ s.seg.learning = false then
      { (allDoors.filter (fun d => (s.seg.door d).eng.state == .holding)).foldl (fun g d =>
          match expectedPosture (firstTracking h s).env g.exemptions d with
          | some p => targetSet (firstTracking h s).env d p (firstTracking h s).env.catchUp none g
          | none => g) s.seg with initialDone := true }
    else s.seg) :=
  congrArg (settle (firstTracking h s).env) (tryInitial_known (e := (firstTracking h s).env) (g := s.seg) rfl)

/-- A forward step: the seconds pass, then tomorrow's day type and the phase (R20). -/
theorem forwardStep_clock (d : Nat) (h : Header) (s : State) : (forwardStep d h s).clock =
    { (secondsPass d s).clock with tomorrow := h.tomorrow, phase := 0, justSet := true } := rfl

theorem forwardStep_seg (d : Nat) (h : Header) (s : State) : (forwardStep d h s).seg = (secondsPass d s).seg := rfl

/-- A clock step, its clock (R21, R22, R24). -/
theorem clockStep_clock (d : Int) (c : Nat) (h : Header) (s : State) : (clockStep d c h s).clock = { s.clock with
    second := some h.second, phase := 0, justSet := s.clock.justSet || decide (d ≠ 0)
    yesterday := if 0 < d ∧ (86400 : Int) ≤ (c : Int) + d then s.clock.today else s.clock.yesterday
    today := h.today, tomorrow := h.tomorrow
    fired := if 0 < d ∧ (86400 : Int) ≤ (c : Int) + d then .replicate 48 false else s.clock.fired } := by
  rw [clockStep_eq, tellMinute_clock, seg!_clock]
  show { (rolled d c h s).clock with today := h.today, tomorrow := h.tomorrow } = _
  rw [rolled_clock]

/-- A clock step of a segment without exemptions and without a run lists CLOCK_STEP, and that is all (R21). -/
theorem clockStep_quiet {d : Int} {c : Nat} {h : Header} {s : State} (hx : s.seg.exemptions = []) (hr : s.seg.seqr.run = none) :
    (clockStep d c h s).seg = { s.seg with
      exceptions := handException (fun x => x.active s.seg) none .clockStep none (h.second / 60) s.seg.exceptions } := by
  have hminute : Clock.minute { (rolled d c h s).clock with today := h.today, tomorrow := h.tomorrow } = h.second / 60 := by
    rw [rolled_clock]
    rfl
  have hlisted : ((setDayTypes h.today h.tomorrow (rolled d c h s)).seg! fun e g => listException e none .clockStep none g).seg
      = { s.seg with
        exceptions := handException (fun x => x.active s.seg) none .clockStep none (h.second / 60) s.seg.exceptions } := by
    show listException (setDayTypes h.today h.tomorrow (rolled d c h s)).env none .clockStep none (rolled d c h s).seg = _
    rw [rolled_quiet hx hr, ← hminute]
    rfl
  rw [clockStep_eq, tellMinute_quiet, hlisted]
  · rw [hlisted]
    exact hr
  · rw [hlisted]
    simp [hx]

end

/-! ## Learning (R97, R98) -/

/-- The drop of every fitted door has answered or is LOST (R98). -/
theorem learned_iff (e : Env) (g : Segment) : learned e g = true ↔ e.loaded = true
    ∧ ∀ d, e.fitted d = true → (g.door d).drop.firstReply = true ∨ (g.door d).drop.lost = true := by
  unfold learned
  rw [Bool.and_eq_true, List.all_eq_true]
  refine and_congr_right fun _ => ⟨fun h d hf => ?_, fun h d _ => ?_⟩
  · simpa [hf] using h d (mem_allDoors d)
  · cases hf : e.fitted d with
    | false => rfl
    | true => simpa [hf] using h d hf

theorem testLearning_of_not {e : Env} {g : Segment} (h : ¬(g.learning = true ∧ learned e g = true)) : testLearning e g = g :=
  if_neg (by simpa using h)

theorem testLearning_of {e : Env} {g : Segment} (hl : g.learning = true) (h : learned e g = true) :
    testLearning e g = tryInitial e (consider e { g with learning := false }) :=
  if_pos (by simp [hl, h])

/-- The arbiter does not learn. -/
theorem consider_learning (e : Env) (g : Segment) : (consider e g).learning = g.learning :=
  (learningWork e g.learning).consider rfl

theorem tryInitial_unknown {e : Env} {g : Segment} (hk : e.known = false) : tryInitial e g = g := by
  simp [tryInitial, hk]

/-- The end of learning: the queue is considered, and the initial application follows once the clock is known (R31, R98). -/
theorem testLearning_ends {e : Env} {g : Segment} (hl : g.learning = true) (h : learned e g = true) :
    testLearning e g = (if (consider e { g with learning := false }).initialDone = false ∧ e.clock.second ≠ none then
      { (allDoors.filter (fun d => ((consider e { g with learning := false }).door d).eng.state == .holding)).foldl (fun g d =>
          match expectedPosture e g.exemptions d with
          | some p => targetSet e d p e.catchUp none g
          | none => g) (consider e { g with learning := false }) with initialDone := true }
      else consider e { g with learning := false }) := by
  have hlearning : (consider e { g with learning := false }).learning = false := consider_learning _ _
  have hknown : e.known = true ↔ e.clock.second ≠ none := Option.isSome_iff_ne_none
  rw [testLearning_of hl h]
  cases hk : e.known with
  | true =>
    rw [tryInitial_known hk]
    simp only [hlearning, hknown.mp hk, ne_eq, not_false_eq_true, and_true]
  | false =>
    rw [tryInitial_unknown hk, if_neg fun hc => Bool.false_ne_true (hk.symm.trans (hknown.mpr hc.2))]

/-! ## The first reply (R42, R97) -/

theorem oneBit_getLsbD (k i : Fin 6) : (1#6 <<< k.val).getLsbD i.val = decide (i = k) := by
  revert k i
  decide

theorem bits6_getLsbD (f : Fin 6 → Bool) (i : Fin 6) : (bits6 f).getLsbD i.val = f i := by
  have fold : ∀ (l : List (Fin 6)) (acc : BitVec 6),
      (l.foldl (fun acc k => if f k then acc ||| (1#6 <<< k.val) else acc) acc).getLsbD i.val
        = (acc.getLsbD i.val || (decide (i ∈ l) && f i)) := by
    intro l
    induction l with
    | nil => simp
    | cons k l ih =>
      intro acc
      have hstep : (if f k then acc ||| (1#6 <<< k.val) else acc).getLsbD i.val = (acc.getLsbD i.val || (decide (i = k) && f k)) := by
        cases f k with
        | true => rw [if_pos rfl, BitVec.getLsbD_or, oneBit_getLsbD, Bool.and_true]
        | false => simp
      rw [List.foldl_cons, ih, hstep]
      by_cases hk : i = k
      · subst hk
        cases f i <;> simp
      · simp [hk]
  refine (fold allTerms 0#6).trans ?_
  rw [decide_eq_true (show i ∈ allTerms from List.mem_finRange i), BitVec.getLsbD_zero, Bool.false_or, Bool.true_and]

theorem takeFirstReply_eq (e : Env) (d : DoorNo) (r : Reply) (g : Segment) : takeFirstReply e d r g =
    if (g.door d).drop.firstReply = true then g
    else if e.fitted d = true then learn e d (g.upd e d (fun x => { x with drop := { x.drop with
      firstReply := true, held := some (x.drop.held.getD (learnedLevels (e.profile d) r)) } }))
    else g.upd e d (fun x => { x with drop := { x.drop with
      firstReply := true, held := some (x.drop.held.getD (learnedLevels (e.profile d) r)) } }) := by
  have hheld : (fun x : Door => { x with drop := { x.drop with firstReply := true, held := match x.drop.held with
        | some h => some h
        | none => some (learnedLevels (e.profile d) r) } })
      = fun x => { x with drop := { x.drop with
          firstReply := true, held := some (x.drop.held.getD (learnedLevels (e.profile d) r)) } } := by
    funext x
    cases x.drop.held <;> rfl
  exact congrArg (fun f => if (g.door d).drop.firstReply = true then g else
    if e.fitted d = true then learn e d (g.upd e d f) else g.upd e d f) hheld

theorem learnedCharge_eq (p : ProfileEntry) (reported : Option Bool) : learnedCharge p reported =
    if p.lockKind ≠ .motor ∧ reported = some true then ⟨p.holdUnits, .hold, 0, 0⟩ else ⟨0, .none, 0, 0⟩ := by
  unfold learnedCharge
  simp only [Bool.and_eq_true, bne_iff_ne, beq_iff_eq]
  rfl

/-- Settles O42, part by part: the classes of a header, the end of learning, and what a first reply teaches. -/
theorem trackingHeaderSetsClock : Obligations.TrackingHeaderSetsClock := by
  refine ⟨?_, fun e g => ?_, fun e d r g => ⟨?_, takeFirstReply_eq e d r g, fun i => ?_⟩⟩
  · intro c r s hc hi hp hv htrack second today tomorrow
    have ht : s.trunk.validHeader.state = .tracking := by
      rw [validHeader_state]
      exact if_pos (htrack.imp id (fun h => by omega))
    have trunk := validHeaderArrives_trunk r s
    have hsecond : second < 86400 := by
      simp only [headerIsValid, Bool.and_eq_true, decide_eq_true_eq] at hv
      exact hv.1.1.2
    refine ⟨_, exec_validHeader hc hi hp hv, fun hn => ?_, fun n hn hlt => ?_⟩
    · obtain ⟨hclock, henv, hseg⟩ := validHeaderArrives_seg ht (trackingHeader_unknown (s := atHeader r s) hn)
      refine ⟨hclock, ?_⟩
      rw [hseg, firstTracking_seg, ← henv]
      rfl
    · obtain ⟨hlow, hhigh, hdiff⟩ := clockDifference_bounds hsecond hlt
      have known := trackingHeader_known (h := headerOf r) (s := atHeader r s) hn
      refine ⟨clockDifference second n, hlow, hhigh, hdiff, fun hd => ?_, fun hd hday => ?_, fun h1 h2 hday => ?_, fun hstep => ?_⟩
      · rw [classify_lagging hd] at known
        exact (validHeaderArrives_seg ht known).1
      · rw [classify_agreeing (k := (sited (headerOf r) (atHeader r s)).clock) hd hday] at known
        exact (validHeaderArrives_seg ht known).1
      · rw [classify_forward (k := (sited (headerOf r) (atHeader r s)).clock) h1 h2 hday] at known
        dsimp only at known
        obtain ⟨hclock, henv, hseg⟩ := validHeaderArrives_seg ht known
        obtain ⟨k, hk⟩ : ∃ k : Nat, (clockDifference second n).toNat = k := ⟨_, rfl⟩
        have hkd : clockDifference second n = k := by omega
        have hz : (sited (headerOf r) (atHeader r s)).clock.second = some n := hn
        have hsum : second = if (n : Int) + clockDifference second n < 86400 then n + k else n + k - 86400 := by
          split <;> omega
        rw [hclock, forwardStep_clock, hk]
        have hsegment : (validHeaderArrives r s).seg = settle (validHeaderArrives r s).env
            (fireHeader (validHeaderArrives r s).env (siteOfCode r.b6) (secondsPass k
              { s with trunk := (validHeaderArrives r s).trunk, clock := { s.clock with lastSite := siteOfCode r.b6 } }).seg) := by
          rw [hseg, forwardStep_seg, hk, trunk]
          rfl
        by_cases hday' : (n : Int) + clockDifference second n < 86400
        · obtain ⟨hbefore, hfired⟩ := secondsPass_before hz k (by omega)
          rw [if_pos hday'] at hday hsum ⊢
          simp only [if_pos hday']
          rw [hbefore]
          refine ⟨congrArg some hsum.symm, trivial, trivial, hday.symm, rfl, rfl, rfl, hsegment, fun i => (hfired i).trans ?_⟩
          refine or_congr ⟨fun h => ⟨hday', h⟩, fun h => h.2⟩ ⟨?_, ?_⟩
          · rintro ⟨hi, y, hy, hlo, hup⟩
            refine ⟨hi.trans hday.symm, y, ?_, by omega, hlo, hup⟩
            rw [show today = s.clock.today from hday, ← show i.val / 6 = s.clock.today from hi]
            exact hy
          · rintro ⟨hi, y, hy, -, hlo, hup⟩
            refine ⟨hi.trans hday, y, ?_, hlo, hup⟩
            rw [hi]
            exact hy
        · obtain ⟨hafter, hfired⟩ := secondsPass_after hz hlt k (by omega) (by omega)
          rw [if_neg hday'] at hday hsum ⊢
          simp only [if_neg hday']
          rw [hafter]
          refine ⟨congrArg some hsum.symm, trivial, trivial, hday.symm, rfl, rfl, rfl, hsegment, fun i => (hfired i).trans ?_⟩
          constructor
          · rintro ⟨hi, y, hy, hle⟩
            refine .inr ⟨hi.trans hday.symm, y, ?_, by omega, hle⟩
            rw [show today = s.clock.tomorrow from hday, ← show i.val / 6 = s.clock.tomorrow from hi]
            exact hy
          · rintro (⟨h, -⟩ | ⟨hi, y, hy, -, hle⟩)
            · exact absurd h hday'
            · refine ⟨hi.trans hday, y, ?_, hle⟩
              rw [hi]
              exact hy
      · rw [classify_step (k := (sited (headerOf r) (atHeader r s)).clock) hstep] at known
        dsimp only at known
        obtain ⟨hclock, henv, hseg⟩ := validHeaderArrives_seg ht known
        have hclock' : (validHeaderArrives r s).clock = (setDayTypes today tomorrow
            (rolled (clockDifference second n) n (headerOf r) (sited (headerOf r) (atHeader r s)))).clock := by
          rw [hclock, clockStep_eq, tellMinute_clock, seg!_clock]
          rfl
        rw [clockStep_clock] at hclock
        have hjust : (validHeaderArrives r s).clock.justSet = (s.clock.justSet || decide (clockDifference second n ≠ 0)) := by
          rw [hclock]
          rfl
        refine ⟨by rw [hclock], by rw [hclock], by rw [hclock]; rfl, by rw [hclock]; rfl, by rw [hclock]; rfl, by rw [hclock]; rfl, ?_, ?_,
          fun hsite hx hr => ?_⟩
        · split
          · next hm =>
            have hfired : (validHeaderArrives r s).clock.fired = .replicate 48 false := by
              rw [hclock]
              exact if_pos hm
            refine ⟨?_, fun i => by rw [hfired]; simp⟩
            rw [hclock]
            exact if_pos hm
          · next hm =>
            rw [hclock]
            exact ⟨if_neg hm, if_neg hm⟩
        · intro steppedHere rolledHere dated
          have hstepped : steppedHere = stepped (clockDifference second n) (headerOf r) (sited (headerOf r) (atHeader r s)) := by
            show ({ s with trunk := (validHeaderArrives r s).trunk, clock := { s.clock with
                second := some second, phase := 0, justSet := (validHeaderArrives r s).clock.justSet
                lastSite := siteOfCode r.b6 } } : State) = _
            rw [trunk, hjust]
            rfl
          have hrolled : rolledHere = rolled (clockDifference second n) n (headerOf r) (sited (headerOf r) (atHeader r s)) := by
            show (if 0 < clockDifference second n ∧ 86400 ≤ (n : Int) + clockDifference second n then rollover steppedHere
              else steppedHere) = _
            rw [hstepped]
            rfl
          have hdated : dated = setDayTypes today tomorrow
              (rolled (clockDifference second n) n (headerOf r) (sited (headerOf r) (atHeader r s))) := by
            show ({ rolledHere with clock := (validHeaderArrives r s).clock } : State) = _
            rw [hrolled, hclock']
            rfl
          rw [hseg, clockStep_eq, hdated]
          rfl
        · rw [hseg, fireHeader_calm _ _ hsite, clockStep_quiet (s := sited (headerOf r) (atHeader r s)) hx hr,
            settle_of_no_run]
          · exact ⟨rfl, rfl, rfl⟩
          · exact hr
  · intro ends h
    refine ⟨fun hne => testLearning_of_not fun hl => hne ⟨hl.1, (learned_iff e g).mp hl.2⟩, fun he => ?_⟩
    exact testLearning_ends he.1 ((learned_iff e g).mpr he.2)
  · show learn e d g = _
    rw [← learnedCharge_eq]
    rfl
  · exact bits6_getLsbD _ i

end Sys2Proof.Machine
end

section
/-! FIRE_IN and the setting of the latch (R134, R152, R163 to R165). Under the latch no LOCK_DRIVE is on and the arbiter stands still, so
that what a door does by R134 is a function of that door alone. -/

namespace Sys2Proof.Machine

/-! ## Doors one after another -/

/-- Where f acts on each door by itself, alone and by F, doors taken one after another are each as F has them. -/
theorem forDoors_each {J : Segment → Prop} {f : DoorNo → Segment → Segment} {F : DoorNo → Door → Door}
    (hf : ∀ d g, J g → J (f d g) ∧ (f d g).door d = F d (g.door d) ∧ OnlyDoor d g (f d g))
    (ds : List DoorNo) (hd : ds.Nodup) (g : Segment) (hg : J g) :
    J (forDoors ds f g) ∧ ∀ d, (forDoors ds f g).door d = if d ∈ ds then F d (g.door d) else g.door d := by
  induction ds generalizing g with
  | nil => exact ⟨hg, fun d => (if_neg List.not_mem_nil).symm⟩
  | cons a ds ih =>
    obtain ⟨ha, hd⟩ := List.nodup_cons.mp hd
    obtain ⟨hJ, hdoor, honly⟩ := hf a g hg
    obtain ⟨hJ', hds⟩ := ih hd (f a g) hJ
    refine ⟨hJ', fun d => (hds d).trans ?_⟩
    by_cases hda : d = a
    · subst hda
      rw [if_neg ha, if_pos List.mem_cons_self, hdoor]
    · have hmem : d ∈ a :: ds ↔ d ∈ ds := by simp [hda]
      simp only [hmem, honly d hda]

theorem forDoors_all {J : Segment → Prop} {f : DoorNo → Segment → Segment} {F : DoorNo → Door → Door}
    (hf : ∀ d g, J g → J (f d g) ∧ (f d g).door d = F d (g.door d) ∧ OnlyDoor d g (f d g)) {g : Segment} (hg : J g) :
    J (forDoors allDoors f g) ∧ ∀ d, (forDoors allDoors f g).door d = F d (g.door d) := by
  obtain ⟨hJ, hall⟩ := forDoors_each hf allDoors (List.nodup_finRange 64) g hg
  exact ⟨hJ, fun d => (hall d).trans (if_pos (mem_allDoors d))⟩

/-! ## No run, no answer -/

theorem answer_idle {e : Env} {d : DoorNo} {owed : Option Nat} {o : DoorOutcome} {g : Segment} (h : g.seqr.run = none) :
    answer e d owed o g = g := by
  unfold answer
  split
  · rfl
  · rw [recordOutcome, h]

/-! ## Changes of one door in a row -/

theorem putDoor_putDoor (g : Segment) (d : DoorNo) (x y : Door) : (g.putDoor d x).putDoor d y = g.putDoor d y := by
  simp only [Segment.putDoor, Vector.set_set]

theorem putDoor_self (g : Segment) (d : DoorNo) : g.putDoor d (g.door d) = g := by
  have h : g.doors.set d.val g.doors[d.val] = g.doors := Vector.set_getElem_self d.isLt
  exact congrArg (fun v => { g with doors := v }) h

/-! ## Under the latch -/

section
variable {e : Env} {d : DoorNo} {g : Segment}

theorem lockLevel_latched (p : ProfileEntry) (x : Door) : x.lockLevel true p = false := rfl

theorem upd_latched (f : Door → Door) (h : g.fire.latch = true) : g.upd e d f = g.putDoor d (f (g.door d)) :=
  upd_same_level e d f g (by rw [h]; rfl)

theorem consider_latched (h : g.fire.latch = true) : consider e g = g := if_pos (by rw [h, Bool.or_true])

theorem dequeue_of_unqueued (h : Unqueued d g) : dequeue d g = g := by
  have hfilter : g.queue.filter (fun q => q.door != d) = g.queue := List.filter_eq_self.mpr fun q hq => bne_iff_ne.mpr (h q hq)
  rw [dequeue, hfilter]

theorem withdraw_of_unqueued (h : Unqueued d g) : withdraw e d g = g :=
  if_neg (by simpa [Unqueued] using h)

theorem withdraw_latched (h : g.fire.latch = true) : withdraw e d g = dequeue d g := by
  unfold withdraw
  split
  · exact consider_latched h
  · next hn => exact (dequeue_of_unqueued (by simpa [Unqueued] using hn)).symm

theorem dequeue_door (d j : DoorNo) (g : Segment) : (dequeue d g).door j = g.door j := rfl

/-- The charge a drive-off leaves (R94, R95, logs 59, 78, 81). -/
theorem afterDriveOff_eq (p : ProfileEntry) (x : Door) : x.afterDriveOff p =
    if p.lockKind ≠ .motor then ⟨0, .none, 0, 0⟩
    else if x.charge.basis ≠ .run then x.charge
    else if (if x.eng.pulseAcked then x.eng.timer.remaining else x.eng.pulseRunTime) = 0 then ⟨0, .none, 0, 0⟩
    else ⟨x.charge.units, .tail, if x.eng.pulseAcked then x.eng.timer.remaining else x.eng.pulseRunTime, 0⟩ := by
  unfold Door.afterDriveOff
  cases p.lockKind with
  | motor =>
    rw [if_neg (not_not.mpr rfl)]
    by_cases hb : x.charge.basis = .run
    · rw [if_neg (not_not.mpr hb)]
      exact if_pos hb
    · rw [if_pos hb]
      exact if_neg hb
  | magnetic | strike => rfl

theorem forceDriveOff_latched (h : g.fire.latch = true) : forceDriveOff e d g =
    g.putDoor d { g.door d with
      charge := (g.door d).afterDriveOff (e.profile d), eng := { (g.door d).eng with drive := false } } := by
  unfold forceDriveOff setCharge
  dsimp only
  rw [upd_latched _ (by exact h), consider_latched (by exact h), door_putDoor_same]
  exact putDoor_putDoor g d _ _

/-- A door that enters EGRESS (R134). -/
def Door.toEgress (p : ProfileEntry) (x : Door) : Door := { x with
  charge := x.afterDriveOff p, mon := { x.mon with watch := none }
  eng := { x.eng.enter .egress with
    target := none, pendingTarget := none, owed := none, drive := false, deferral := .none, deferralSub := 0
    retry := 0, force := false } }

/-- A LOST door at the setting of the latch (R134). -/
def Door.firedLost (p : ProfileEntry) (x : Door) : Door := { x with
  charge := x.afterDriveOff p
  eng := { x.eng with abandoned := x.eng.lostFrom == .driving || x.eng.lostFrom == .verifying, drive := false } }

/-- A door as R134 leaves it. -/
def Door.fired (p : ProfileEntry) (x : Door) : Door :=
  if x.eng.state = .absent ∨ x.eng.state = .outOfService then x
  else if x.eng.state = .lost then x.firedLost p
  else x.toEgress p

/-- A door whose pending target has been answered and dropped. -/
theorem dropAnswered_latched (hl : g.fire.latch = true) (hr : g.seqr.run = none) (o : DoorOutcome) :
    dropPending e d (answerPending e d o (answerOwed e d o g)) =
      g.putDoor d { g.door d with eng := { (g.door d).eng with owed := none, pendingTarget := none } } := by
  have howed : answerOwed e d o g = g.putDoor d { g.door d with eng := { (g.door d).eng with owed := none } } := by
    unfold answerOwed
    dsimp only
    rw [upd_latched _ hl]
    exact answer_idle hr
  rw [howed]
  unfold answerPending dropPending
  split
  · next hn =>
    rw [upd_latched _ (by exact hl), door_putDoor_same]
    exact putDoor_putDoor ..
  · next q hq =>
    have hupd (f : Door → Door) (x : Door) : (g.putDoor d x).upd e d f = g.putDoor d (f x) := by
      rw [upd_latched _ (by exact hl), door_putDoor_same, putDoor_putDoor]
    rw [hupd, answer_idle (by exact hr), hupd]

theorem toEgress_latched (hl : g.fire.latch = true) (hr : g.seqr.run = none) : updEng e d (fun x =>
      { x.enter .egress with target := none, deferral := .none, deferralSub := 0, retry := 0, force := false })
      (forceDriveOff e d (clearWatch e d (withdraw e d (dropPending e d (answerPending e d .overridden (answerOwed e d .overridden g))))))
    = (dequeue d g).putDoor d ((g.door d).toEgress (e.profile d)) := by
  have hupd (f : Door → Door) (x : Door) : ((dequeue d g).putDoor d x).upd e d f = (dequeue d g).putDoor d (f x) := by
    rw [upd_latched _ (by exact hl), door_putDoor_same, putDoor_putDoor]
  have hoff (x : Door) : forceDriveOff e d ((dequeue d g).putDoor d x) = (dequeue d g).putDoor d { x with
      charge := x.afterDriveOff (e.profile d), eng := { x.eng with drive := false } } := by
    rw [forceDriveOff_latched (by exact hl), door_putDoor_same, putDoor_putDoor]
  have hdequeue (x : Door) : dequeue d (g.putDoor d x) = (dequeue d g).putDoor d x := rfl
  rw [dropAnswered_latched hl hr, withdraw_latched (by exact hl), hdequeue, clearWatch, hupd, hoff, updEng, hupd]
  rfl

theorem firedLost_latched (hl : g.fire.latch = true) : forceDriveOff e d (updEng e d (fun x =>
      { x with abandoned := x.lostFrom == .driving || x.lostFrom == .verifying }) g)
    = g.putDoor d ((g.door d).firedLost (e.profile d)) := by
  rw [updEng, upd_latched _ hl, forceDriveOff_latched (by exact hl), door_putDoor_same, putDoor_putDoor]
  rfl

/-- What R134 does to a door, under the latch and with no run: the door itself, and its place in the queue. -/
theorem fireDoor_latched (hl : g.fire.latch = true) (hr : g.seqr.run = none) :
    (fireDoor e d g).fire = g.fire ∧ (fireDoor e d g).seqr = g.seqr
    ∧ (fireDoor e d g).door d = (g.door d).fired (e.profile d) ∧ OnlyDoor d g (fireDoor e d g) := by
  have put (h : Segment) (x : Door) (hf : h.fire = g.fire) (hs : h.seqr = g.seqr) (hd : h.doors = g.doors)
      (hx : x = (g.door d).fired (e.profile d)) : (h.putDoor d x).fire = g.fire ∧ (h.putDoor d x).seqr = g.seqr
      ∧ (h.putDoor d x).door d = (g.door d).fired (e.profile d) ∧ OnlyDoor d g (h.putDoor d x) := by
    refine ⟨hf, hs, (door_putDoor_same ..).trans hx, fun j hj => (door_putDoor_ne _ _ _ _ hj).trans ?_⟩
    rw [Segment.door, Segment.door, hd]
  unfold fireDoor Door.fired
  split
  · next hs => exact ⟨rfl, rfl, by simp [hs], fun _ _ => rfl⟩
  · next hs => exact ⟨rfl, rfl, by simp [hs], fun _ _ => rfl⟩
  · next hs =>
    rw [firedLost_latched hl]
    exact put g _ rfl rfl rfl (by simp [Door.fired, hs])
  · next ha ho hlost =>
    rw [toEgress_latched hl hr]
    exact put (dequeue d g) _ rfl rfl rfl (by rw [Door.fired, if_neg (not_or.mpr ⟨ha, ho⟩), if_neg hlost])

/-! ## The setting of the latch -/

theorem cancelPulse_latched (hl : g.fire.latch = true) : cancelPulse e d g =
    g.putDoor d { g.door d with drop := { (g.door d).drop with pulse := (g.door d).drop.pulse.cancel } } := upd_latched _ hl

/-- A door's record as the setting of the latch leaves it: its counts, its pulse, and what R134 does (R104, R165). -/
def Door.latched (latch : Bool) (p : ProfileEntry) (x : Door) : Door :=
  Door.fired p { x with
    sup := if x.lockLevel latch p then ⟨0, 0⟩ else x.sup, drop := { x.drop with pulse := x.drop.pulse.cancel } }

theorem fireRun_door (e : Env) (g : Segment) (d : DoorNo) : (fireRun e g).door d = g.door d := rfl

/-- The end of a run by fire reads the runs alone (R152). -/
theorem fireRun_seqr {e : Env} {g h : Segment} (hs : h.seqr = g.seqr) : (fireRun e h).seqr = (fireRun e g).seqr := by
  unfold fireRun endRun
  rw [hs]

theorem setLatch_doors (cause : LatchCause) (hl : g.fire.latch = false) :
    (setLatch e cause g).seqr = (fireRun e g).seqr
    ∧ ∀ d, (setLatch e cause g).door d = (g.door d).latched g.fire.latch (e.profile d) := by
  obtain ⟨⟨hfire, hseqr⟩, hcancelled⟩ := forDoors_all
    (J := fun h => h.fire = (setLatchFlag e cause g).fire ∧ h.seqr = g.seqr) (f := cancelPulse e)
    (F := fun _ x => { x with drop := { x.drop with pulse := x.drop.pulse.cancel } })
    (fun d h hh => by
      rw [cancelPulse_latched (by rw [hh.1]; rfl)]
      exact ⟨hh, door_putDoor_same .., fun j hj => door_putDoor_ne _ _ _ _ hj⟩) (g := setLatchFlag e cause g) ⟨rfl, rfl⟩
  obtain ⟨⟨-, hseqr'⟩, hfired⟩ := forDoors_all
    (J := fun h => h.fire = (setLatchFlag e cause g).fire ∧ h.seqr = (fireRun e g).seqr) (f := fireDoor e)
    (F := fun d x => x.fired (e.profile d))
    (fun d h hh => by
      obtain ⟨hf, hs, hdoor, honly⟩ := fireDoor_latched (e := e) (d := d) (g := h) (by rw [hh.1]; rfl) (by rw [hh.2]; rfl)
      exact ⟨⟨hf.trans hh.1, hs.trans hh.2⟩, hdoor, honly⟩)
    (g := fireRun e (forDoors allDoors (cancelPulse e) (setLatchFlag e cause g)))
    ⟨(fireRun_fire ..).trans hfire, fireRun_seqr hseqr⟩
  have hset : setLatch e cause g = forDoors allDoors (fireDoor e)
      (fireRun e (forDoors allDoors (cancelPulse e) (setLatchFlag e cause g))) := if_neg (by simp [hl])
  rw [hset]
  refine ⟨hseqr', fun d => (hfired d).trans ?_⟩
  rw [fireRun_door, hcancelled, setLatchFlag_door, Door.latched]
  split <;> rfl

theorem setLatch_set (cause : LatchCause) (hl : g.fire.latch = true) : setLatch e cause g = g := if_pos hl

end

/-! ## FIRE_IN -/

theorem judgeFireIn_eq (active : Bool) (g : Segment) : judgeFireIn active g =
    if active ≠ g.fire.reading then { g with fire := { g.fire with reading := active, persistence := 0 } } else g := by
  unfold judgeFireIn
  cases h : active == g.fire.reading with
  | true => rw [if_pos rfl, if_neg (not_not.mpr (beq_iff_eq.mp h))]
  | false => rw [if_neg Bool.false_ne_true, if_pos (beq_eq_false_iff_ne.mp h)]

/-- The run that ends by fire, in the summary (R152, R154). -/
theorem fireRun_summary {e : Env} {g : Segment} {r : Run} (hr : g.seqr.run = some r) : ∃ y, (fireRun e g).seqr.summary = some y
    ∧ y.program = r.program ∧ y.ending = .fire ∧ y.startMinute = r.startMinute ∧ y.endMinute = e.minute :=
  ⟨r.overrideAll.summarise e .fire, by simp [fireRun, endRun, hr], rfl, rfl, rfl, rfl⟩

theorem fired_state (p : ProfileEntry) (x : Door) : (x.fired p).eng.state =
    if x.eng.state ∈ [DoorState.absent, .outOfService, .lost] then x.eng.state else .egress := by
  unfold Door.fired
  by_cases ha : x.eng.state = .absent ∨ x.eng.state = .outOfService
  · rw [if_pos ha, if_pos (by rcases ha with h | h <;> simp [h])]
  · obtain ⟨h1, h2⟩ := not_or.mp ha
    rw [if_neg ha]
    by_cases hlost : x.eng.state = .lost
    · rw [if_pos hlost, if_pos (by simp [hlost])]
      rfl
    · rw [if_neg hlost, if_neg (by simp [h1, h2, hlost])]
      rfl

theorem fired_charge (p : ProfileEntry) (x : Door) : (x.fired p).charge =
    if x.eng.state = .absent ∨ x.eng.state = .outOfService then x.charge else x.afterDriveOff p := by
  unfold Door.fired
  split
  · rfl
  · split <;> rfl

theorem fired_pulse (p : ProfileEntry) (x : Door) : (x.fired p).drop = x.drop := by
  unfold Door.fired
  split
  · rfl
  · split <;> rfl

theorem fired_active {p : ProfileEntry} {x : Door} (h : x.eng.state ∉ [DoorState.absent, .outOfService, .lost]) :
    x.fired p = x.toEgress p := by
  simp only [List.mem_cons, List.not_mem_nil, or_false, not_or] at h
  rw [Door.fired, if_neg (not_or.mpr ⟨h.1, h.2.1⟩), if_neg h.2.2]

theorem fired_lost {p : ProfileEntry} {x : Door} (h : x.eng.state = .lost) : x.fired p = x.firedLost p := by
  rw [Door.fired, if_neg (by simp [h]), if_pos h]

/-- Settles O43: the reading, and the latch set by the persistence, door by door. -/
theorem fireInput : Obligations.FireInput := by
  refine ⟨fun high s => ?_, fun s hp => ⟨fun hr => ?_, fun hr hl => ?_, fun hr hl => ?_⟩⟩
  · refine congrArg Host.Outcome.next ?_
    by_cases hrun : s.power = .running
    · have hpins : pinChanges high s = { s with
          fireInHigh := high, seg := judgeFireIn (high == s.work.segment.value.fireActiveHigh) s.seg } :=
        if_pos hrun
      rw [hpins, judgeFireIn_eq]
      by_cases ha : (high == s.work.segment.value.fireActiveHigh) ≠ s.seg.fire.reading
      · rw [if_pos ha, if_pos ⟨hrun, ha⟩]
      · rw [if_neg ha, if_neg fun h => ha h.2]
    · rw [if_neg fun h => hrun h.1]
      exact if_neg hrun
  · exact congrArg Host.Outcome.next (runSegment_same _ s hp (if_neg (by simp [hr])))
  · refine congrArg Host.Outcome.next ((runSegment_eq _ s hp).trans ?_)
    rw [persistenceEnd, if_pos hr, setLatch_set _ (by exact hl)]
    rfl
  · have hexec : exec .firePersistenceExpiry s = .next (settled { s with
        seg := setLatch s.env .fireIn { s.seg with fire := { s.seg.fire with persistence := 200 } } }) := by
      refine congrArg Host.Outcome.next ((runSegment_eq _ s hp).trans ?_)
      rw [persistenceEnd, if_pos hr]
      rfl
    obtain ⟨hseqr, hdoors⟩ := setLatch_doors (e := s.env) (g := { s.seg with fire := { s.seg.fire with persistence := 200 } }) .fireIn hl
    have hfire := setLatch_fire s.env .fireIn { s.seg with fire := { s.seg.fire with persistence := 200 } }
    have hrest : ∀ t : Segment, t = setLatch s.env .fireIn { s.seg with fire := { s.seg.fire with persistence := 200 } } →
        settled { s with seg := t } = { s with seg := t } := by
      rintro t rfl
      exact settled_of_no_run _ (by rw [hseqr]; rfl)
    obtain ⟨t, ht⟩ : ∃ t, t = setLatch s.env .fireIn { s.seg with fire := { s.seg.fire with persistence := 200 } } := ⟨_, rfl⟩
    rw [← ht] at hexec hseqr hdoors hfire
    rw [hrest t ht] at hexec
    refine ⟨_, hexec, rfl, rfl, rfl, ⟨rfl, rfl, rfl⟩, ?_, ?_, ?_, fun r hrun => ?_, fun d => ?_, fun d => ?_, fun d => rfl, fun d => ?_,
      fun d hs => ?_, fun d hs => ?_⟩
    · refine hfire.trans ?_
      rw [if_neg (by simp [hl])]
    · exact congrArg Sequencer.run hseqr
    · exact congrArg Sequencer.queue hseqr
    · obtain ⟨y, hy⟩ := fireRun_summary (e := s.env) (g := { s.seg with fire := { s.seg.fire with persistence := 200 } }) hrun
      exact ⟨y, (congrArg Sequencer.summary hseqr).trans hy.1, hy.2⟩
    · exact (congrArg (fun x => x.eng.state) (hdoors d)).trans (fired_state _ _)
    · exact (congrArg (fun x => x.drop.pulse) (hdoors d)).trans (congrArg Drop.pulse (fired_pulse _ _))
    · refine (congrArg Door.charge (hdoors d)).trans ((fired_charge _ _).trans ?_)
      rw [afterDriveOff_eq]
      rfl
    · have hx := (hdoors d).trans (fired_active hs)
      dsimp only
      rw [hx]
      exact ⟨rfl, rfl, rfl, rfl, rfl, rfl, rfl, rfl, rfl, rfl⟩
    · have hx := (hdoors d).trans (fired_lost hs)
      dsimp only
      rw [hx]
      exact ⟨rfl, rfl⟩

end Sys2Proof.Machine
end
section
/-! The slot of a branch begins (R42 to R45, R50, R52, R63). -/

namespace Sys2Proof.Machine

/-! ## Branches and doors -/

theorem branch_putBranch_same (g : Segment) (b : BranchNo) (y : Branch) : (g.putBranch b y).branch b = y := by
  simp [Segment.branch, Segment.putBranch]

theorem branch_putBranch_ne (g : Segment) {b j : BranchNo} (y : Branch) (h : j ≠ b) : (g.putBranch b y).branch j = g.branch j := by
  have hne : b.val ≠ j.val := fun hv => h (Fin.ext hv.symm)
  simp [Segment.branch, Segment.putBranch, Vector.getElem_set_ne, hne]

theorem dropOf_doorAt (b : BranchNo) (k : DropNo) : dropOf (doorAt b k) = k := Fin.ext (by simp only [dropOf, doorAt]; omega)

theorem branchOf_doorAt (b : BranchNo) (k : DropNo) : branchOf (doorAt b k) = b := Fin.ext (by simp only [branchOf, doorAt]; omega)

theorem doorAt_branchOf (d : DoorNo) : doorAt (branchOf d) (dropOf d) = d := Fin.ext (by simp only [branchOf, dropOf, doorAt]; omega)

/-- A change of a door keeps what the change keeps, its supervision counts apart (R104). -/
theorem door_upd_same (e : Env) (d : DoorNo) (f : Door → Door) (g : Segment) :
    (g.upd e d f).door d = if (g.door d).lockLevel g.fire.latch (e.profile d) = true
      ∧ (f (g.door d)).lockLevel g.fire.latch (e.profile d) = false then { f (g.door d) with sup := ⟨0, 0⟩ } else f (g.door d) := by
  unfold Segment.upd
  dsimp only
  simp only [Bool.and_eq_true, Bool.not_eq_true']
  split <;> exact door_putDoor_same ..

/-- What does not read the supervision counts is as the change has it. -/
theorem door_upd_read {α : Type} (e : Env) (d : DoorNo) (f : Door → Door) (g : Segment) (read : Door → α)
    (hread : ∀ x s, read { x with sup := s } = read x := by exact fun _ _ => rfl) :
    read ((g.upd e d f).door d) = read (f (g.door d)) := by
  rw [door_upd_same]
  split <;> [exact hread _ _; rfl]

/-! ## The command of a slot -/

theorem levelsOf_get (p : ProfileEntry) (states : BitVec 6) (i : Fin 6) :
    (levelsOf p states).getLsbD i.val = (p.functions[i].isOutput && (states.getLsbD i.val != p.inverted[i])) := bits6_getLsbD _ i

theorem directions_get (p : ProfileEntry) (i : Fin 6) : (directions p).getLsbD i.val = p.functions[i].isOutput := bits6_getLsbD _ i

theorem sentStates_get (latch flash lock : Bool) (p : ProfileEntry) (x : Door) (i : Fin 6) :
    (sentStates latch flash lock p x).getLsbD i.val
      = (p.functions[i].isOutput && (if p.functions[i] = .lockDrive then lock else x.outputOn latch flash p p.functions[i])) :=
  bits6_getLsbD _ i

section
variable (e : Env) (d : DoorNo) (free : Bool) (g : Segment)

theorem composeCommand_record : branchCommandOf (composeCommand e d free g).record =
    ⟨BitVec.ofNat 4 (dropOf d).val, (g.door d).drop.pulseFields.2, (g.door d).drop.pulseFields.1, applySet g.fire.latch (g.door d),
      directions (e.profile d), levelsOf (e.profile d) (composeCommand e d free g).states,
      BitVec.ofNat 6 (if (g.door d).drop.pulseFields.1 = 0 then (e.profile d).runTime else (g.door d).eng.pulseRunTime)⟩ :=
  branchCommandOf_branchCommand ..

theorem composeCommand_level (i : Fin 6) : (branchCommandOf (composeCommand e d free g).record).levels.getLsbD i.val =
    ((e.profile d).functions[i].isOutput
      && ((composeCommand e d free g).states.getLsbD i.val != (e.profile d).inverted[i])) := by
  rw [composeCommand_record]
  exact levelsOf_get ..

theorem composeCommand_state (i : Fin 6) : (composeCommand e d free g).states.getLsbD i.val = ((e.profile d).functions[i].isOutput
    && (if (e.profile d).functions[i] = .lockDrive then (composeCommand e d free g).lock
      else (g.door d).outputOn g.fire.latch g.flash.on (e.profile d) (e.profile d).functions[i])) := sentStates_get ..

/-- The LOCK_DRIVE level sent, where a rule gives it (R43). -/
theorem composeCommand_lock {k : Fin 6} (hk : (e.profile d).terminalOf .lockDrive = some k)
    (hopen : openLevel g.fire.latch (g.door d) = false) : (composeCommand e d free g).lock =
    (if g.fire.latch || (g.door d).eng.state == .outOfService then false
      else if (g.door d).eng.state = .holding then ((g.door d).drop.held.getD 0).getLsbD k.val else (g.door d).eng.drive) := by
  have hheld : (g.door d).heldDrive (e.profile d) = ((g.door d).drop.held.getD 0).getLsbD k.val := by
    unfold Door.heldDrive
    rw [hk]
    cases (g.door d).drop.held with
    | none => exact (BitVec.getLsbD_zero).symm
    | some h => rfl
  have hlock : (composeCommand e d free g).lock = (g.door d).lockLevel g.fire.latch (e.profile d) := by
    show ((e.profile d).assigns .lockDrive && (if openLevel g.fire.latch (g.door d) then free else _)) = _
    rw [hopen, if_neg Bool.false_ne_true, ProfileEntry.assigns, hk]
    exact Bool.true_and _
  rw [hlock, ← hheld]
  unfold Door.lockLevel
  cases g.fire.latch with
  | true => rfl
  | false => cases (g.door d).eng.state <;> rfl

theorem applySet_eq (latch : Bool) (x : Door) : applySet latch x =
    (x.drop.held.isSome || latch || x.eng.state == .outOfService || x.drop.leaving != .no) := rfl

theorem openLevel_iff (latch : Bool) (x : Door) : openLevel latch x = true ↔
    x.eng.state = .holding ∧ x.drop.held = none ∧ applySet latch x = false := by
  simp [openLevel, and_assoc]

end

/-! ## The visit -/

/-- The door as a visit leaves it. -/
def Door.visited (c : SlotCommand) (x : Door) : Door := { x with drop := { x.drop with
  held := if c.apply then some c.states else x.drop.held
  leaving := if x.drop.leaving = .awaiting then .lastVisit else x.drop.leaving } }

/-- A visit: the door's held levels, and the branch's slot (R42, R51, R52). -/
theorem beginVisit_eq (e : Env) (b : BranchNo) (k : DropNo) (g : Segment) : ∃ h : Segment,
    h.doors = g.doors ∧ h.branches = g.branches ∧ h.queue = g.queue ∧ h.fire = g.fire
    ∧ beginVisit e b k g = updBranch b (fun y => { y with
        visiting := some k, next := none, spoiled := y.lineFault
        sent := some (composeCommand e (doorAt b k) (Config.unheldDrive g.free) g).record
        sentApply := (composeCommand e (doorAt b k) (Config.unheldDrive g.free) g).apply
        sentLock := (composeCommand e (doorAt b k) (Config.unheldDrive g.free) g).lock })
      (h.upd e (doorAt b k) (Door.visited (composeCommand e (doorAt b k) (Config.unheldDrive g.free) g))) := by
  refine ⟨if openLevel g.fire.latch (g.door (doorAt b k)) then { g with free := g.free + 1 } else g, ?_, ?_, ?_, ?_, rfl⟩ <;>
    split <;> rfl

theorem slotStart_idle {e : Env} {b : BranchNo} {g : Segment} (h : (g.branch b).visiting.isSome = true
    ∨ (g.branch b).next.or (lowestDrop e b g) = none) : slotStart e b g = g := by
  unfold slotStart
  dsimp only
  split
  · rfl
  · next hn =>
    have hor := h.resolve_left hn
    cases hx : (g.branch b).next with
    | none =>
      rw [hx, Option.none_or] at hor
      simp only [hor]
    | some k => rw [hx] at hor; simp at hor

theorem slotStart_visit {e : Env} {b : BranchNo} {k : DropNo} {g : Segment} (h : (g.branch b).visiting = none)
    (hk : (g.branch b).next.or (lowestDrop e b g) = some k) : slotStart e b g = beginVisit e b k g := by
  unfold slotStart
  dsimp only
  rw [if_neg (by simp [h])]
  cases hx : (g.branch b).next with
  | none =>
    rw [hx, Option.none_or] at hk
    simp only [hk]
  | some j =>
    rw [hx, Option.some_or] at hk
    cases hk
    rfl

theorem pulseFields_kind (x : Drop) : (x.pulseFields.1, x.pulseFields.2) = (match x.pulse with
    | .none => (0, x.pulseSeq)
    | .outstanding .throw => (1, x.pulseSeq)
    | .outstanding .withdraw => (2, x.pulseSeq)
    | .held _ => (0, x.pulseSeq - 1)
    | .cancelled _ => (0, x.pulseSeq)) := by
  unfold Drop.pulseFields
  cases x.pulse with
  | outstanding k => cases k <;> rfl
  | none | held _ | cancelled _ => rfl

theorem pulseFields_runTime (x : Drop) (run posted : Nat) : (if x.pulseFields.1 = 0 then run else posted) = (match x.pulse with
    | .outstanding _ => posted
    | _ => run) := by
  unfold Drop.pulseFields
  cases x.pulse with
  | outstanding k => cases k <;> rfl
  | none | held _ | cancelled _ => rfl

/-- Settles O44: no visit within a slot or without a drop to poll; else the command composed for the drop chosen. -/
theorem branchSlotBegins : Obligations.BranchSlotBegins := by
  intro b s hp y chosen
  have hexec : exec (.branchSlotStart b) s = .next { s with seg := slotStart s.env b s.seg } :=
    congrArg Host.Outcome.next (whenRunning_eq _ s hp)
  refine ⟨fun h => ?_, ?_⟩
  · rw [hexec, slotStart_idle h]
  · intro k hv hk d x apply
    obtain ⟨h, hdoors, hbranches, hqueue, hfire, hvisit⟩ := beginVisit_eq s.env b k s.seg
    have hdoor : h.door d = x := congrArg (fun v => v[d]) hdoors
    rw [slotStart_visit hv hk, hvisit] at hexec
    have hkept {α : Type} (read : Door → α) (hr : ∀ x s, read { x with sup := s } = read x := by exact fun _ _ => rfl) :
        read ((h.upd s.env d (Door.visited (composeCommand s.env d (Config.unheldDrive s.seg.free) s.seg))).door d)
          = read (x.visited (composeCommand s.env d (Config.unheldDrive s.seg.free) s.seg)) := by
      rw [door_upd_read _ _ _ _ read hr, hdoor]
    have hrecord := composeCommand_record s.env d (Config.unheldDrive s.seg.free) s.seg
    have hlevel := composeCommand_level s.env d (Config.unheldDrive s.seg.free) s.seg
    have hstate := composeCommand_state s.env d (Config.unheldDrive s.seg.free) s.seg
    have hbranch (j : BranchNo) : (h.upd s.env d (Door.visited (composeCommand s.env d (Config.unheldDrive s.seg.free) s.seg))).branch j
        = s.seg.branch j := by
      show (h.upd s.env d _).branches[j] = s.seg.branches[j]
      rw [(Kept.refl h).upd.branches, hbranches]
    refine ⟨_, (composeCommand s.env d (Config.unheldDrive s.seg.free) s.seg).record, hexec, rfl, rfl, rfl, ⟨rfl, rfl, rfl⟩, ?_, ?_, ?_,
      fun j hj => ?_, branchPasses_branchSeal _, ?_, ?_, ?_, fun i => ?_, fun i hi => ?_, fun i hi => ?_, fun hgiven kt hkt i hi => ?_, ?_,
      fun i hi => ?_, fun ha => ?_, fun ha => ?_, hkept Door.eng, hkept Door.mon, hkept Door.inputs, hkept Door.charge, fun j hj => ?_, ?_⟩
    · exact congrArg Branch.visiting (branch_putBranch_same ..)
    · exact congrArg Branch.next (branch_putBranch_same ..)
    · exact congrArg Branch.sent (branch_putBranch_same ..)
    · exact (branch_putBranch_ne _ _ hj).trans (hbranch j)
    · rw [hrecord, dropOf_doorAt]
    · rw [hrecord]
      rfl
    · rw [hrecord]
      exact pulseFields_kind _
    · rw [hrecord]
      exact directions_get _ i
    · rw [hlevel, hstate, hi]
      rfl
    · rw [hlevel, hstate, hi]
      rfl
    · have hopen : openLevel s.seg.fire.latch (s.seg.door d) = false :=
        Bool.eq_false_iff.mpr fun ho => hgiven ((openLevel_iff _ _).mp ho)
      rw [hlevel, hstate, hi, composeCommand_lock _ _ _ _ hkt hopen]
      rfl
    · rw [hrecord]
      exact congrArg (BitVec.ofNat 6) (pulseFields_runTime ..)
    · rw [hlevel, hi]
      rfl
    · have hnone : x.drop.held = none := by
        cases hh : x.drop.held with
        | none => rfl
        | some v => exact absurd ha (by simp [apply, hh])
      refine (hkept fun x => x.drop.held).trans ?_
      show (if apply = true then _ else x.drop.held) = none
      rw [ha, if_neg Bool.false_ne_true, hnone]
    · refine ⟨(composeCommand s.env d (Config.unheldDrive s.seg.free) s.seg).states, (hkept fun x => x.drop.held).trans ?_, hlevel⟩
      exact if_pos ha
    · exact (door_upd_ne _ _ _ hj).trans (congrArg (fun v => v[j]) hdoors)
    · refine Eq.trans ?_ hqueue
      show (h.upd s.env d _).queue = h.queue
      simp
end Sys2Proof.Machine
end

section
/-! The exception list (R173, R174) and the pulse exchange (R62 to R66). -/

namespace Sys2Proof.Machine

/-! ## The exception list -/

/-- The list without its oldest inactive entry. -/
theorem dropOldest_split {p : ExceptionEntry → Bool} {xs ys : List ExceptionEntry} {x : ExceptionEntry} (hx : p x = true)
    (hxs : ∀ z ∈ xs, p z = false) : dropOldest p (xs ++ x :: ys) = xs ++ ys := by
  induction xs with
  | nil => simp [dropOldest, hx]
  | cons z xs ih =>
    have hz : p z = false := hxs z List.mem_cons_self
    simp [dropOldest, hz, ih fun w hw => hxs w (List.mem_cons_of_mem z hw)]

theorem isFor_both {x : ExceptionEntry} {door : Option DoorNo} {k : Kind} : x.isFor door k = true ↔ x.door = door ∧ x.kind = k := by
  simp [ExceptionEntry.isFor]

section
variable {active : ExceptionEntry → Bool} {door : Option DoorNo} {k : Kind} {sub : Option SubReason} {m : Nat}
  {xs : List ExceptionEntry}

theorem handException_recurs (h : ∃ x ∈ xs, x.door = door ∧ x.kind = k) : handException active door k sub m xs =
    xs.map (fun x => if x.door = door ∧ x.kind = k then x.recur m sub else x) := by
  have hany : xs.any (fun x => x.isFor door k) = true := by
    obtain ⟨x, hx, hfor⟩ := h
    exact List.any_eq_true.mpr ⟨x, hx, isFor_both.mpr hfor⟩
  rw [handException, if_pos hany]
  refine List.map_congr_left fun x _ => ?_
  simp only [isFor_both]

theorem handException_new (h : ¬∃ x ∈ xs, x.door = door ∧ x.kind = k) : handException active door k sub m xs =
    if xs.length < 32 then xs ++ [⟨door, k, sub, m, m, 1⟩]
    else if xs.any (fun x => !active x) then dropOldest (fun x => !active x) xs ++ [⟨door, k, sub, m, m, 1⟩] else xs := by
  have hany : ¬ xs.any (fun x => x.isFor door k) = true := by
    rw [List.any_eq_true]
    rintro ⟨x, hx, hfor⟩
    exact h ⟨x, hx, isFor_both.mp hfor⟩
  exact if_neg hany

end

/-- Settles O50, by the cases of the list: a recurrence, room, none inactive, an oldest inactive entry. -/
theorem exceptionHanded : Obligations.ExceptionHanded := by
  intro e door k sub g m new t listed
  refine ⟨rfl, handException_recurs, fun hl hlt => ?_, fun hl hfull hact => ?_, fun hl hfull xs x ys hsplit hx hxs => ?_⟩
  · exact (handException_new hl).trans (if_pos hlt)
  · have hnone : ¬ g.exceptions.any (fun x => !x.active g) = true := by
      rw [List.any_eq_true]
      rintro ⟨x, hx, hina⟩
      simp [hact x hx] at hina
    exact (handException_new hl).trans ((if_neg (Nat.not_lt.mpr hfull)).trans (if_neg hnone))
  · have hany : g.exceptions.any (fun x => !x.active g) = true :=
      List.any_eq_true.mpr ⟨x, by simp [hsplit], by simp [hx]⟩
    refine (handException_new hl).trans ((if_neg (Nat.not_lt.mpr hfull)).trans ((if_pos hany).trans ?_))
    rw [hsplit, dropOldest_split (by simp [hx]) fun z hz => by simp [hxs z hz]]
    rfl

/-! ## Pulses -/

section
variable (e : Env) (d : DoorNo) (g : Segment)

theorem postPulse_drop (k : PulseKind) : ((postPulse e d k g).door d).drop = { (g.door d).drop with
    pulseSeq := (g.door d).drop.pulseSeq + 1
    pulse := if (g.door d).drop.pulseSeq + 1 = (g.door d).drop.lastSeq then .held k else .outstanding k } := by
  refine (door_upd_read e d _ g Door.drop).trans ?_
  simp

theorem cancelPulse_drop : ((cancelPulse e d g).door d).drop =
    { (g.door d).drop with pulse := (g.door d).drop.pulse.cancel } := door_upd_read e d _ g Door.drop

theorem settleAgainst_fst (same : Bool) (p : PulseState) : (p.settleAgainst same).1 = (match p with
    | .none => .none
    | .outstanding k => if same then .none else .outstanding k
    | .cancelled k => if same then .none else .cancelled k
    | .held k => if same then .held k else .outstanding k) := by
  cases p <;> cases same <;> rfl

theorem settleAgainst_snd (same : Bool) (p : PulseState) : (p.settleAgainst same).2 = true ↔
    same = true ∧ ∃ k, p = .outstanding k := by
  cases p <;> cases same <;> simp [PulseState.settleAgainst]

/-- The acknowledgment of a pulse, at a door's engine (R64, R124, R131). -/
def Engine.acked (x : Engine) : Engine :=
  if x.state = .driving then { x with pulseAcked := true, timer := .start x.pulseRunTime }
  else if x.state = .lost ∧ x.lostFrom = .driving then { x with pulseAcked := true, timer := ⟨x.pulseRunTime, 0, false⟩ }
  else x

theorem pulseAcknowledged_door : ((pulseAcknowledged e d g).door d).eng = (g.door d).eng.acked
    ∧ ((pulseAcknowledged e d g).door d).drop = (g.door d).drop ∧ OnlyDoor d g (pulseAcknowledged e d g) :=
  ⟨door_upd_read e d _ g Door.eng, door_upd_read e d _ g Door.drop, fun _ hj => door_upd_ne _ _ _ hj⟩

/-- A reported sequence: the pulse settled against it, and a door that waits for its acknowledgment (R64). -/
theorem takePulse_door (r : Reply) :
    ((takePulse e d r g).door d).drop = { (g.door d).drop with
      lastSeq := r.seq, pulse := ((g.door d).drop.pulse.settleAgainst (r.seq == (g.door d).drop.pulseSeq)).1 }
    ∧ ((takePulse e d r g).door d).eng = (if ((g.door d).drop.pulse.settleAgainst (r.seq == (g.door d).drop.pulseSeq)).2
        then (g.door d).eng.acked else (g.door d).eng)
    ∧ OnlyDoor d g (takePulse e d r g) := by
  have settledPulse (f : Door → Door) (hf : (f (g.door d)).eng = (g.door d).eng) :
      ((pulseAcknowledged e d (g.upd e d f)).door d).eng = (g.door d).eng.acked
      ∧ ((pulseAcknowledged e d (g.upd e d f)).door d).drop = (f (g.door d)).drop
      ∧ OnlyDoor d g (pulseAcknowledged e d (g.upd e d f)) := by
    obtain ⟨heng, hdrop, honly⟩ := pulseAcknowledged_door e d (g.upd e d f)
    refine ⟨heng.trans ?_, hdrop.trans (door_upd_read e d f g Door.drop), fun j hj => (honly j hj).trans (door_upd_ne _ _ _ hj)⟩
    rw [door_upd_read e d f g Door.eng, hf]
  unfold takePulse
  dsimp only
  split
  · obtain ⟨heng, hdrop, honly⟩ := settledPulse (fun x => { x with drop := { x.drop with
      lastSeq := r.seq, pulse := ((g.door d).drop.pulse.settleAgainst (r.seq == (g.door d).drop.pulseSeq)).1 } }) rfl
    exact ⟨hdrop, heng, honly⟩
  · exact ⟨door_upd_read e d _ g Door.drop, door_upd_read e d _ g Door.eng, fun j hj => door_upd_ne _ _ _ hj⟩

end

theorem awaitsPulse_iff (p : ProfileEntry) (x : Door) : x.awaitsPulse p = true ↔ x.drop.firstReply = false ∧ p.lockKind = .motor
    ∧ (x.eng.state = .driving ∨ (x.eng.state = .lost ∧ x.eng.lostFrom = .driving ∧ x.eng.abandoned = false)) := by
  simp [Door.awaitsPulse, and_assoc]

theorem pulseFor_eq (q : Option Posture) : pulseFor q = if q = some .released then .withdraw else .throw := by
  rcases q with _ | (_ | _) <;> rfl

/-! ## The module (R66) -/

theorem carriesOut_iff (m : DropModule) (c : BranchCommand) : m.carriesOut c = true ↔
    (∃ n, m.lastSeq = some n ∧ n ≠ c.seq) ∧ (pulseOfCode c.kind).isSome = true := by
  unfold DropModule.carriesOut
  cases m.lastSeq with
  | none => simp
  | some n => simp

theorem modulePulse_lastSeq (m : DropModule) (c : BranchCommand) : (m.pulse c).lastSeq = some c.seq := by
  unfold DropModule.pulse
  cases h : m.lastSeq with
  | none => rfl
  | some n =>
    dsimp only
    split
    · next he => rw [h, he]
    · rfl

theorem modulePulse_new {m : DropModule} {c : BranchCommand} {n : BitVec 2} (h : m.lastSeq = some n) (hn : n ≠ c.seq) :
    (m.pulse c).running = (match pulseOfCode c.kind with
      | some k => some (k, c.runTime)
      | none => m.running) := by
  unfold DropModule.pulse
  rw [h]
  exact congrArg DropModule.running (if_neg fun he => hn he.symm)

theorem modulePulse_same {m : DropModule} {c : BranchCommand} (h : m.lastSeq = some c.seq) : m.pulse c = m := by
  unfold DropModule.pulse
  rw [h]
  exact if_pos rfl

/-- Settles O47, end by end: the post and the cancel, the reply, the pulse that waited, and the module. -/
theorem pulseExchange : Obligations.PulseExchange := by
  refine ⟨fun e d k g => ?_, fun e d g => ?_, fun e d r g => ?_, fun e d g => ?_, fun m c => ?_⟩
  · have hdrop := postPulse_drop e d g k
    exact ⟨congrArg Drop.pulseSeq hdrop, congrArg Drop.pulse hdrop, fun j hj => door_upd_ne _ _ _ hj⟩
  · have hdrop := cancelPulse_drop e d g
    refine ⟨by rw [hdrop], (congrArg Drop.pulse hdrop).trans ?_⟩
    show (g.door d).drop.pulse.cancel = _
    cases (g.door d).drop.pulse <;> rfl
  · intro x y same acked
    obtain ⟨hdrop, heng, honly⟩ := takePulse_door e d g r
    have hacked : (x.drop.pulse.settleAgainst (r.seq == x.drop.pulseSeq)).2 = true ↔ acked := by
      rw [settleAgainst_snd, beq_iff_eq]
    refine ⟨honly, congrArg Drop.lastSeq hdrop, by rw [hdrop], ?_, fun ha hs => ?_, fun ha hs hf => ?_, fun hn => ?_⟩
    · refine (congrArg Drop.pulse hdrop).trans ((settleAgainst_fst _ _).trans ?_)
      simp only [beq_iff_eq]
      rfl
    · refine heng.trans ((if_pos (hacked.mpr ha)).trans ?_)
      exact if_pos hs
    · refine heng.trans ((if_pos (hacked.mpr ha)).trans ?_)
      exact (if_neg (by rw [hs]; decide)).trans (if_pos ⟨hs, hf⟩)
    · refine heng.trans ?_
      by_cases ha : acked
      · rw [if_pos (hacked.mpr ha)]
        obtain ⟨h1, h2⟩ := hn.resolve_left (not_not.mpr ha)
        exact (if_neg h1).trans (if_neg h2)
      · exact if_neg (mt hacked.mp ha)
  · refine ⟨awaitsPulse_iff _ _, ?_, rfl⟩
    rw [← pulseFor_eq]
    rfl
  · refine ⟨fun h => ?_, fun h => ⟨?_, ?_⟩, modulePulse_lastSeq m c, fun _ => ?_, fun n hn hne => ⟨fun hk => ?_, fun hk => ?_, fun hk => ?_⟩,
      rfl, fun h => ?_, fun k n h => ?_⟩
    · exact Bool.eq_false_iff.mpr fun hc => by
        obtain ⟨⟨n, hn, -⟩, -⟩ := (carriesOut_iff m c).mp hc
        rw [h] at hn
        exact absurd hn (by simp)
    · exact Bool.eq_false_iff.mpr fun hc => by
        obtain ⟨⟨n, hn, hne⟩, -⟩ := (carriesOut_iff m c).mp hc
        exact hne (Option.some.inj (hn.symm.trans h))
    · rw [modulePulse_same h]
    · exact Bool.eq_false_iff.mpr fun hc => by
        obtain ⟨⟨n, hn, hne⟩, -⟩ := (carriesOut_iff (m.pulse c) c).mp hc
        exact hne (Option.some.inj (hn.symm.trans (modulePulse_lastSeq m c)))
    · rw [modulePulse_new hn hne, hk]
      rfl
    · rw [modulePulse_new hn hne, hk]
      rfl
    · rw [modulePulse_new hn hne, hk]
      rfl
    · show (match m.running with | some (k, n) => _ | none => none) = none
      rw [h]
    · show (match m.running with | some (k, n) => if n.toNat ≤ 1 then none else some (k, n - 1) | none => none) = _
      rw [h]
      dsimp only
      by_cases hn : n.toNat ≤ 1
      · rw [if_pos hn, if_neg (by omega)]
      · rw [if_neg hn, if_pos (by omega)]

end Sys2Proof.Machine
end

section
/-! The course of one door through the operations of its engine: the door's record after each, its supervision counts apart, where it
waits in no queue; and, where no other door waits either, what the sequencer is told. -/

namespace Sys2Proof.Machine

/-! ## The record of a door, the supervision counts apart -/

/-- A door's record with its supervision counts at 0: what the level of LOCK_DRIVE does not clear (R104). -/
def Door.core (x : Door) : Door := { x with sup := ⟨0, 0⟩ }

/-- What does not read the supervision counts is the same of doors with the same core. -/
theorem Door.core_read {α : Type} {x y : Door} (h : x.core = y.core) (read : Door → α)
    (hread : ∀ x s, read { x with sup := s } = read x := by exact fun _ _ => rfl) : read x = read y :=
  (hread x ⟨0, 0⟩).symm.trans ((congrArg read h).trans (hread y ⟨0, 0⟩))

/-- Door d is x, its supervision counts apart, and waits in no queue; and where A holds, no door waits and the sequencer is as in b. -/
structure Made (A : Prop) (d : DoorNo) (x : Door) (b g : Segment) : Prop where
  door : (g.door d).core = x.core
  unqueued : Unqueued d g
  alone : A → g.queue = [] ∧ g.seqr = b.seqr

theorem answer_seqr {e : Env} {d : DoorNo} {owed : Option Nat} {o : DoorOutcome} {g b : Segment} (h : g.seqr = b.seqr) :
    (answer e d owed o g).seqr = (answer e d owed o b).seqr := by
  unfold answer
  split
  · exact h
  · unfold recordOutcome
    rw [h]
    split
    · exact h
    · split
      · exact h
      · split <;> [rfl; exact h]

theorem consider_no_queue {e : Env} {g : Segment} (h : g.queue = []) : consider e g = g := by
  unfold consider
  split
  · rfl
  · rw [h]
    rfl

namespace Made

variable {A : Prop} {e : Env} {d : DoorNo} {x : Door} {b g : Segment}

theorem refl (h : Unqueued d g) (ha : A → g.queue = []) : Made A d (g.door d) g g := ⟨rfl, h, fun a => ⟨ha a, rfl⟩⟩

section
variable (h : Made A d x b g)
include h

theorem read {α : Type} (read : Door → α) (hread : ∀ x s, read { x with sup := s } = read x := by exact fun _ _ => rfl) :
    read (g.door d) = read x := Door.core_read h.door read hread

theorem eng : (g.door d).eng = x.eng := h.read Door.eng
theorem drop : (g.door d).drop = x.drop := h.read Door.drop
theorem inputs : (g.door d).inputs = x.inputs := h.read Door.inputs
theorem mon : (g.door d).mon = x.mon := h.read Door.mon
theorem charge : (g.door d).charge = x.charge := h.read Door.charge

theorem sensedAs (v : Option Posture) (p : ProfileEntry) : (g.door d).sensedAs v p = x.sensedAs v p := h.read fun x => x.sensedAs v p
theorem sensedOutside (p : ProfileEntry) : (g.door d).sensedOutside p = x.sensedOutside p := h.read fun x => x.sensedOutside p
theorem sensed (p : ProfileEntry) : (g.door d).sensed p = x.sensed p := h.read fun x => x.sensed p
theorem quiet (p : ProfileEntry) (w : Watch) : (g.door d).quiet p w = x.quiet p w := h.read fun x => x.quiet p w

theorem cast {y : Door} (hy : x = y) : Made A d y b g := hy ▸ h

/-! ### Single changes -/

theorem upd (f : Door → Door) (hf : ∀ x s, (f { x with sup := s }).core = (f x).core := by exact fun _ _ => rfl) :
    Made A d (f x) b (g.upd e d f) := by
  have hcore : (f (g.door d)).core = (f x).core := by
    have hd := congrArg (fun y => (f y).core) h.door
    exact (hf _ _).symm.trans (hd.trans (hf _ _))
  refine ⟨?_, by rw [Unqueued, upd_queue]; exact h.unqueued, fun a => ?_⟩
  · exact (door_upd_read e d f g Door.core).trans hcore
  · rw [upd_queue, upd_seqr]
    exact h.alone a

theorem updEng (f : Engine → Engine) : Made A d { x with eng := f x.eng } b (updEng e d f g) := h.upd fun x => { x with eng := f x.eng }

theorem setCharge (c : Charge) : Made A d { x with charge := c } b (setCharge d c g) := by
  refine ⟨?_, h.unqueued, h.alone⟩
  show ((g.putDoor d { g.door d with charge := c }).door d).core = _
  rw [door_putDoor_same]
  exact congrArg (fun y : Door => { y with charge := c }) h.door

theorem exceptions (xs : List ExceptionEntry) : Made A d x b { g with exceptions := xs } := ⟨h.door, h.unqueued, h.alone⟩

theorem listException {door : Option DoorNo} {k : Kind} {sub : Option SubReason} : Made A d x b (listException e door k sub g) :=
  h.exceptions _

theorem enterState (st : DoorState) : Made A d { x with eng := x.eng.enter st } b (enterState e d st g) :=
  h.upd fun x => { x with eng := x.eng.enter st }

theorem startTimer (n : Nat) : Made A d { x with eng := { x.eng with timer := .start n } } b (startTimer e d n g) :=
  h.upd fun x => { x with eng := { x.eng with timer := .start n } }

theorem clearWatch : Made A d { x with mon := { x.mon with watch := none } } b (clearWatch e d g) :=
  h.upd fun x => { x with mon := { x.mon with watch := none } }

theorem dropPending : Made A d { x with eng := { x.eng with pendingTarget := none } } b (dropPending e d g) :=
  h.upd fun x => { x with eng := { x.eng with pendingTarget := none } }

theorem cancelPulse : Made A d { x with drop := { x.drop with pulse := x.drop.pulse.cancel } } b (cancelPulse e d g) :=
  h.upd fun x => { x with drop := { x.drop with pulse := x.drop.pulse.cancel } }

theorem clearLive (ks : List Kind) :
    Made A d { x with eng := { x.eng with live := ks.foldl (fun l k => l.put k false) x.eng.live } } b (clearLive e d ks g) :=
  h.upd fun x => { x with eng := { x.eng with live := ks.foldl (fun l k => l.put k false) x.eng.live } }

theorem raiseKind (k : Kind) (sub : Option SubReason) :
    Made A d { x with eng := { x.eng with live := x.eng.live.put k true, sticky := x.eng.sticky.set k sub } } b
      (raiseKind e d k sub g) :=
  (h.upd fun x => { x with eng := { x.eng with live := x.eng.live.put k true, sticky := x.eng.sticky.set k sub } }).exceptions _

theorem startDeferral : Made A d { x with eng := { x.eng with
    deferral := .ofLimit x.eng.params.deferralLimit, deferralSub := 0 } } b (startDeferral e d g) := by
  unfold Machine.startDeferral
  exact h.updEng fun x => { x with deferral := .ofLimit x.params.deferralLimit, deferralSub := 0 }

theorem answer (owed : Option Nat) (o : DoorOutcome) : Made A d x (answer e d owed o b) (answer e d owed o g) := by
  rw [answer_eq e d owed o g]
  exact ⟨h.door, h.unqueued, fun a => ⟨(h.alone a).1, answer_seqr (h.alone a).2⟩⟩

theorem answerOwed (o : DoorOutcome) :
    Made A d { x with eng := { x.eng with owed := none } } (Machine.answer e d x.eng.owed o b) (answerOwed e d o g) := by
  unfold Machine.answerOwed
  dsimp only
  rw [h.eng]
  exact (h.upd fun x => { x with eng := { x.eng with owed := none } }).answer _ _

theorem answerPending (o : DoorOutcome) :
    Made A d { x with eng := { x.eng with pendingTarget := x.eng.pendingTarget.map fun q => { q with owed := none } } }
      (Machine.answer e d (x.eng.pendingTarget.bind fun q => q.owed) o b) (answerPending e d o g) := by
  unfold Machine.answerPending
  rw [h.eng]
  cases hq : x.eng.pendingTarget with
  | none => exact h.cast (by rw [Option.map_none, ← hq])
  | some q => exact (h.upd fun x => { x with eng := { x.eng with pendingTarget := some { q with owed := none } } }).answer _ _

/-! ### The arbiter -/

theorem consider : Made A d x b (consider e g) := by
  obtain ⟨hdoor, hq⟩ := consider_aside (e := e) h.unqueued
  refine ⟨by rw [hdoor]; exact h.door, hq, fun a => ?_⟩
  rw [consider_no_queue (h.alone a).1]
  exact h.alone a

theorem withdraw : Made A d x b (withdraw e d g) := by
  rw [withdraw_of_unqueued h.unqueued]
  exact h

theorem forceDriveOff : Made A d { x with charge := x.afterDriveOff (e.profile d), eng := { x.eng with drive := false } } b
    (forceDriveOff e d g) := by
  unfold Machine.forceDriveOff
  dsimp only
  rw [h.read fun x => x.afterDriveOff (e.profile d)]
  exact ((h.setCharge (x.afterDriveOff (e.profile d))).upd (e := e) fun x => { x with eng := { x.eng with drive := false } }).consider

end

end Made

/-- The drive request takes a level (R111): a change from ON to OFF leaves the charge of a drive-off. -/
def Door.driven (p : ProfileEntry) (on : Bool) (x : Door) : Door :=
  if on then { x with eng := { x.eng with drive := true } }
  else if x.eng.drive then { x with charge := x.afterDriveOff p, eng := { x.eng with drive := false } }
  else x

theorem Door.driven_drive (p : ProfileEntry) (on : Bool) (x : Door) : (x.driven p on).eng.drive = on := by
  unfold Door.driven
  cases on with
  | true => rfl
  | false =>
    rw [if_neg Bool.false_ne_true]
    split
    · rfl
    · next h => exact Bool.eq_false_iff.mpr h

/-- A change of the drive request alters that and the charge. -/
theorem Door.driven_eq (p : ProfileEntry) (on : Bool) (x : Door) :
    x.driven p on = { x with charge := (x.driven p on).charge, eng := { x.eng with drive := on } } := by
  unfold Door.driven
  cases on with
  | true => rfl
  | false =>
    rw [if_neg Bool.false_ne_true]
    split
    · rfl
    · next h => rw [← Bool.eq_false_iff.mpr h]

/-- A door that leaves HOLDING takes its drive request from its held levels, a MOTOR door OFF (R111). -/
def Door.leaving (p : ProfileEntry) (free : Bool) (x : Door) : Door :=
  if x.eng.state = .holding then
    x.driven p (p.lockKind != .motor && (if x.drop.held.isSome then x.heldDrive p else free))
  else x

/-- A door in SECURED or RELEASED (R111, R112, R115, R116, R125; log 21). -/
def Door.settledAt (p : ProfileEntry) (q : Posture) (x : Door) : Door :=
  let y := Door.driven p (restingDrive p.lockKind q) { x with
    eng := { x.eng.enter q.state with target := some q, deferral := .none, deferralSub := 0 } }
  { y with eng := { y.eng with owed := none, live := { y.eng.live with notSecured := false, notReleased := false } } }

/-- A door in FAULTED at the end of an attempt (R112, R115, R116, R125). -/
def Door.faultedBy (k : Kind) (x : Door) : Door := { x with
  eng := { x.eng.enter .faulted with
    deferral := .none, deferralSub := 0, owed := none, live := x.eng.live.put k true, sticky := x.eng.sticky.set k none } }

/-- A door in VERIFYING, its timer started (R125). -/
def Door.verifying (p : ProfileEntry) (x : Door) : Door := { x with
  eng := { x.eng.enter .verifying with timer := .start p.verifyTime } }

theorem Door.verifying_sensed (p : ProfileEntry) (x : Door) : (x.verifying p).sensed p = x.sensedAs x.eng.target p := if_pos rfl

/-- A door in QUIET_WAIT with its watch set (R120). -/
def Door.waiting (x : Door) : Door := { x with
  eng := x.eng.enter .quietWait, mon := { x.mon with watch := some ⟨x.eng.params.threshold, x.eng.force⟩ } }

namespace Made

variable {A : Prop} {e : Env} {d : DoorNo} {x : Door} {b g : Segment} (h : Made A d x b g)

include h

theorem turnDriveOff : Made A d (x.driven (e.profile d) false) b (turnDriveOff e d g) := by
  unfold Machine.turnDriveOff Door.driven
  rw [h.eng, if_neg Bool.false_ne_true]
  split <;> [exact h.forceDriveOff; exact h]

theorem setDrive (on : Bool) : Made A d (x.driven (e.profile d) on) b (setDrive e d on g) := by
  cases on with
  | true => exact h.upd fun x => { x with eng := { x.eng with drive := true } }
  | false => exact h.turnDriveOff

theorem leaveHolding : ∃ free, Made A d (x.leaving (e.profile d) free) b (leaveHolding e d g) := by
  have hfree : Made A d x b { g with free := g.free + 1 } := ⟨h.door, h.unqueued, h.alone⟩
  refine ⟨Config.unheldDrive g.free, ?_⟩
  unfold Machine.leaveHolding Door.leaving
  dsimp only
  rw [h.eng, h.drop, h.read fun x => x.heldDrive (e.profile d)]
  by_cases hs : x.eng.state = .holding
  · have hne : ¬ (x.eng.state != .holding) = true := by simp [hs]
    rw [if_neg hne, if_pos hs]
    by_cases hm : (e.profile d).lockKind = .motor
    · have hkind : ((e.profile d).lockKind != .motor) = false := by simp [hm]
      rw [if_pos hm, hkind, Bool.false_and]
      exact h.setDrive false
    · have hkind : ((e.profile d).lockKind != .motor) = true := bne_iff_ne.mpr hm
      rw [if_neg hm, hkind, Bool.true_and]
      cases hheld : x.drop.held with
      | some v => exact h.setDrive _
      | none => exact hfree.setDrive _
  · rw [if_pos (show (x.eng.state != .holding) = true from bne_iff_ne.mpr hs), if_neg hs]
    exact h

theorem leaveHolding_not (hs : x.eng.state ≠ .holding) : Made A d x b (Machine.leaveHolding e d g) := by
  obtain ⟨free, hleft⟩ := h.leaveHolding (e := e)
  exact hleft.cast (if_neg hs)

theorem settleAt (q : Posture) (o : DoorOutcome) :
    Made A d (x.settledAt (e.profile d) q) (Machine.answer e d x.eng.owed o b) (settleAt e d q o g) := by
  have entered := (h.updEng (e := e) fun x => { x.enter q.state with target := some q, deferral := .none, deferralSub := 0 }).setDrive
    (e := e) (restingDrive (e.profile d).lockKind q)
  have told := (entered.clearLive (e := e) [.notSecured, .notReleased]).answerOwed (e := e) o
  have howed : (Door.driven (e.profile d) (restingDrive (e.profile d).lockKind q) { x with
      eng := { x.eng.enter q.state with target := some q, deferral := .none, deferralSub := 0 } }).eng.owed = x.eng.owed := by
    rw [Door.driven_eq]
    rfl
  dsimp only at told
  rw [howed] at told
  exact told

theorem enterFaulted (k : Kind) : Made A d (x.faultedBy k) (Machine.answer e d x.eng.owed .failed b) (enterFaulted e d k g) :=
  ((h.updEng fun x => { x.enter .faulted with deferral := .none, deferralSub := 0 }).raiseKind k none).answerOwed .failed

theorem verifyStarted : Made A d (x.verifying (e.profile d)) b
    (Machine.startTimer e d (e.profile d).verifyTime (Machine.enterState e d .verifying g)) :=
  (h.enterState .verifying).startTimer _

/-- VERIFYING, where the target is sensed at once. -/
theorem enterVerifying_reached {q : Posture} (hq : x.eng.target = some q) (hs : x.sensedAs (some q) (e.profile d) = some q) :
    Made A d ((x.verifying (e.profile d)).settledAt (e.profile d) q) (Machine.answer e d x.eng.owed .done b) (enterVerifying e d g) := by
  have started := h.verifyStarted (e := e)
  unfold Machine.enterVerifying
  dsimp only
  rw [started.eng, started.sensed, Door.verifying_sensed, hq, hs]
  show Made A d _ _ (match x.eng.target with | some p => _ | none => _)
  rw [hq]
  dsimp only
  rw [if_pos rfl]
  exact started.settleAt q .done

/-- VERIFYING, where the target is not sensed yet. -/
theorem enterVerifying_waits (hs : ∀ q, x.eng.target = some q → x.sensedAs (some q) (e.profile d) ≠ some q) :
    Made A d (x.verifying (e.profile d)) b (enterVerifying e d g) := by
  have started := h.verifyStarted (e := e)
  unfold Machine.enterVerifying
  dsimp only
  rw [started.eng, started.sensed, Door.verifying_sensed]
  show Made A d _ _ (match x.eng.target with | some p => _ | none => _)
  cases hq : x.eng.target with
  | none => exact started
  | some q =>
    dsimp only
    rw [if_neg (hs q hq)]
    exact started

end Made

end Sys2Proof.Machine
end

section
/-! The arbiter's grants, refusals and reversions as functions of the door (R89, R90, R119, R123). -/

namespace Sys2Proof.Machine

theorem unqueued_dequeue (d : DoorNo) (g : Segment) : Unqueued d (dequeue d g) := fun _ hq => not_queued_after_dequeue hq

/-- A door taken out of the queue. -/
theorem made_dequeue (d : DoorNo) (g : Segment) : Made False d (g.door d) (dequeue d g) (dequeue d g) :=
  .refl (unqueued_dequeue d g) False.elim

/-- The work of one door leaves every other door. -/
theorem onlyDoorWork (e : Env) (d : DoorNo) (g0 : Segment) : DoorWork e (fun j => j = d) (OnlyDoor d g0) where
  door := fun hj _ hg i hi => (door_putDoor_ne _ _ _ _ (hj ▸ hi)).trans (hg i hi)
  queue := fun _ hg => hg
  exceptions := fun hg => hg
  free := fun hg => hg
  outcome := fun _ hg => by rw [recordOutcome_eq]; exact hg

theorem OnlyDoor.refl (d : DoorNo) (g : Segment) : OnlyDoor d g g := fun _ _ => rfl

/-! ## A reversion -/

/-- A door whose waiting stops (R119). -/
def Door.stopped (x : Door) : Door := { x with
  eng := { x.eng with timer := .stopped, deferral := .none, deferralSub := 0 }, mon := { x.mon with watch := none } }

/-- A door that takes the state and the target of a reversion (R112, R119). -/
def Door.comesTo (back : DoorState × Option Posture) (x : Door) : Door := { x with
  eng := { x.eng.enter back.1 with
    target := back.2
    live := if back.1 = .secured ∨ back.1 = .released then { x.eng.live with notSecured := false, notReleased := false } else x.eng.live } }

/-- A door as a reversion leaves it (R119). -/
def Door.reverted (p : ProfileEntry) (x : Door) : Door := x.stopped.comesTo (x.revertTo p)

theorem Made.revert {A : Prop} {e : Env} {d : DoorNo} {x : Door} {b g : Segment} (h : Made A d x b g) :
    Made A d (x.reverted (e.profile d)) b (revert e d g) := by
  have stopped : Made A d x.stopped b (stopWaiting e d g) := by
    unfold stopWaiting
    rw [dequeue_of_unqueued h.unqueued]
    exact h.upd Door.stopped
  have hback : ((stopWaiting e d g).door d).revertTo (e.profile d) = x.revertTo (e.profile d) :=
    stopped.read fun x => x.revertTo (e.profile d)
  have entered := stopped.upd (e := e) fun y => { y with
    eng := { y.eng.enter (x.revertTo (e.profile d)).1 with target := (x.revertTo (e.profile d)).2 } }
  unfold Machine.revert Door.reverted Door.comesTo
  dsimp only
  rw [hback]
  split
  · exact entered.clearLive (e := e) [.notSecured, .notReleased]
  · exact entered

theorem revert_seqr (e : Env) (d : DoorNo) (g : Segment) : (revert e d g).seqr = g.seqr := by
  unfold revert stopWaiting clearLive
  dsimp only
  split <;> simp only [upd_seqr, dequeue_seqr]

theorem revert_dequeue (e : Env) (d : DoorNo) (g : Segment) : revert e d (dequeue d g) = revert e d g := by
  unfold revert stopWaiting
  rw [dequeue_of_unqueued (unqueued_dequeue d g)]

/-- A reversion takes the door out of the queue and reverts it. -/
theorem revert_made (e : Env) (d : DoorNo) (g : Segment) :
    Made False d ((g.door d).reverted (e.profile d)) (dequeue d g) (revert e d g) := by
  rw [← revert_dequeue]
  exact (made_dequeue d g).revert

/-- R119's table, line by line, of a door and what it reverts to. -/
theorem revertTo_table (p : ProfileEntry) (x : Door) :
    (x.eng.fallback = .none → x.revertTo p = (.holding, none))
    ∧ (x.eng.fallback = .faulted → x.revertTo p = (.faulted, x.eng.beforeAttempt))
    ∧ (x.eng.fallback = .secured → x.sensedOutside p = some .secured → x.revertTo p = (.secured, some .secured))
    ∧ (x.eng.fallback = .secured → x.sensedOutside p ≠ some .secured → x.revertTo p = (.holding, none))
    ∧ (x.eng.fallback = .released →
      let stays : Prop := x.sensedOutside p = some .released
        ∨ (p.lockKind = .motor ∧ x.sensedOutside p = none ∧ x.eng.pulseInAttempt = false)
      (stays → x.revertTo p = (.released, some .released)) ∧ (¬ stays → x.revertTo p = (.holding, none))) := by
  refine ⟨fun h => ?_, fun h => ?_, fun h hs => ?_, fun h hs => ?_, fun h => ⟨fun hs => ?_, fun hs => ?_⟩⟩ <;> unfold Door.revertTo <;> rw [h]
  · exact if_pos hs
  · exact if_neg hs
  · dsimp only
    by_cases hr : x.sensedOutside p = some .released
    · rw [if_pos hr]
    · rw [if_neg hr, if_pos (by simpa using hs.resolve_left hr)]
  · obtain ⟨hr, hm⟩ := not_or.mp hs
    dsimp only
    rw [if_neg hr, if_neg (by simpa using hm)]

/-! ## A grant and a refusal -/

/-- A door as a grant leaves it (R89, R123, R124; log 49). -/
def Door.granted (p : ProfileEntry) (x : Door) : Door :=
  let y : Door := { x with charge := ⟨p.runUnits, .run, 0, 0⟩, eng := x.eng.enter .driving }
  if p.lockKind = .motor then
    if x.drop.firstReply then
      { y with
        drop := { y.drop with
          pulseSeq := y.drop.pulseSeq + 1
          pulse := if y.drop.pulseSeq + 1 != y.drop.lastSeq then .outstanding (pulseFor x.eng.target) else .held (pulseFor x.eng.target) }
        eng := { y.eng with pulseInAttempt := true, pulseAcked := false, pulseRunTime := p.runTime } }
    else { y with eng := { y.eng with pulseAcked := false, pulseRunTime := 0 } }
  else { y with eng := { y.eng with drive := true, timer := .start p.runTime } }

theorem grant_made (e : Env) (d : DoorNo) (g : Segment) :
    Made False d ((g.door d).granted (e.profile d)) (dequeue d g) (grant e d g) := by
  have driving := (((made_dequeue d g).setCharge ⟨(e.profile d).runUnits, .run, 0, 0⟩).enterState (e := e) .driving)
  unfold grant Door.granted
  dsimp only
  by_cases hm : (e.profile d).lockKind = .motor
  · rw [if_pos hm, if_pos hm, driving.drop, driving.eng]
    by_cases hf : (g.door d).drop.firstReply = true
    · have hf' : (g.door d).drop.firstReply = true := hf
      show Made False d _ _ (if (g.door d).drop.firstReply = true then _ else _)
      rw [if_pos hf', if_pos hf]
      exact driving.upd fun x => { x with
        drop := { x.drop with
          pulseSeq := x.drop.pulseSeq + 1
          pulse := if x.drop.pulseSeq + 1 != x.drop.lastSeq then .outstanding (pulseFor (g.door d).eng.target)
            else .held (pulseFor (g.door d).eng.target) }
        eng := { x.eng with pulseInAttempt := true, pulseAcked := false, pulseRunTime := (e.profile d).runTime } }
    · show Made False d _ _ (if (g.door d).drop.firstReply = true then _ else _)
      rw [if_neg hf, if_neg hf]
      exact driving.upd fun x => { x with eng := { x.eng with pulseAcked := false, pulseRunTime := 0 } }
  · rw [if_neg hm, if_neg hm]
    exact driving.upd fun x => { x with eng := { x.eng with drive := true, timer := .start (e.profile d).runTime } }

/-- A door that is told BUDGET (R90). -/
def Door.budgeted (x : Door) : Door := { x with
  eng := { x.eng with
    owed := none, live := x.eng.live.put .budget true, sticky := x.eng.sticky.set .budget none } }

theorem refuse_made (e : Env) (d : DoorNo) (g : Segment) : ∃ b,
    Made False d ((g.door d).budgeted.reverted (e.profile d)) b (refuse e d g) :=
  ⟨_, ((((made_dequeue d g).answerOwed (e := e) .budget).raiseKind (e := e) .budget none).revert (e := e))⟩

end Sys2Proof.Machine
end

section
/-! The consideration of the queue, head by head (R89 to R91, R119, R123), and the drive-offs (R94, R95). -/

namespace Sys2Proof.Machine

/-! ## One head of the queue -/

section
variable {e : Env} {g : Segment} {q : QueueEntry} {rest : List QueueEntry}

theorem consider_idle (h : g.learning = true ∨ g.fire.latch = true ∨ g.queue = []) : consider e g = g := by
  rcases h with h | h | h
  · exact if_pos (by rw [h, Bool.true_or])
  · exact consider_latched h
  · exact consider_no_queue h

theorem consider_step (hq : g.queue = q :: rest) (hl : g.learning = false) (hf : g.fire.latch = false) :
    consider e g = if fits e q.door g then considerLoop e rest.length (grant e q.door g)
      else if othersFalling q.door g then g else considerLoop e rest.length (refuse e q.door g) := by
  unfold consider
  rw [if_neg (by simp [hl, hf]), hq, List.length_cons, considerLoop]
  split
  · next h => simp [h] at hq
  · next q' _ h =>
    obtain ⟨rfl, -⟩ := List.cons.inj (h.symm.trans hq)
    rfl

theorem consider_after (h : Segment) (hq : h.queue = rest) (hl : h.learning = false) (hf : h.fire.latch = false) :
    considerLoop e rest.length h = consider e h := by
  unfold consider
  rw [if_neg (by simp [hl, hf]), hq]

theorem filter_head (hrest : ∀ x ∈ rest, x.door ≠ q.door) : (q :: rest).filter (fun x => x.door != q.door) = rest := by
  rw [List.filter_cons_of_neg (by simp)]
  exact List.filter_eq_self.mpr fun x hx => bne_iff_ne.mpr (hrest x hx)

theorem othersFalling_iff (d : DoorNo) (g : Segment) : othersFalling d g = true ↔
    ∃ j, j ≠ d ∧ (((g.door j).charge.basis = .run ∧ (g.door j).drop.lost = false) ∨ (g.door j).charge.basis = .tail) := by
  simp [othersFalling, Door.falling, List.any_eq_true, mem_allDoors]

variable (hq : g.queue = q :: rest) (hrest : ∀ x ∈ rest, x.door ≠ q.door) (hl : g.learning = false) (hf : g.fire.latch = false)
include hq hrest

theorem grant_queue : (grant e q.door g).queue = rest := by
  rw [(grant_leaves e q.door g).queue, hq, filter_head hrest]

theorem refuse_queue : (refuse e q.door g).queue = rest := by
  rw [(refuse_leaves e q.door g).queue, hq, filter_head hrest]

include hl hf

theorem consider_grants (hfit : fits e q.door g = true) : consider e g = consider e (grant e q.door g) := by
  rw [consider_step hq hl hf, if_pos hfit]
  exact consider_after _ (grant_queue hq hrest) ((learningWork e false).grant trivial hl)
    (by rw [(fireWork e g.fire).grant trivial rfl]; exact hf)

omit hrest in
theorem consider_waits (hfit : fits e q.door g = false) (hfall : othersFalling q.door g = true) : consider e g = g := by
  rw [consider_step hq hl hf, if_neg (by simp [hfit]), if_pos hfall]

theorem consider_refuses (hfit : fits e q.door g = false) (hfall : othersFalling q.door g = false) :
    consider e g = consider e (refuse e q.door g) := by
  rw [consider_step hq hl hf, if_neg (by simp [hfit]), if_neg (by simp [hfall])]
  exact consider_after _ (refuse_queue hq hrest) ((learningWork e false).refuse trivial hl)
    (by rw [(fireWork e g.fire).refuse trivial rfl]; exact hf)

end

/-! ## What a grant, a refusal and a reversion make of the door -/

section
variable (p : ProfileEntry) (x : Door)

theorem granted_state : (x.granted p).eng.state = .driving := by
  unfold Door.granted
  dsimp only
  split
  · split <;> rfl
  · rfl

theorem granted_charge : (x.granted p).charge = ⟨p.runUnits, .run, 0, 0⟩ := by
  unfold Door.granted
  dsimp only
  split
  · split <;> rfl
  · rfl

theorem granted_held (h : p.lockKind ≠ .motor) :
    (x.granted p).eng.drive = true ∧ (x.granted p).eng.timer = ⟨p.runTime, 0, true⟩ := by
  unfold Door.granted
  dsimp only
  rw [if_neg h]
  exact ⟨rfl, rfl⟩

theorem granted_motor (h : p.lockKind = .motor) : (x.granted p).eng.timer.running = false ∧ (x.granted p).eng.pulseAcked = false
    ∧ (x.drop.firstReply = true → (x.granted p).eng.pulseInAttempt = true ∧ (x.granted p).eng.pulseRunTime = p.runTime
      ∧ (x.granted p).drop.pulseSeq = x.drop.pulseSeq + 1)
    ∧ (x.drop.firstReply = false → (x.granted p).drop = x.drop ∧ (x.granted p).eng.pulseRunTime = 0) := by
  unfold Door.granted
  dsimp only
  rw [if_pos h]
  cases hf : x.drop.firstReply with
  | true => exact ⟨rfl, rfl, fun _ => ⟨rfl, rfl, rfl⟩, fun h => Bool.noConfusion h⟩
  | false => exact ⟨rfl, rfl, fun h => Bool.noConfusion h, fun _ => ⟨rfl, rfl⟩⟩

theorem comesTo_live (st : DoorState) (t : Option Posture) (hst : t.isSome = true → st ≠ .faulted → st = .secured ∨ st = .released) :
    (x.comesTo (st, t)).eng.state = st ∧ (x.comesTo (st, t)).eng.target = t
    ∧ (t.isSome = true → st ≠ .faulted →
        (x.comesTo (st, t)).eng.live.notSecured = false ∧ (x.comesTo (st, t)).eng.live.notReleased = false) := by
  refine ⟨rfl, rfl, fun ht hs => ?_⟩
  unfold Door.comesTo
  dsimp only
  rw [if_pos (hst ht hs)]
  exact ⟨rfl, rfl⟩

end

/-- A drive-off is a change of the door, and a consideration of the queue (R94, R95). -/
theorem forceDriveOff_eq (e : Env) (d : DoorNo) (g : Segment) : forceDriveOff e d g =
    consider e (g.upd e d fun x => { x with charge := (g.door d).afterDriveOff (e.profile d), eng := { x.eng with drive := false } }) := by
  refine congrArg (consider e) ?_
  unfold setCharge Segment.upd
  dsimp only
  rw [door_putDoor_same, putDoor_putDoor, putDoor_putDoor]
  rfl

theorem tailEnd_eq (e : Env) (d : DoorNo) (g : Segment) : tailEnd e d g =
    if (g.door d).charge.basis = .tail then consider e (g.putDoor d { g.door d with charge := ⟨0, .none, 0, 0⟩ }) else g := rfl

/-- The exception list sees a door's live flags alone. -/
theorem active_put_same_live (g : Segment) (d : DoorNo) (x : Door) (hx : x.eng.live = (g.door d).eng.live) (y : ExceptionEntry) :
    y.active (g.putDoor d x) = y.active g := by
  unfold ExceptionEntry.active
  split
  · next j _ =>
    rw [door_putDoor]
    split
    · next h => rw [hx, h]
    · rfl
  · rfl

theorem answer_putDoor (e : Env) (d j : DoorNo) (owed : Option Nat) (o : DoorOutcome) (g : Segment) (x : Door) :
    answer e d owed o (g.putDoor j x) = (answer e d owed o g).putDoor j x := by
  rw [answer_eq e d owed o (g.putDoor j x), answer_eq e d owed o g]
  exact congrArg (fun s => ({ g.putDoor j x with seqr := s } : Segment)) (answer_seqr rfl)

theorem answer_door (e : Env) (d j : DoorNo) (owed : Option Nat) (o : DoorOutcome) (g : Segment) :
    (answer e d owed o g).door j = g.door j := by
  rw [answer_eq]
  rfl

theorem answer_exceptions (e : Env) (d : DoorNo) (owed : Option Nat) (o : DoorOutcome) (g : Segment) :
    (answer e d owed o g).exceptions = g.exceptions := by
  rw [answer_eq]

theorem active_answer (e : Env) (d : DoorNo) (owed : Option Nat) (o : DoorOutcome) (g : Segment) (y : ExceptionEntry) :
    y.active (answer e d owed o g) = y.active g := by
  rw [answer_eq]
  rfl

/-- A refusal: the answer, the sticky flag and the exception, and the reversion (R90). -/
theorem refuse_eq (e : Env) (d : DoorNo) (g : Segment) : refuse e d g = revert e d
    { answer e d (g.door d).eng.owed .budget ((dequeue d g).putDoor d { g.door d with
        eng := { (g.door d).eng with owed := none, sticky := { (g.door d).eng.sticky with budget := true } } }) with
      exceptions := handException (fun x => x.active g) (some d) .budget none e.minute g.exceptions } := by
  have howed : answerOwed e d .budget (dequeue d g) =
      (answer e d (g.door d).eng.owed .budget (dequeue d g)).putDoor d
        { g.door d with eng := { (g.door d).eng with owed := none } } := by
    unfold answerOwed
    dsimp only
    rw [upd_same_level _ _ _ _ rfl, answer_putDoor, dequeue_door]
  have hraised (h : Segment) (x : Door) : raiseKind e d .budget none (h.putDoor d x) = listException e (some d) .budget none
      (h.putDoor d { x with eng := { x.eng with sticky := { x.eng.sticky with budget := true } } }) := by
    rw [raiseKind, upd_same_level _ _ _ _ rfl, door_putDoor_same, putDoor_putDoor]
    rfl
  refine congrArg (revert e d) ?_
  rw [howed, hraised, ← answer_putDoor, listException, answer_exceptions]
  refine congrArg (fun a => ({ answer e d (g.door d).eng.owed .budget ((dequeue d g).putDoor d { g.door d with
        eng := { (g.door d).eng with owed := none, sticky := { (g.door d).eng.sticky with budget := true } } }) with
      exceptions := handException a (some d) .budget none e.minute g.exceptions } : Segment)) (funext fun y => ?_)
  rw [active_answer, active_put_same_live _ _ _ (by rfl)]
  rfl

/-- Settles O48: the head of the queue in its three cases, the end of a tail, the reversion and the drive-off. -/
theorem arbiterConsiders : Obligations.ArbiterConsiders := by
  refine ⟨fun e g => consider_idle, fun e g q rest hq hrest hl hf => ?_, fun d s hp => ⟨fun hb => ?_, fun hb => ?_⟩, fun e d g => ?_,
    fun e d g => ⟨?_, fun h => if_pos h, fun h => if_neg (by simp [h])⟩⟩
  · have hg := grant_made e q.door g
    obtain ⟨b, hr⟩ := refuse_made e q.door g
    have hfits : fits e q.door g = true ↔
        g.load - (g.door q.door).charge.units + (e.profile q.door).runUnits ≤ e.work.segment.value.capacity := by
      simp [fits]
    refine ⟨fun hfit => ⟨consider_grants hq hrest hl hf (hfits.2 hfit), ?_, ?_, grant_queue hq hrest,
        (onlyDoorWork e q.door g).grant rfl (OnlyDoor.refl _ g), fun hk => ?_, fun hk => ?_⟩, fun hfit hfall => ?_, fun hfit hfall => ?_⟩
    · rw [hg.eng]
      exact granted_state _ _
    · rw [hg.charge]
      exact granted_charge _ _
    · rw [hg.eng]
      exact granted_held _ _ hk
    · rw [hg.eng, hg.drop]
      exact granted_motor _ _ hk
    · exact consider_waits hq hl hf (Bool.eq_false_iff.mpr fun h => hfit (hfits.1 h)) ((othersFalling_iff _ _).2 hfall)
    · have hnone : othersFalling q.door g = false := Bool.eq_false_iff.mpr fun h => by
        obtain ⟨j, hj, hfj⟩ := (othersFalling_iff _ _).1 h
        exact hfall j hj hfj
      refine ⟨consider_refuses hq hrest hl hf (Bool.eq_false_iff.mpr fun h => hfit (hfits.1 h)) hnone, refuse_queue hq hrest, ?_, ?_, ?_,
        ?_, ?_, ?_⟩
      · rw [hr.charge]
        rfl
      · rw [hr.eng]
        rfl
      · rw [hr.eng]
        rfl
      · rw [hr.eng, (revert_made e q.door g).eng]
        rfl
      · rw [hr.eng, (revert_made e q.door g).eng]
        rfl
      · have hd : dequeue q.door g = { g with queue := rest } :=
          congrArg (fun l => ({ g with queue := l } : Segment)) (by rw [hq, filter_head hrest])
        rw [refuse_eq, hd]
  · exact congrArg Host.Outcome.next (runSegment_same _ s hp (if_neg hb))
  · exact congrArg Host.Outcome.next ((runSegment_eq _ s hp).trans (by rw [tailEnd_eq, if_pos hb]))
  · have hr := revert_made e d g
    obtain ⟨hnone, hfaulted, hsec, hnsec, hrel⟩ := revertTo_table (e.profile d) (g.door d)
    have comes (st : DoorState) (t : Option Posture) (h : (g.door d).revertTo (e.profile d) = (st, t))
        (hst : t.isSome = true → st ≠ .faulted → st = .secured ∨ st = .released) :
        ((revert e d g).door d).eng.state = st ∧ ((revert e d g).door d).eng.target = t
        ∧ (t.isSome = true → st ≠ .faulted → ((revert e d g).door d).eng.live.notSecured = false
          ∧ ((revert e d g).door d).eng.live.notReleased = false) := by
      rw [hr.eng, Door.reverted, h]
      exact comesTo_live _ st t hst
    refine ⟨(onlyDoorWork e d g).revert rfl (OnlyDoor.refl d g), (revert_leaves e d g).queue, revert_seqr e d g, ?_, ?_, ?_, ?_, ?_, ?_,
      ?_, fun h => ?_, fun h => ?_, fun h hs => ?_, fun h hs => ?_, fun h => ⟨fun hs => ?_, fun hs => ?_⟩⟩
    · rw [hr.eng]
      rfl
    · rw [hr.eng]
      rfl
    · rw [hr.eng]
      rfl
    · rw [hr.eng]
      rfl
    · rw [hr.mon]
      rfl
    · rw [hr.charge]
      rfl
    · rw [hr.drop]
      rfl
    · exact comes _ _ (hnone h) (by simp)
    · exact comes _ _ (hfaulted h) (by simp)
    · exact comes _ _ (hsec h hs) (by simp)
    · exact comes _ _ (hnsec h hs) (by simp)
    · exact comes _ _ ((hrel h).1 hs) (by simp)
    · exact comes _ _ ((hrel h).2 hs) (by simp)
  · rw [forceDriveOff_eq, afterDriveOff_eq]

end Sys2Proof.Machine
end

section
/-! The flash phase and the window clock (R45, R76, R77, R81, R82): the watch of a door found quiet is gone, whatever its notice and the
other doors' notices lead to. -/

namespace Sys2Proof.Machine

/-! ## The quiet test -/

theorem assigns_iff (p : ProfileEntry) (f : TermFn) : p.assigns f = true ↔ ∃ k : Fin 6, p.functions[k] = f := by
  rw [ProfileEntry.assigns, ProfileEntry.terminalOf, List.find?_isSome]
  exact ⟨fun ⟨k, _, hk⟩ => ⟨k, beq_iff_eq.mp hk⟩, fun ⟨k, hk⟩ => ⟨k, List.mem_finRange k, beq_iff_eq.mpr hk⟩⟩

theorem closed_iff (p : ProfileEntry) (x : Door) :
    x.closed p = true ↔ ((∃ k : Fin 6, p.functions[k] = .position) → x.inputs.position = some false) := by
  rw [← assigns_iff, Door.closed, Bool.or_eq_true, beq_iff_eq, Bool.not_eq_true']
  cases p.assigns .position <;> simp

theorem quiet_iff (p : ProfileEntry) (w : Watch) (x : Door) : x.quiet p w = true ↔
    ((∃ k : Fin 6, p.functions[k] = .position) → x.inputs.position = some false)
    ∧ (w.force = true ∨ (x.mon.activity ≤ w.threshold ∧ ∀ n, x.mon.sinceClose = some n → 10 * p.settleTime ≤ n)) := by
  rw [← closed_iff, Door.quiet, Bool.and_eq_true, Bool.or_eq_true, Bool.and_eq_true, decide_eq_true_iff]
  cases x.mon.sinceClose <;> simp

/-! ## Going forward -/

/-- What a door that goes on from its wait leaves: its watch, its deferral and what it owes stand or are gone, and a sticky
LEFT_RELEASED stands. -/
structure Eased (x y : Door) : Prop where
  watch : y.mon.watch = x.mon.watch ∨ y.mon.watch = none
  deferral : y.eng.deferral = x.eng.deferral ∨ y.eng.deferral = .none
  owed : y.eng.owed = x.eng.owed ∨ y.eng.owed = none
  left : x.eng.sticky.leftReleased = true → y.eng.sticky.leftReleased = true

theorem Eased.refl (x : Door) : Eased x x := ⟨.inl rfl, .inl rfl, .inl rfl, id⟩

theorem Eased.trans {x y z : Door} (a : Eased x y) (b : Eased y z) : Eased x z where
  watch := b.watch.elim (fun h => a.watch.imp h.trans h.trans) .inr
  deferral := b.deferral.elim (fun h => a.deferral.imp h.trans h.trans) .inr
  owed := b.owed.elim (fun h => a.owed.imp h.trans h.trans) .inr
  left := fun h => b.left (a.left h)

theorem Sticky.set_left {s : Sticky} (k : Kind) (sub : Option SubReason) (h : s.leftReleased = true) :
    (s.set k sub).leftReleased = true := by
  cases k with
  | leftReleased => rfl
  | _ => exact h

theorem granted_eased (p : ProfileEntry) (x : Door) : Eased x (x.granted p) := by
  unfold Door.granted
  dsimp only
  split
  · split <;> exact ⟨.inl rfl, .inl rfl, .inl rfl, id⟩
  · exact ⟨.inl rfl, .inl rfl, .inl rfl, id⟩

theorem refused_eased (p : ProfileEntry) (x : Door) : Eased x (x.budgeted.reverted p) :=
  ⟨.inr rfl, .inr rfl, .inr rfl, Sticky.set_left .budget none⟩

/-- The door has gone forward from x. -/
def Forward (d : DoorNo) (x : Door) (g : Segment) : Prop := Eased x (g.door d)

section
variable {e : Env} {d : DoorNo} {x : Door} {g : Segment}

theorem Forward.of_core {y : Door} (h : Eased x y) (hy : (g.door d).core = y.core) : Forward d x g := by
  have hmon : (g.door d).mon = y.mon := Door.core_read hy Door.mon
  have heng : (g.door d).eng = y.eng := Door.core_read hy Door.eng
  refine ⟨?_, ?_, ?_, ?_⟩
  · rw [hmon]; exact h.watch
  · rw [heng]; exact h.deferral
  · rw [heng]; exact h.owed
  · rw [heng]; exact h.left

theorem Forward.consider (h : Forward d x g) : Forward d x (consider e g) := by
  have others (j : DoorNo) (hj : d ≠ j) {g k : Segment} (hg : Forward d x g) (honly : OnlyDoor j g k) : Forward d x k := by
    rw [Forward, honly d hj]
    exact hg
  refine consider_keeps (P := Forward d x) (fun {g} q _ hg => ?_) (fun {g} q _ hg => ?_) h
  · by_cases hq : d = q.door
    · subst hq
      exact .of_core (hg.trans (granted_eased _ _)) (grant_made e q.door g).door
    · exact others _ hq hg ((onlyDoorWork e q.door g).grant rfl (OnlyDoor.refl _ g))
  · by_cases hq : d = q.door
    · subst hq
      obtain ⟨b, hr⟩ := refuse_made e q.door g
      exact .of_core (hg.trans (refused_eased _ _)) hr.door
    · exact others _ hq hg ((onlyDoorWork e q.door g).refuse rfl (OnlyDoor.refl _ g))

/-- The engines of the other doors leave the door, but for a grant or a refusal of its own. -/
theorem forwardWork (e : Env) (d : DoorNo) (x : Door) : EngineWork e (fun j => j ≠ d) (Forward d x) where
  door := fun {_ _ g} hj _ hg => by rw [Forward, door_putDoor_ne g _ d _ hj.symm]; exact hg
  queue := fun _ hg => hg
  exceptions := fun hg => hg
  free := fun hg => hg
  outcome := fun _ hg => by rw [recordOutcome_eq]; exact hg
  consider := fun hg => hg.consider

theorem Forward.upd {f : Door → Door} (h : Forward d x g)
    (hf : Eased (g.door d) (f (g.door d)) := by exact ⟨.inl rfl, .inl rfl, .inl rfl, id⟩) : Forward d x (g.upd e d f) := by
  have hcore : ((g.upd e d f).door d).core = (f (g.door d)).core :=
    door_upd_read e d f g Door.core
  exact .of_core (h.trans hf) hcore

theorem Forward.answer {owed : Option Nat} {o : DoorOutcome} (h : Forward d x g) : Forward d x (answer e d owed o g) := by
  rw [Forward, answer_door]
  exact h

theorem Forward.answerOwed {o : DoorOutcome} (h : Forward d x g) : Forward d x (answerOwed e d o g) := by
  unfold Machine.answerOwed
  exact (h.upd ⟨.inl rfl, .inl rfl, .inr rfl, id⟩).answer

theorem Forward.raiseKind {k : Kind} {sub : Option SubReason} (h : Forward d x g) : Forward d x (raiseKind e d k sub g) :=
  Forward.upd (e := e) h ⟨.inl rfl, .inl rfl, .inl rfl, Sticky.set_left k sub⟩

theorem Forward.clearWatch (h : Forward d x g) : Forward d x (clearWatch e d g) := by
  unfold Machine.clearWatch
  exact h.upd ⟨.inr rfl, .inl rfl, .inl rfl, id⟩

theorem Forward.turnDriveOff (h : Forward d x g) : Forward d x (turnDriveOff e d g) := by
  unfold Machine.turnDriveOff
  split
  · rw [forceDriveOff_eq]
    exact Forward.consider h.upd
  · exact h

theorem Forward.setDrive {on : Bool} (h : Forward d x g) : Forward d x (setDrive e d on g) := by
  unfold Machine.setDrive
  split
  · exact h.upd
  · exact h.turnDriveOff

theorem Forward.leaveHolding (h : Forward d x g) : Forward d x (leaveHolding e d g) := by
  unfold Machine.leaveHolding
  dsimp only
  split
  · exact h
  · split
    · exact h.setDrive
    · split
      · exact h.setDrive
      · exact Forward.setDrive (show Forward d x { g with free := g.free + 1 } from h)

theorem Forward.settleAt {q : Posture} {o : DoorOutcome} (h : Forward d x g) : Forward d x (settleAt e d q o g) := by
  have entered : Forward d x (updEng e d (fun x =>
      { x.enter q.state with target := some q, deferral := .none, deferralSub := 0 }) g) :=
    h.upd ⟨.inl rfl, .inr rfl, .inl rfl, id⟩
  unfold Machine.settleAt clearLive
  exact (Forward.upd entered.setDrive).answerOwed

theorem Forward.enterVerifying (h : Forward d x g) : Forward d x (enterVerifying e d g) := by
  have started : Forward d x (startTimer e d (e.profile d).verifyTime (enterState e d .verifying g)) :=
    Forward.upd (Forward.upd h)
  unfold Machine.enterVerifying
  dsimp only
  split
  · split <;> [exact started.settleAt; exact started]
  · exact started

theorem Forward.enterFaulted {k : Kind} (h : Forward d x g) : Forward d x (enterFaulted e d k g) := by
  have entered : Forward d x (updEng e d (fun x => { x.enter .faulted with deferral := .none, deferralSub := 0 }) g) :=
    h.upd ⟨.inl rfl, .inr rfl, .inl rfl, id⟩
  unfold Machine.enterFaulted
  exact entered.raiseKind.answerOwed

theorem Forward.awaitGrant (h : Forward d x g) : Forward d x (awaitGrant e d g) := by
  have entered : Forward d x (enterState e d .awaitGrant g) := h.upd
  unfold Machine.awaitGrant enqueue
  exact Forward.consider entered

theorem Forward.proceed (h : Forward d x g) : Forward d x (proceed e d g) := by
  unfold Machine.proceed whenWired
  split
  · split
    · exact h.turnDriveOff.enterVerifying
    · exact h.awaitGrant
  · exact h.enterFaulted

theorem Forward.quietNotice (h : Forward d x g) : Forward d x (quietNotice e d g) := by
  unfold Machine.quietNotice startTimer enterState
  dsimp only
  split
  · split
    · exact Forward.upd (h.upd)
    · exact h.proceed
  · exact h

theorem Forward.takeReleased {o : DoorOutcome} (h : Forward d x g) : Forward d x (takeReleased e d o g) := by
  have left := h.leaveHolding (e := e)
  unfold Machine.takeReleased
  dsimp only
  split
  · exact left.settleAt
  · split
    · exact left.settleAt
    · split
      · exact left.enterFaulted
      · split
        · exact left.turnDriveOff.enterVerifying
        · exact left.awaitGrant

theorem evaluateWatch_unquiet (h : ∀ w, (g.door d).mon.watch = some w → (g.door d).quiet (e.profile d) w = false) :
    evaluateWatch e d g = g := by
  unfold evaluateWatch
  dsimp only
  split
  · next w hw => rw [h w hw, if_neg Bool.false_ne_true]
  · rfl

/-- A door found quiet loses its watch. -/
theorem evaluateWatch_quiet (hq : ∀ w, (g.door d).mon.watch = some w → (g.door d).quiet (e.profile d) w = true) :
    ((evaluateWatch e d g).door d).mon.watch = none := by
  unfold evaluateWatch
  dsimp only
  split
  · next w hw =>
    rw [if_pos (hq w hw)]
    have cleared : ((clearWatch e d g).door d).mon.watch = none := by
      unfold clearWatch
      rw [upd_door_mon]
    have hgone := (show Forward d _ (clearWatch e d g) from Eased.refl _).quietNotice (e := e)
    exact hgone.watch.elim (fun h => h.trans cleared) id
  · next hn => exact hn

end

/-! ## The doors' watches one after another -/

section
variable {e : Env} {d : DoorNo} {g : Segment}

/-- A door that waits in no queue and is not quiet stands through the evaluation of all watches. -/
theorem evaluateWatches_aside (ds : List DoorNo) (hq : Unqueued d g)
    (h : ∀ w, (g.door d).mon.watch = some w → (g.door d).quiet (e.profile d) w = false) :
    Aside d g (forDoors ds (evaluateWatch e) g) := by
  refine EngineWork.forDoors (P := Aside d g) (fun j _ k hk => ?_) (.refl hq)
  by_cases hj : j = d
  · subst hj
    rw [evaluateWatch_unquiet (by rw [hk.door]; exact h)]
    exact hk
  · exact (asideWork e d g).evaluateWatch hj hk

/-- What the quiet test reads of the door does not change while doors' engines work. -/
theorem quiet_calm {x y : Door} (h : Calm x y) (p : ProfileEntry) (w : Watch) : y.quiet p w = x.quiet p w := by
  unfold Door.quiet Door.closed
  rw [h.inputs, h.mon]

/-- A watched door that is quiet is found so. -/
theorem evaluateWatches_quiet {w : Watch} (hw : (g.door d).mon.watch = some w) (hq : (g.door d).quiet (e.profile d) w = true) :
    ((forDoors allDoors (evaluateWatch e) g).door d).mon.watch = none := by
  have taken : ∀ (ds : List DoorNo) (k : Segment), Calm (g.door d) (k.door d) →
      (k.door d).mon.watch = (g.door d).mon.watch ∨ (k.door d).mon.watch = none →
      (d ∈ ds ∨ (k.door d).mon.watch = none) → ((forDoors ds (evaluateWatch e) k).door d).mon.watch = none := by
    intro ds
    induction ds with
    | nil => exact fun k _ _ hd => hd.resolve_left List.not_mem_nil
    | cons j ds ih =>
      intro k hcalm hwk hd
      have hcalm' : Calm (g.door d) ((evaluateWatch e j k).door d) := (calmWork e d (g.door d)).evaluateWatch trivial hcalm
      by_cases hj : j = d
      · subst hj
        have hgone : ((evaluateWatch e j k).door j).mon.watch = none := evaluateWatch_quiet fun v hv => by
          obtain rfl : v = w := by
            rcases hwk with h | h
            · exact Option.some.inj (hv.symm.trans (h.trans hw))
            · exact absurd (h.symm.trans hv) (by simp)
          exact (quiet_calm hcalm _ _).trans hq
        exact ih _ hcalm' (.inr hgone) (.inr hgone)
      · have hforward := (forwardWork e d (k.door d)).evaluateWatch hj (Eased.refl _)
        refine ih _ hcalm' ?_ (hd.imp (fun h => (List.mem_cons.mp h).resolve_left (Ne.symm hj)) fun h => ?_)
        · exact hforward.watch.elim (fun h => hwk.imp h.trans h.trans) .inr
        · exact hforward.watch.elim (fun h' => h'.trans h) id
  exact taken allDoors g (.refl _) (.inl rfl) (.inl (mem_allDoors d))

end

/-- The doors at the expiry of the window clock, before any watch is evaluated (R77). -/
def Segment.windowed (e : Env) (g : Segment) : Segment := { g with
  doors := vmap (fun x => { x with mon := x.mon.window }) g.doors
  window := ⟨e.work.segment.value.windowLength, 0⟩ }

theorem windowed_door (e : Env) (g : Segment) (d : DoorNo) :
    (g.windowed e).door d = { g.door d with mon := (g.door d).mon.window } := by
  simp only [Segment.windowed, Segment.door, vmap_get]

theorem windowEnd_eq (e : Env) (g : Segment) : windowEnd e g = forDoors allDoors (evaluateWatch e) (g.windowed e) := rfl

/-- Settles O52: every door's activity, the watches of the quiet doors, and the quiet test. -/
theorem flashAndWindow : Obligations.FlashAndWindow := by
  refine ⟨fun s hp => ⟨?_, ?_⟩, quiet_iff⟩
  · exact congrArg Host.Outcome.next (if_pos hp)
  · have hsides : KeepsSides (s.seg.windowed s.env) (windowEnd s.env s.seg) := by
      rw [windowEnd_eq]
      exact Kept.sides (EngineWork.forDoors (fun _ _ _ h => h.evaluateWatch) (Kept.refl _))
    refine ⟨windowEnd s.env s.seg, congrArg Host.Outcome.next (runSegment_eq _ s hp), hsides.window, hsides.exemptions, hsides.fire,
      hsides.branches, hsides.flash, fun d => ?_⟩
    have hcalm : Calm ((s.seg.windowed s.env).door d) ((windowEnd s.env s.seg).door d) := by
      rw [windowEnd_eq]
      exact EngineWork.forDoors (P := fun h => Calm ((s.seg.windowed s.env).door d) (h.door d))
        (fun _ _ _ h => (calmWork s.env d _).evaluateWatch trivial h) (Calm.refl _)
    have hdoor := windowed_door s.env s.seg d
    refine ⟨?_, ?_, fun hw hq => ?_, fun w hw hq => ?_⟩
    · rw [hcalm.mon, hdoor]
      rfl
    · rw [hcalm.mon, hdoor]
      rfl
    · rw [windowEnd_eq]
      refine (evaluateWatches_aside (d := d) (g := s.seg.windowed s.env) allDoors hq ?_).door.trans hdoor
      rw [hdoor]
      exact hw
    · rw [windowEnd_eq]
      refine evaluateWatches_quiet (w := w) ?_ ?_
      · rw [hdoor]
        exact hw
      · rw [hdoor]
        exact hq

end Sys2Proof.Machine
end

section
/-! The operations of one door as changes of its record alone, where no level of LOCK_DRIVE changes: the wait in QUIET_WAIT, its watch
and its warning (R82, R120 to R122), and the monitor (R68 to R80). -/

namespace Sys2Proof.Machine

/-! ## Changes of a door that is already changed -/

section
variable {e : Env} {d : DoorNo} {g : Segment} {x : Door}

theorem putDoor_upd (f : Door → Door) (h : (f x).lockLevel g.fire.latch (e.profile d) = x.lockLevel g.fire.latch (e.profile d)) :
    (g.putDoor d x).upd e d f = g.putDoor d (f x) := by
  rw [upd_same_level _ _ _ _ (by rw [door_putDoor_same]; exact h), door_putDoor_same, putDoor_putDoor]

/-- The LOCK_DRIVE level between two states that are neither HOLDING nor OUT_OF_SERVICE is the drive request. -/
theorem lockLevel_drive {latch : Bool} {p : ProfileEntry} {x y : Door} (hx : x.eng.state ∉ [DoorState.holding, .outOfService])
    (hy : y.eng.state ∉ [DoorState.holding, .outOfService]) (h : y.eng.drive = x.eng.drive) :
    y.lockLevel latch p = x.lockLevel latch p := by
  have level (z : Door) (hz : z.eng.state ∉ [DoorState.holding, .outOfService]) :
      z.lockLevel latch p = if latch then false else z.eng.drive := by
    simp only [List.mem_cons, List.not_mem_nil, or_false, not_or] at hz
    unfold Door.lockLevel
    split
    · rfl
    · split
      · next h => exact absurd h hz.2
      · next h => exact absurd h hz.1
      · rfl
  rw [level x hx, level y hy, h]

/-- Between states other than RELEASED and SECURED, entering one that is not settled changes the state and stops the timer. -/
theorem Engine.enter_unsettled (y : Engine) (st : DoorState) (hr : y.state ≠ .released) (hs : y.state ≠ .secured)
    (hst : st.settled = false) : y.enter st = { y with state := st, timer := ⟨0, 0, false⟩ } := by
  unfold Engine.enter
  simp [hr, hs, hst, Timer.stopped]

theorem updEng_put (f : Engine → Engine)
    (h : ({ x with eng := f x.eng } : Door).lockLevel g.fire.latch (e.profile d) = x.lockLevel g.fire.latch (e.profile d) := by rfl) :
    updEng e d f (g.putDoor d x) = g.putDoor d { x with eng := f x.eng } := putDoor_upd _ h

theorem updMon_put (f : Monitor → Monitor) : updMon e d f (g.putDoor d x) = g.putDoor d { x with mon := f x.mon } :=
  putDoor_upd _ rfl

theorem updEng_eq (f : Engine → Engine)
    (h : ({ g.door d with eng := f (g.door d).eng } : Door).lockLevel g.fire.latch (e.profile d)
      = (g.door d).lockLevel g.fire.latch (e.profile d) := by rfl) :
    updEng e d f g = g.putDoor d { g.door d with eng := f (g.door d).eng } := upd_same_level _ _ _ _ h

theorem clearWatch_put : clearWatch e d (g.putDoor d x) = g.putDoor d { x with mon := { x.mon with watch := none } } :=
  putDoor_upd _ rfl

theorem clearWatch_eq : clearWatch e d g = g.putDoor d { g.door d with mon := { (g.door d).mon with watch := none } } :=
  upd_same_level _ _ _ _ rfl

theorem raiseKind_put (k : Kind) (sub : Option SubReason) : raiseKind e d k sub (g.putDoor d x) = listException e (some d) k sub
    (g.putDoor d { x with eng := { x.eng with live := x.eng.live.put k true, sticky := x.eng.sticky.set k sub } }) :=
  congrArg (listException e (some d) k sub) (putDoor_upd _ rfl)

theorem clearLive_put (ks : List Kind) : clearLive e d ks (g.putDoor d x) =
    g.putDoor d { x with eng := { x.eng with live := ks.foldl (fun l k => l.put k false) x.eng.live } } := putDoor_upd _ rfl

/-! ## The watch and its notice -/

theorem evaluateWatch_put_unquiet (h : ∀ w, x.mon.watch = some w → x.quiet (e.profile d) w = false) :
    evaluateWatch e d (g.putDoor d x) = g.putDoor d x :=
  evaluateWatch_unquiet (by rw [door_putDoor_same]; exact h)

/-- A watch found quiet is gone, and its notice handed on. -/
theorem evaluateWatch_found {w : Watch} (hw : (g.door d).mon.watch = some w) (hq : (g.door d).quiet (e.profile d) w = true) :
    evaluateWatch e d g = quietNotice e d (g.putDoor d { g.door d with mon := { (g.door d).mon with watch := none } }) := by
  unfold evaluateWatch
  dsimp only
  rw [hw]
  dsimp only
  rw [if_pos hq, clearWatch_eq]

theorem evaluateWatch_put_found {w : Watch} (hw : x.mon.watch = some w) (hq : x.quiet (e.profile d) w = true) :
    evaluateWatch e d (g.putDoor d x) = quietNotice e d (g.putDoor d { x with mon := { x.mon with watch := none } }) := by
  rw [evaluateWatch_found (w := w) (by rw [door_putDoor_same]; exact hw) (by rw [door_putDoor_same]; exact hq), door_putDoor_same,
    putDoor_putDoor]

theorem quietNotice_elsewhere (h : (g.door d).eng.state ≠ .quietWait) : quietNotice e d g = g := if_neg h

theorem quietNotice_proceeds (h : (g.door d).eng.state = .quietWait) (hw : (g.door d).eng.params.warning = 0) :
    quietNotice e d g = proceed e d g := by
  unfold quietNotice
  dsimp only
  rw [if_pos h, if_neg (by omega)]

theorem quietNotice_warns (h : (g.door d).eng.state = .quietWait) (hw : 0 < (g.door d).eng.params.warning) :
    quietNotice e d g = startTimer e d (g.door d).eng.params.warning (enterState e d .warning g) := by
  unfold quietNotice
  dsimp only
  rw [if_pos h, if_pos hw]

/-- The warning of a door found quiet begins (R120). -/
theorem quietNotice_put_warns (h : x.eng.state = .quietWait) (hw : 0 < x.eng.params.warning) : quietNotice e d (g.putDoor d x) =
    g.putDoor d { x with eng := { x.eng with state := .warning, timer := ⟨x.eng.params.warning, 0, true⟩ } } := by
  have henter : x.eng.enter .warning = { x.eng with state := .warning, timer := ⟨0, 0, false⟩ } :=
    Engine.enter_unsettled _ _ (by simp [h]) (by simp [h]) rfl
  have entered : enterState e d .warning (g.putDoor d x) =
      g.putDoor d { x with eng := { x.eng with state := .warning, timer := ⟨0, 0, false⟩ } } := by
    rw [enterState, putDoor_upd _ (lockLevel_drive (by simp [h]) (by simp [Engine.enter]) rfl), henter]
  rw [quietNotice_warns (by rw [door_putDoor_same]; exact h) (by rw [door_putDoor_same]; exact hw), door_putDoor_same, entered, startTimer,
    putDoor_upd _ rfl]
  rfl

end

/-! ## Answers and watches of a changed door -/

section
variable {e : Env} {d : DoorNo} {g : Segment} {x : Door}

theorem answerOwed_put (o : DoorOutcome) : answerOwed e d o (g.putDoor d x) =
    answer e d x.eng.owed o (g.putDoor d { x with eng := { x.eng with owed := none } }) := by
  unfold answerOwed
  dsimp only
  rw [putDoor_upd _ rfl, door_putDoor_same]

/-- An exception is listed alike before and after a change of the door that leaves its live flags. -/
theorem listException_putDoor {door : Option DoorNo} {k : Kind} {sub : Option SubReason} (h : x.eng.live = (g.door d).eng.live) :
    listException e door k sub (g.putDoor d x) = (listException e door k sub g).putDoor d x := by
  have hactive : (fun y : ExceptionEntry => y.active (g.putDoor d x)) = fun y => y.active g :=
    funext (active_put_same_live g d x h)
  unfold listException
  rw [hactive]
  rfl

theorem listException_door {door : Option DoorNo} {k : Kind} {sub : Option SubReason} (j : DoorNo) :
    (listException e door k sub g).door j = g.door j := rfl

theorem clearWatch_listException {door : Option DoorNo} {k : Kind} {sub : Option SubReason} :
    clearWatch e d (listException e door k sub g) = listException e door k sub (clearWatch e d g) := by
  rw [clearWatch_eq, clearWatch_eq]
  exact (listException_putDoor (by rfl)).symm

theorem clearWatch_answer {owed : Option Nat} {o : DoorOutcome} :
    clearWatch e d (answer e d owed o g) = answer e d owed o (clearWatch e d g) := by
  rw [clearWatch_eq, clearWatch_eq, answer_putDoor, answer_door]

theorem setWatch_quiet (h : (g.door d).quiet (e.profile d) ⟨(g.door d).eng.params.threshold, (g.door d).eng.force⟩ = true) :
    setWatch e d g = quietNotice e d (g.putDoor d { g.door d with mon := { (g.door d).mon with watch := none } }) := by
  unfold setWatch
  rw [upd_same_level _ _ _ _ rfl]
  exact evaluateWatch_put_found (x := { g.door d with
    mon := { (g.door d).mon with watch := some ⟨(g.door d).eng.params.threshold, (g.door d).eng.force⟩ } }) rfl h

theorem setWatch_unquiet (h : (g.door d).quiet (e.profile d) ⟨(g.door d).eng.params.threshold, (g.door d).eng.force⟩ = false) :
    setWatch e d g = g.putDoor d { g.door d with
      mon := { (g.door d).mon with watch := some ⟨(g.door d).eng.params.threshold, (g.door d).eng.force⟩ } } := by
  unfold setWatch
  rw [upd_same_level _ _ _ _ rfl]
  exact evaluateWatch_put_unquiet fun w hw => by
    obtain rfl := Option.some.inj hw
    exact h

theorem setWatch_put_quiet (h : x.quiet (e.profile d) ⟨x.eng.params.threshold, x.eng.force⟩ = true) :
    setWatch e d (g.putDoor d x) = quietNotice e d (g.putDoor d { x with mon := { x.mon with watch := none } }) := by
  rw [setWatch_quiet (by rw [door_putDoor_same]; exact h), door_putDoor_same, putDoor_putDoor]

theorem setWatch_put_unquiet (h : x.quiet (e.profile d) ⟨x.eng.params.threshold, x.eng.force⟩ = false) :
    setWatch e d (g.putDoor d x) =
      g.putDoor d { x with mon := { x.mon with watch := some ⟨x.eng.params.threshold, x.eng.force⟩ } } := by
  rw [setWatch_unquiet (by rw [door_putDoor_same]; exact h), door_putDoor_same, putDoor_putDoor]

end

/-! ## The monitor -/

section
variable {e : Env} {d : DoorNo} {g : Segment}

theorem proppedNotice_put (x : Door) : proppedNotice e d true (g.putDoor d x) = if x.eng.state = .absent then g.putDoor d x
    else listException e (some d) .propped none (g.putDoor d { x with
      eng := { x.eng with live := { x.eng.live with propped := true }, sticky := { x.eng.sticky with propped := true } } }) := by
  unfold proppedNotice
  rw [door_putDoor_same, if_pos rfl, raiseKind_put]
  rfl

/-- PROPPED begins on an opening whose dwell is at its limit (R80, R112). -/
theorem beginPropped_put (x : Door) : beginPropped e d (g.putDoor d x) =
    if x.eng.state = .absent then g.putDoor d { x with mon := { x.mon with propped := true } }
    else listException e (some d) .propped none (g.putDoor d { x with
      mon := { x.mon with propped := true }
      eng := { x.eng with live := { x.eng.live with propped := true }, sticky := { x.eng.sticky with propped := true } } }) := by
  unfold beginPropped
  rw [updMon_put, proppedNotice_put]

theorem dwellStep_still (h : (g.door d).mon.dwells = false) : dwellStep e d g = g := if_neg (by simp [h])

theorem dwellStep_goes (h : (g.door d).mon.dwells = true) : dwellStep e d g =
    let x := g.door d
    let n := min 65535 (x.mon.dwell + 1)
    let y : Door := { x with mon := { x.mon with dwell := n, dwellSub := 0 } }
    if x.mon.propped = false ∧ x.mon.proppedAt ≤ n then beginPropped e d (g.putDoor d y) else g.putDoor d y := by
  unfold dwellStep
  dsimp only
  rw [if_pos h, updMon_eq, door_putDoor_same]
  dsimp only
  have hcond : (!(g.door d).mon.propped && decide ((g.door d).mon.proppedAt ≤ min 65535 ((g.door d).mon.dwell + 1))) = true ↔
      (g.door d).mon.propped = false ∧ (g.door d).mon.proppedAt ≤ min 65535 ((g.door d).mon.dwell + 1) := by simp
  exact if_congr hcond rfl rfl

theorem proppedNow_eq : proppedNow e d g =
    if (g.door d).mon.dwells = true ∧ (g.door d).mon.propped = false then beginPropped e d (g.putDoor d { g.door d with
      mon := { (g.door d).mon with dwell := max (g.door d).mon.dwell (g.door d).mon.proppedAt, dwellSub := 0 } })
    else g := by
  unfold proppedNow
  dsimp only
  rw [updMon_eq]
  exact if_congr (by simp) rfl rfl

/-- DWELL_TICK, PROPPED_BEGINS (R72, R80). -/
theorem dwell_ticks (d : DoorNo) (s : State) (hp : s.power = .running) :
    let x := s.seg.door d
    let dwells := x.mon.enable && x.mon.isOpen
    let limit := 10 * x.mon.latchedPropped
    let dwell := min 65535 (x.mon.dwell + 1)
    let propped (n : Nat) : Segment :=
      let m := { x.mon with dwell := n, dwellSub := 0, propped := true }
      if x.eng.state = .absent then s.seg.putDoor d { x with mon := m }
      else listException s.env (some d) .propped none (s.seg.putDoor d { x with
        mon := m
        eng := { x.eng with live := { x.eng.live with propped := true }, sticky := { x.eng.sticky with propped := true } } })
    let goes (g : Segment) : Host.Outcome State Fault Refusal := .next (settled { s with seg := g })
    (dwells = false → exec (.dwellTick d) s = .next (settled s))
    ∧ (dwells = true → x.mon.propped = true ∨ dwell < limit →
        exec (.dwellTick d) s = goes (s.seg.putDoor d { x with mon := { x.mon with dwell := dwell, dwellSub := 0 } }))
    ∧ (dwells = true → x.mon.propped = false → limit ≤ dwell → exec (.dwellTick d) s = goes (propped dwell))
    ∧ (dwells = false ∨ x.mon.propped = true → exec (.proppedBegins d) s = .next (settled s))
    ∧ (dwells = true → x.mon.propped = false → exec (.proppedBegins d) s = goes (propped (max x.mon.dwell limit))) := by
  intro x dwells limit dwell propped goes
  have tick {k : Segment} (h : dwellStep s.env d s.seg = k) : exec (.dwellTick d) s = goes k :=
    congrArg Host.Outcome.next ((runSegment_eq _ s hp).trans (by rw [h]))
  have begins {k : Segment} (h : proppedNow s.env d s.seg = k) : exec (.proppedBegins d) s = goes k :=
    congrArg Host.Outcome.next ((runSegment_eq _ s hp).trans (by rw [h]))
  refine ⟨fun h => tick (dwellStep_still h), fun h hn => tick ?_, fun h hp hn => tick ?_, fun h => begins ?_, fun h hn => begins ?_⟩
  · refine (dwellStep_goes h).trans (if_neg fun hc => ?_)
    rcases hn with hn | hn
    · exact Bool.noConfusion (hn.symm.trans hc.1)
    · exact absurd hn (Nat.not_lt.mpr hc.2)
  · exact (dwellStep_goes h).trans ((if_pos ⟨hp, hn⟩).trans (beginPropped_put _))
  · refine proppedNow_eq.trans (if_neg fun hc => ?_)
    rcases h with h | h
    · exact Bool.noConfusion (h.symm.trans hc.1)
    · exact Bool.noConfusion (h.symm.trans hc.2)
  · exact (proppedNow_eq.trans (if_pos ⟨h, hn⟩)).trans (beginPropped_put _)

theorem sinceStep_none (h : (g.door d).mon.sinceClose = none) : sinceStep e d g = g := by
  unfold sinceStep
  rw [h]

/-- The record of a door whose time since close goes on (R75). -/
def Door.aged (x : Door) (n : Nat) : Door := { x with mon := { x.mon with sinceClose := some (min 65535 (n + 1)), sinceSub := 0 } }

theorem sinceStep_some {n : Nat} (h : (g.door d).mon.sinceClose = some n) :
    sinceStep e d g = evaluateWatch e d (g.putDoor d ((g.door d).aged n)) := by
  unfold sinceStep
  rw [h]
  dsimp only
  rw [updMon_eq]
  rfl

/-- TIME_SINCE_CLOSE_TICK (R75, R82). -/
theorem since_ticks (d : DoorNo) (s : State) (hp : s.power = .running) :
    let x := s.seg.door d
    let goes (g : Segment) : Host.Outcome State Fault Refusal := .next (settled { s with seg := g })
    (x.mon.sinceClose = none → exec (.timeSinceCloseTick d) s = .next (settled s))
    ∧ (∀ n, x.mon.sinceClose = some n →
      let y := { x with mon := { x.mon with sinceClose := some (min 65535 (n + 1)), sinceSub := 0 } }
      ((∀ w, x.mon.watch = some w → y.quiet (s.env.profile d) w = false) →
        exec (.timeSinceCloseTick d) s = goes (s.seg.putDoor d y))
      ∧ (∀ w, x.mon.watch = some w → y.quiet (s.env.profile d) w = true →
        (x.eng.state ≠ .quietWait →
          exec (.timeSinceCloseTick d) s = goes (s.seg.putDoor d { y with mon := { y.mon with watch := none } }))
        ∧ (x.eng.state = .quietWait → 0 < x.eng.params.warning →
          exec (.timeSinceCloseTick d) s = goes (s.seg.putDoor d { y with
            mon := { y.mon with watch := none }
            eng := { x.eng with state := .warning, timer := ⟨x.eng.params.warning, 0, true⟩ } }))
        ∧ (x.eng.state = .quietWait → x.eng.params.warning = 0 → ∃ g, exec (.timeSinceCloseTick d) s = goes g
            ∧ (g.door d).mon.watch = none ∧ (g.door d).mon.sinceClose = y.mon.sinceClose))) := by
  intro x goes
  have tick {k : Segment} (h : sinceStep s.env d s.seg = k) : exec (.timeSinceCloseTick d) s = goes k :=
    congrArg Host.Outcome.next ((runSegment_eq _ s hp).trans (by rw [h]))
  refine ⟨fun h => tick (sinceStep_none h), fun n hn => ?_⟩
  have hfound (w : Watch) (hw : x.mon.watch = some w) (hq : (x.aged n).quiet (s.env.profile d) w = true) :
      sinceStep s.env d s.seg = quietNotice s.env d
        (s.seg.putDoor d { x.aged n with mon := { (x.aged n).mon with watch := none } }) :=
    (sinceStep_some hn).trans (evaluateWatch_put_found (x := x.aged n) hw hq)
  refine ⟨fun hw => tick ?_, fun w hw hq => ⟨fun hs => tick ?_, fun hs hwarn => tick ?_, fun hs hwarn => ⟨_, tick rfl, ?_, ?_⟩⟩⟩
  · exact (sinceStep_some hn).trans (evaluateWatch_put_unquiet hw)
  · exact (hfound w hw hq).trans (quietNotice_elsewhere (by rw [door_putDoor_same]; exact hs))
  · exact (hfound w hw hq).trans (quietNotice_put_warns hs hwarn)
  · rw [hfound w hw hq]
    have hgone := (show Forward d _ (s.seg.putDoor d { x.aged n with mon := { (x.aged n).mon with watch := none } }) from
      Eased.refl _).quietNotice (e := s.env)
    exact hgone.watch.elim (fun h => h.trans (by rw [door_putDoor_same])) id
  · rw [sinceStep_some hn]
    have hcalm := (calmWork s.env d (x.aged n)).evaluateWatch (d := d) (g := s.seg.putDoor d (x.aged n)) trivial
      (by rw [door_putDoor_same]; exact .refl _)
    rw [hcalm.mon]
    rfl

/-! ### The enable -/

/-- A monitor whose enable turns ON, by the position it finds (R69; log 56). -/
def Monitor.enabled (p : ProfileEntry) (position : Option Bool) (m : Monitor) : Monitor :=
  if position = some true then { m with
    enable := true, isOpen := true, dwell := 0, dwellSub := 0, latchedBounce := p.bounceLimit, latchedPropped := p.proppedLimit }
  else if position = some false ∧ m.isOpen = true then { m with enable := true, isOpen := false, sinceClose := some 0, sinceSub := 0 }
  else { m with enable := true }

theorem enableOn_eq : enableOn e d g = g.putDoor d { g.door d with
    mon := (g.door d).mon.enabled (e.profile d) (g.door d).inputs.position } := by
  have on := updMon_eq e d (fun m => { m with enable := true }) g
  unfold enableOn Monitor.enabled
  dsimp only
  rw [on]
  cases hp : (g.door d).inputs.position with
  | none => simp
  | some b =>
    cases b with
    | true =>
      rw [if_pos rfl]
      dsimp only
      exact updMon_put _
    | false =>
      rw [if_neg (by decide)]
      cases ho : (g.door d).mon.isOpen with
      | true =>
        rw [if_pos ⟨rfl, rfl⟩]
        exact updMon_put _
      | false => simp

theorem endPropped_put (x : Door) : endPropped e d (g.putDoor d x) = g.putDoor d { x with
    mon := { x.mon with propped := false }
    eng := if x.mon.propped = true ∧ x.eng.state ≠ .absent then { x.eng with live := { x.eng.live with propped := false } }
      else x.eng } := by
  unfold endPropped
  rw [door_putDoor_same]
  by_cases hm : x.mon.propped = true
  · rw [if_pos hm, updMon_put]
    unfold proppedNotice
    rw [door_putDoor_same]
    by_cases hs : x.eng.state = .absent
    · rw [if_pos hs, if_neg (by simp [hs])]
    · rw [if_neg hs, if_neg Bool.false_ne_true, clearLive_put, if_pos ⟨hm, hs⟩]
      rfl
  · rw [if_neg hm, if_neg (by simp [hm])]
    have hmon : x.mon = { x.mon with propped := false } := by rw [← Bool.eq_false_iff.mpr hm]
    exact congrArg (fun m => g.putDoor d { x with mon := m }) hmon

theorem enableOff_eq : enableOff e d g = g.putDoor d { g.door d with
    mon := { (g.door d).mon with
      enable := false, propped := false
      lastOpen := if (g.door d).mon.isOpen then (g.door d).mon.dwell else (g.door d).mon.lastOpen }
    eng := if (g.door d).mon.propped = true ∧ (g.door d).eng.state ≠ .absent then
      { (g.door d).eng with live := { (g.door d).eng.live with propped := false } } else (g.door d).eng } := by
  unfold enableOff
  rw [updMon_eq, endPropped_put]

theorem reenable_eq : reenable e d g = if shouldMonitor e d g = (g.door d).mon.enable then g
    else if shouldMonitor e d g = true then evaluateWatch e d (enableOn e d g) else evaluateWatch e d (enableOff e d g) := by
  unfold reenable
  dsimp only
  by_cases h : shouldMonitor e d g = (g.door d).mon.enable
  · rw [if_pos h, if_pos (beq_iff_eq.mpr h)]
  · rw [if_neg h, if_neg (by rw [beq_iff_eq]; exact h)]
    split <;> rfl

end

end Sys2Proof.Machine
end

section
/-! The tables of R115 and R116 and the entry to QUIET_WAIT (R120) as courses of one door. -/

namespace Sys2Proof.Machine

/-! ## Doors -/

theorem Door.leaving_eq (p : ProfileEntry) (free : Bool) (x : Door) : x.leaving p free =
    { x with charge := (x.leaving p free).charge, eng := { x.eng with drive := (x.leaving p free).eng.drive } } := by
  unfold Door.leaving
  split
  · rw [Door.driven_eq]
  · rfl

theorem Door.leaving_not {p : ProfileEntry} {free : Bool} {x : Door} (h : x.eng.state ≠ .holding) : x.leaving p free = x := if_neg h

theorem Door.leaving_sensed (p : ProfileEntry) (free : Bool) (x : Door) :
    (x.leaving p free).sensedOutside p = x.sensedOutside p := by rw [Door.leaving_eq]; rfl

theorem Door.driven_charge (p : ProfileEntry) (x : Door) :
    (x.driven p false).charge = if x.eng.drive then x.afterDriveOff p else x.charge := by
  unfold Door.driven
  rw [if_neg Bool.false_ne_true]
  split <;> rfl

theorem Door.settledAt_eq (p : ProfileEntry) (q : Posture) (x : Door) : x.settledAt p q = { x with
    charge := (x.settledAt p q).charge
    eng := { x.eng.enter q.state with
      target := some q, deferral := .none, deferralSub := 0, owed := none, drive := restingDrive p.lockKind q
      live := { x.eng.live with notSecured := false, notReleased := false } } } := by
  unfold Door.settledAt
  dsimp only
  rw [Door.driven_eq]
  rfl

/-- A door that rests RELEASED with its posture unknown (R116). -/
def Door.rests (p : ProfileEntry) (x : Door) : Prop :=
  p.lockKind = .motor ∧ x.sensedOutside p = none ∧ x.eng.lastSettled = .released ∧ x.eng.pulseInAttempt = false

theorem Door.leaving_rests {p : ProfileEntry} {free : Bool} {x : Door} : (x.leaving p free).rests p ↔ x.rests p := by
  rw [Door.leaving_eq]
  rfl

/-- A door whose deferral starts (R115). -/
def Door.deferring (x : Door) : Door := { x with
  eng := { x.eng with deferral := .ofLimit x.eng.params.deferralLimit, deferralSub := 0 } }

/-- A door in WARNING (R120). -/
def Door.warned (x : Door) : Door := { x with
  eng := { x.eng.enter .quietWait with state := .warning, timer := ⟨x.eng.params.warning, 0, true⟩ }
  mon := { x.mon with watch := none } }

/-- Only a MOTOR door's posture depends on what it verifies (R47). -/
theorem Door.sensedAs_of_not_motor {p : ProfileEntry} (h : p.lockKind ≠ .motor) (v : Option Posture) (x : Door) :
    x.sensedAs v p = x.sensedOutside p := by
  unfold Door.sensedOutside Door.sensedAs
  cases hk : p.lockKind with
  | motor => exact absurd hk h
  | magnetic | strike => rfl

/-! ## The equations of the tables -/

section
variable {e : Env} {d : DoorNo} {o : DoorOutcome} {g : Segment}

theorem takeReleased_settles (h : ((leaveHolding e d g).door d).sensedOutside (e.profile d) = some .released
      ∨ ((leaveHolding e d g).door d).rests (e.profile d)) :
    takeReleased e d o g = settleAt e d .released o (leaveHolding e d g) := by
  unfold takeReleased
  dsimp only
  by_cases hs : ((leaveHolding e d g).door d).sensedOutside (e.profile d) = some .released
  · rw [if_pos hs]
  · rw [if_neg hs, if_pos (by simpa [Door.rests] using h.resolve_left hs)]

theorem takeReleased_else (hs : ((leaveHolding e d g).door d).sensedOutside (e.profile d) ≠ some .released)
    (hr : ¬ ((leaveHolding e d g).door d).rests (e.profile d)) : takeReleased e d o g =
    if (e.profile d).assigns .lockDrive = false then enterFaulted e d .notReleased (leaveHolding e d g)
    else if (e.profile d).lockKind = .magnetic then enterVerifying e d (turnDriveOff e d (leaveHolding e d g))
    else awaitGrant e d (leaveHolding e d g) := by
  unfold takeReleased
  dsimp only
  rw [if_neg hs, if_neg (by simpa [Door.rests] using hr)]
  cases (e.profile d).assigns .lockDrive <;> rfl

theorem takeSecured_settles (h : ((leaveHolding e d g).door d).sensedOutside (e.profile d) = some .secured) :
    takeSecured e d o g = settleAt e d .secured o (leaveHolding e d g) := if_pos h

theorem takeSecured_else (h : ((leaveHolding e d g).door d).sensedOutside (e.profile d) ≠ some .secured) : takeSecured e d o g =
    if (e.profile d).assigns .lockDrive = false then enterFaulted e d .notSecured (leaveHolding e d g)
    else enterQuietWait e d (startDeferral e d (leaveHolding e d g)) := by
  unfold takeSecured
  dsimp only
  rw [if_neg h]
  cases (e.profile d).assigns .lockDrive <;> rfl

theorem awaitGrant_eq : awaitGrant e d g = consider e { enterState e d .awaitGrant g with
    queue := insertEntry ⟨d, (e.doorEntry d).rank⟩ g.queue } := by
  unfold awaitGrant enqueue
  rw [show (enterState e d .awaitGrant g).queue = g.queue from upd_queue ..]

theorem proceed_wired (ha : (e.profile d).assigns .lockDrive = true) : proceed e d g =
    if (e.profile d).lockKind = .strike then enterVerifying e d (turnDriveOff e d g) else awaitGrant e d g := if_pos ha

theorem proceed_unwired (ha : (e.profile d).assigns .lockDrive = false) :
    proceed e d g = enterFaulted e d (failKind ((g.door d).eng.target.getD .secured)) g := if_neg (by simp [ha])

end

/-! ## A door that goes on from QUIET_WAIT does not wait there -/

section
variable {e : Env} {d : DoorNo} {g : Segment}

theorem revertTo_ne_quietWait (p : ProfileEntry) (x : Door) : (x.revertTo p).1 ≠ .quietWait := by
  unfold Door.revertTo
  split
  · exact DoorState.noConfusion
  · exact DoorState.noConfusion
  · split <;> exact DoorState.noConfusion
  · split
    · exact DoorState.noConfusion
    · split <;> exact DoorState.noConfusion

/-- The door is in another state than QUIET_WAIT. -/
def Gone (d : DoorNo) (g : Segment) : Prop := (g.door d).eng.state ≠ .quietWait

theorem Gone.upd {f : Door → Door} (h : (f (g.door d)).eng.state ≠ .quietWait) : Gone d (g.upd e d f) := by
  rw [Gone, upd_door_eng]
  exact h

theorem Gone.answer {owed : Option Nat} {o : DoorOutcome} (h : Gone d g) : Gone d (answer e d owed o g) := by
  rw [Gone, answer_door]
  exact h

theorem Gone.consider (h : Gone d g) : Gone d (consider e g) := by
  have others (j : DoorNo) (hj : d ≠ j) {g k : Segment} (hg : Gone d g) (honly : OnlyDoor j g k) : Gone d k := by
    rw [Gone, honly d hj]
    exact hg
  refine consider_keeps (P := Gone d) (fun {g} q _ hg => ?_) (fun {g} q _ hg => ?_) h
  · by_cases hq : d = q.door
    · subst hq
      rw [Gone, (grant_made e q.door g).eng, granted_state]
      decide
    · exact others _ hq hg ((onlyDoorWork e q.door g).grant rfl (OnlyDoor.refl _ g))
  · by_cases hq : d = q.door
    · subst hq
      obtain ⟨b, hr⟩ := refuse_made e q.door g
      rw [Gone, hr.eng]
      exact revertTo_ne_quietWait _ _
    · exact others _ hq hg ((onlyDoorWork e q.door g).refuse rfl (OnlyDoor.refl _ g))

theorem Gone.setDrive {on : Bool} (h : Gone d g) : Gone d (setDrive e d on g) := by
  unfold Machine.setDrive turnDriveOff
  split
  · exact Gone.upd h
  · split
    · rw [forceDriveOff_eq]
      exact Gone.consider (Gone.upd h)
    · exact h

theorem settleAt_gone (q : Posture) (o : DoorOutcome) : Gone d (settleAt e d q o g) := by
  have entered : Gone d (updEng e d (fun x => { x.enter q.state with target := some q, deferral := .none, deferralSub := 0 }) g) :=
    Gone.upd (by cases q <;> exact fun h => DoorState.noConfusion h)
  unfold settleAt answerOwed clearLive
  exact Gone.answer (Gone.upd (by rw [upd_door_eng]; exact entered.setDrive))

theorem enterVerifying_gone : Gone d (enterVerifying e d g) := by
  have started : Gone d (startTimer e d (e.profile d).verifyTime (enterState e d .verifying g)) :=
    Gone.upd (by rw [enterState_state]; decide)
  unfold enterVerifying
  dsimp only
  split
  · split <;> [exact settleAt_gone _ _; exact started]
  · exact started

theorem proceed_gone : Gone d (proceed e d g) := by
  cases ha : (e.profile d).assigns .lockDrive with
  | true =>
    rw [proceed_wired ha]
    split
    · exact enterVerifying_gone
    · rw [awaitGrant_eq]
      have entered : Gone d (enterState e d .awaitGrant g) := by
        rw [Gone, enterState_state]
        decide
      exact Gone.consider (g := { enterState e d .awaitGrant g with queue := insertEntry ⟨d, (e.doorEntry d).rank⟩ g.queue }) entered
  | false =>
    rw [proceed_unwired ha]
    unfold enterFaulted answerOwed
    have faulted : Gone d (updEng e d (fun x => { x.enter .faulted with deferral := .none, deferralSub := 0 }) g) :=
      Gone.upd fun h => DoorState.noConfusion h
    exact Gone.answer (Gone.upd (e := e) (Gone.upd (e := e) faulted))

theorem quietNotice_gone (h : (g.door d).eng.state = .quietWait) : Gone d (quietNotice e d g) := by
  unfold quietNotice
  dsimp only
  rw [if_pos h]
  split
  · exact Gone.upd (by rw [enterState_state]; decide)
  · exact proceed_gone

/-! ## The entry to QUIET_WAIT -/

/-- The door in QUIET_WAIT, its watch as given. -/
def Segment.waitingAt (e : Env) (d : DoorNo) (m : Option Watch) (g : Segment) : Segment :=
  g.upd e d fun x => { x with eng := x.eng.enter .quietWait, mon := { x.mon with watch := m } }

theorem watching_upd (f : Door → Door) (m : Option Watch) :
    (g.upd e d f).putDoor d { (g.upd e d f).door d with mon := { ((g.upd e d f).door d).mon with watch := m } } =
      g.upd e d fun x => { f x with mon := { (f x).mon with watch := m } } := by
  have hlevel : ∀ y : Door, ∀ p l, ({ y with mon := { y.mon with watch := m } } : Door).lockLevel l p = y.lockLevel l p :=
    fun _ _ _ => rfl
  unfold Segment.upd
  dsimp only
  rw [hlevel]
  split <;> rw [door_putDoor_same, putDoor_putDoor]

theorem entered_quietWait_eng : ((enterState e d .quietWait g).door d).eng = (g.door d).eng.enter .quietWait := upd_door_eng ..

theorem entered_quietWait_quiet (w : Watch) :
    ((enterState e d .quietWait g).door d).quiet (e.profile d) w = (g.door d).quiet (e.profile d) w :=
  door_upd_read e d _ g fun x => x.quiet (e.profile d) w

theorem enterQuietWait_quiet (h : (g.door d).quiet (e.profile d) ⟨(g.door d).eng.params.threshold, (g.door d).eng.force⟩ = true) :
    enterQuietWait e d g = quietNotice e d (g.waitingAt e d none) := by
  have hset : setWatch e d (enterState e d .quietWait g) = quietNotice e d (g.waitingAt e d none) := by
    rw [setWatch_quiet (by rw [entered_quietWait_eng, entered_quietWait_quiet]; exact h)]
    exact congrArg _ (watching_upd ..)
  unfold enterQuietWait
  dsimp only
  rw [hset, if_neg fun hc => quietNotice_gone (by rw [Segment.waitingAt, upd_door_eng]; rfl) hc.1]

theorem enterQuietWait_unquiet (h : (g.door d).quiet (e.profile d) ⟨(g.door d).eng.params.threshold, (g.door d).eng.force⟩ = false) :
    enterQuietWait e d g = if (g.door d).eng.deferral = .expired
      then actOnExpiry e d (g.waitingAt e d (some ⟨(g.door d).eng.params.threshold, (g.door d).eng.force⟩))
      else g.waitingAt e d (some ⟨(g.door d).eng.params.threshold, (g.door d).eng.force⟩) := by
  have hset : setWatch e d (enterState e d .quietWait g) =
      g.waitingAt e d (some ⟨(g.door d).eng.params.threshold, (g.door d).eng.force⟩) := by
    rw [setWatch_unquiet (by rw [entered_quietWait_eng, entered_quietWait_quiet]; exact h)]
    refine (watching_upd ..).trans ?_
    rw [entered_quietWait_eng]
    rfl
  unfold enterQuietWait
  dsimp only
  rw [hset, Segment.waitingAt, upd_door_eng]
  exact if_congr (and_iff_right rfl) rfl rfl

end

/-! ## The courses -/

namespace Made

variable {A : Prop} {e : Env} {d : DoorNo} {x : Door} {b g : Segment} (h : Made A d x b g)

include h

/-- The start of the account taken from another segment with the same runs. -/
theorem rebase {b' : Segment} (hb : b.seqr = b'.seqr) : Made A d x b' g :=
  ⟨h.door, h.unqueued, fun a => ⟨(h.alone a).1, (h.alone a).2.trans hb⟩⟩

/-- A door that waits for its grant: where it stands before the arbiter considers it. -/
theorem awaitGrant : ∃ k, Machine.awaitGrant e d g = Machine.consider e k
    ∧ (k.door d).core = ({ x with eng := x.eng.enter .awaitGrant } : Door).core
    ∧ ⟨d, (e.doorEntry d).rank⟩ ∈ k.queue ∧ (A → k.seqr = b.seqr) := by
  have entered := h.enterState (e := e) .awaitGrant
  exact ⟨_, awaitGrant_eq, entered.door, (mem_insertEntry ..).2 (.inl rfl), fun a => (entered.alone a).2⟩

theorem takeReleased_settles (o : DoorOutcome) (hs : x.sensedOutside (e.profile d) = some .released ∨ x.rests (e.profile d)) :
    ∃ free, Made A d ((x.leaving (e.profile d) free).settledAt (e.profile d) .released)
      (Machine.answer e d x.eng.owed o b) (takeReleased e d o g) := by
  obtain ⟨free, left⟩ := h.leaveHolding (e := e)
  refine ⟨free, ?_⟩
  rw [Machine.takeReleased_settles (by
    rw [left.sensedOutside, Door.leaving_sensed, left.read (fun x => x.rests (e.profile d)), Door.leaving_rests]
    exact hs)]
  have settled := left.settleAt (e := e) .released o
  rw [Door.leaving_eq] at settled ⊢
  exact settled

theorem takeReleased_else (o : DoorOutcome) (hs : x.sensedOutside (e.profile d) ≠ some .released) (hr : ¬ x.rests (e.profile d)) :
    takeReleased e d o g =
      if (e.profile d).assigns .lockDrive = false then Machine.enterFaulted e d .notReleased (Machine.leaveHolding e d g)
      else if (e.profile d).lockKind = .magnetic then
        Machine.enterVerifying e d (Machine.turnDriveOff e d (Machine.leaveHolding e d g))
      else Machine.awaitGrant e d (Machine.leaveHolding e d g) := by
  obtain ⟨free, left⟩ := h.leaveHolding (e := e)
  refine Machine.takeReleased_else ?_ ?_
  · rw [left.sensedOutside, Door.leaving_sensed]
    exact hs
  · rw [left.read (fun x => x.rests (e.profile d)), Door.leaving_rests]
    exact hr

theorem takeReleased_faults (o : DoorOutcome) (hs : x.sensedOutside (e.profile d) ≠ some .released) (hr : ¬ x.rests (e.profile d))
    (ha : (e.profile d).assigns .lockDrive = false) : ∃ free, Made A d ((x.leaving (e.profile d) free).faultedBy .notReleased)
      (Machine.answer e d x.eng.owed .failed b) (takeReleased e d o g) := by
  obtain ⟨free, left⟩ := h.leaveHolding (e := e)
  refine ⟨free, ?_⟩
  rw [h.takeReleased_else o hs hr, if_pos ha]
  have faulted := left.enterFaulted (e := e) .notReleased
  rw [Door.leaving_eq] at faulted ⊢
  exact faulted

/-- A MAGNETIC door is verified RELEASED with its drive off. -/
theorem takeReleased_verifies (o : DoorOutcome) (ht : x.eng.target = some .released)
    (hs : x.sensedOutside (e.profile d) ≠ some .released) (ha : (e.profile d).assigns .lockDrive = true)
    (hk : (e.profile d).lockKind = .magnetic) : ∃ free,
    Made A d (((x.leaving (e.profile d) free).driven (e.profile d) false).verifying (e.profile d)) b (takeReleased e d o g) := by
  obtain ⟨free, left⟩ := h.leaveHolding (e := e)
  refine ⟨free, ?_⟩
  rw [h.takeReleased_else o hs (fun hr => by simp [Door.rests, hk] at hr), if_neg (by simp [ha]), if_pos hk]
  refine (left.turnDriveOff (e := e)).enterVerifying_waits fun q hq => ?_
  rw [Door.driven_eq, Door.leaving_eq] at hq ⊢
  obtain rfl : q = .released := Option.some.inj (hq.symm.trans ht)
  rw [Door.sensedAs_of_not_motor (by simp [hk])]
  exact hs

theorem takeReleased_awaits (o : DoorOutcome) (hs : x.sensedOutside (e.profile d) ≠ some .released) (hr : ¬ x.rests (e.profile d))
    (ha : (e.profile d).assigns .lockDrive = true) (hk : (e.profile d).lockKind ≠ .magnetic) : ∃ free k,
    takeReleased e d o g = Machine.consider e k
    ∧ (k.door d).core = ({ x.leaving (e.profile d) free with
        eng := (x.leaving (e.profile d) free).eng.enter .awaitGrant } : Door).core
    ∧ ⟨d, (e.doorEntry d).rank⟩ ∈ k.queue ∧ (A → k.seqr = b.seqr) := by
  obtain ⟨free, left⟩ := h.leaveHolding (e := e)
  refine ⟨free, ?_⟩
  rw [h.takeReleased_else o hs hr, if_neg (by simp [ha]), if_neg hk]
  exact left.awaitGrant

theorem takeSecured_settles (o : DoorOutcome) (hs : x.sensedOutside (e.profile d) = some .secured) :
    ∃ free, Made A d ((x.leaving (e.profile d) free).settledAt (e.profile d) .secured)
      (Machine.answer e d x.eng.owed o b) (takeSecured e d o g) := by
  obtain ⟨free, left⟩ := h.leaveHolding (e := e)
  refine ⟨free, ?_⟩
  rw [Machine.takeSecured_settles (by rw [left.sensedOutside, Door.leaving_sensed]; exact hs)]
  have settled := left.settleAt (e := e) .secured o
  rw [Door.leaving_eq] at settled ⊢
  exact settled

theorem takeSecured_else (o : DoorOutcome) (hs : x.sensedOutside (e.profile d) ≠ some .secured) : takeSecured e d o g =
    if (e.profile d).assigns .lockDrive = false then Machine.enterFaulted e d .notSecured (Machine.leaveHolding e d g)
    else enterQuietWait e d (Machine.startDeferral e d (Machine.leaveHolding e d g)) := by
  obtain ⟨free, left⟩ := h.leaveHolding (e := e)
  exact Machine.takeSecured_else (by rw [left.sensedOutside, Door.leaving_sensed]; exact hs)

theorem takeSecured_faults (o : DoorOutcome) (hs : x.sensedOutside (e.profile d) ≠ some .secured)
    (ha : (e.profile d).assigns .lockDrive = false) : ∃ free, Made A d ((x.leaving (e.profile d) free).faultedBy .notSecured)
      (Machine.answer e d x.eng.owed .failed b) (takeSecured e d o g) := by
  obtain ⟨free, left⟩ := h.leaveHolding (e := e)
  refine ⟨free, ?_⟩
  rw [h.takeSecured_else o hs, if_pos ha]
  have faulted := left.enterFaulted (e := e) .notSecured
  rw [Door.leaving_eq] at faulted ⊢
  exact faulted

/-! ### QUIET_WAIT -/

theorem waitingAt (m : Option Watch) :
    Made A d { x with eng := x.eng.enter .quietWait, mon := { x.mon with watch := m } } b (g.waitingAt e d m) :=
  h.upd fun x => { x with eng := x.eng.enter .quietWait, mon := { x.mon with watch := m } }

/-- A door that is not quiet and whose deferral is not EXPIRED waits, its watch set. -/
theorem enterQuietWait_waits (hq : x.quiet (e.profile d) ⟨x.eng.params.threshold, x.eng.force⟩ = false)
    (hd : x.eng.deferral ≠ .expired) : Made A d x.waiting b (enterQuietWait e d g) := by
  rw [enterQuietWait_unquiet (by rw [h.eng, h.quiet]; exact hq), h.eng, if_neg hd]
  exact h.waitingAt _

/-- A quiet door goes on to its warning. -/
theorem enterQuietWait_warns (hq : x.quiet (e.profile d) ⟨x.eng.params.threshold, x.eng.force⟩ = true)
    (hw : 0 < x.eng.params.warning) : Made A d x.warned b (enterQuietWait e d g) := by
  have waits := h.waitingAt (e := e) none
  rw [enterQuietWait_quiet (by rw [h.eng, h.quiet]; exact hq)]
  rw [quietNotice_warns (by rw [waits.eng]; rfl) (by rw [waits.eng]; exact hw), waits.eng]
  exact ((waits.enterState (e := e) .warning).startTimer (e := e) x.eng.params.warning).cast (by
    unfold Door.warned
    dsimp only
    rw [Engine.enter_unsettled (x.eng.enter .quietWait) .warning (by exact DoorState.noConfusion) (by exact DoorState.noConfusion) rfl]
    rfl)

/-- The wait toward SECURED (R115). -/
theorem takeSecured_waits (o : DoorOutcome) (hs : x.sensedOutside (e.profile d) ≠ some .secured)
    (ha : (e.profile d).assigns .lockDrive = true) : ∃ free,
    Made A d (x.leaving (e.profile d) free).deferring b (Machine.startDeferral e d (Machine.leaveHolding e d g))
    ∧ takeSecured e d o g = enterQuietWait e d (Machine.startDeferral e d (Machine.leaveHolding e d g)) := by
  obtain ⟨free, left⟩ := h.leaveHolding (e := e)
  refine ⟨free, left.startDeferral, ?_⟩
  rw [h.takeSecured_else o hs, if_neg (by simp [ha])]

end Made

end Sys2Proof.Machine
end

section
/-! The deferral's seconds and its end (R121): the act on an EXPIRED deferral by the late policy. -/

namespace Sys2Proof.Machine

section
variable {e : Env} {d : DoorNo} {g : Segment} {x : Door}

/-! ## The act on an EXPIRED deferral -/

/-- A door whose deferral has been acted on, before its late policy is. -/
def Door.expired (f : Engine → Engine) (x : Door) : Door := { x with eng := f { x.eng with deferral := .none, deferralSub := 0 } }

/-- A door that the policy LEAVE releases (R121). -/
def Engine.leftReleased (y : Engine) : Engine :=
  { y with target := some .released, owed := none, sticky := { y.sticky with leftReleased := true } }

theorem actOnExpiry_leave (h : x.eng.params.policy = .leave) : actOnExpiry e d (g.putDoor d x) = takeReleased e d .already
    (clearWatch e d (listException e (some d) .leftReleased none
      (answer e d x.eng.owed .leftReleased (g.putDoor d (x.expired Engine.leftReleased))))) := by
  unfold actOnExpiry
  dsimp only
  rw [updEng_put (fun y => { y with deferral := .none, deferralSub := 0 }), door_putDoor_same]
  dsimp only
  rw [h]
  dsimp only
  rw [updEng_put (fun y => { y with target := some .released }), answerOwed_put, answer_putDoor, raiseKind_put, ← answer_putDoor]
  rfl

theorem actOnExpiry_force (h : x.eng.params.policy = .force) : actOnExpiry e d (g.putDoor d x) =
    let forced := setWatch e d (g.putDoor d (x.expired fun y => { y with force := true }))
    if (e.profile d).assigns .position = true ∧ x.inputs.position = some true then
      listException e (some d) .propped none (answerOwed e d .proppedLate forced)
    else forced := by
  unfold actOnExpiry
  dsimp only
  rw [updEng_put (fun y => { y with deferral := .none, deferralSub := 0 }), door_putDoor_same]
  dsimp only
  rw [h]
  dsimp only
  rw [updEng_put (fun y => { y with force := true })]
  exact if_congr (by simp) rfl rfl

theorem expired_eq (f : Engine → Engine) (hf : ∀ y, (f y).state = y.state ∧ (f y).drive = y.drive) :
    g.upd e d (Door.expired f) = g.putDoor d ((g.door d).expired f) := by
  refine upd_same_level _ _ _ _ ?_
  obtain ⟨hs, hd⟩ := hf { (g.door d).eng with deferral := .none, deferralSub := 0 }
  unfold Door.expired Door.lockLevel
  dsimp only
  rw [hs, hd]
  rfl

/-- A door with POSITION known and not CLOSED is not quiet. -/
theorem not_quiet_of_position {p : ProfileEntry} (w : Watch) (ha : p.assigns .position = true) (hx : x.inputs.position ≠ some false) :
    x.quiet p w = false := by
  unfold Door.quiet Door.closed
  simp [ha, hx]

theorem quiet_forced {p : ProfileEntry} (n : Nat) (h : x.closed p = true) : x.quiet p ⟨n, true⟩ = true := by
  unfold Door.quiet
  rw [h]
  rfl

/-! ## The count -/

theorem defers_iff (st : DoorState) : st.defers = true ↔ st = .quietWait ∨ st = .warning := by
  cases st <;> simp [DoorState.defers]

theorem hold_iff (e : Env) : e.hold = true ↔ e.siteInForce = .sweepHold := beq_iff_eq

theorem deferralCount_idle (h : (∀ n, (g.door d).eng.deferral ≠ .counting n)
    ∨ ¬ ((g.door d).eng.state = .quietWait ∨ (g.door d).eng.state = .warning)) : deferralCount e d g = g := by
  unfold deferralCount
  dsimp only
  split
  · next n hn => rw [if_neg fun hw => (h.resolve_left fun hc => hc n hn) ((defers_iff _).1 hw)]
  · rfl

theorem deferralExpires_idle (h : (∀ n, (g.door d).eng.deferral ≠ .counting n)
    ∨ ¬ ((g.door d).eng.state = .quietWait ∨ (g.door d).eng.state = .warning) ∨ e.hold = true) : deferralExpires e d g = g := by
  unfold deferralExpires
  dsimp only
  split
  · next n hn =>
    rw [if_neg fun hw => ?_]
    obtain ⟨hs, hh⟩ := (Bool.and_eq_true _ _).mp hw
    rcases h with hc | hc | hc
    · exact hc n hn
    · exact hc ((defers_iff _).1 hs)
    · simp [hc] at hh
  · rfl

theorem deferralCount_counts {n : Nat} (hn : (g.door d).eng.deferral = .counting n)
    (hw : (g.door d).eng.state = .quietWait ∨ (g.door d).eng.state = .warning) : deferralCount e d g =
    let h := g.putDoor d { g.door d with eng := { (g.door d).eng with deferralSub := 0 } }
    if e.hold then h else if n ≤ 1 then deferralEnd e d h
    else g.putDoor d { g.door d with eng := { (g.door d).eng with deferral := .counting (n - 1), deferralSub := 0 } } := by
  unfold deferralCount
  dsimp only
  split
  · next m hm =>
    obtain rfl := Deferral.counting.inj (hm.symm.trans hn)
    rw [if_pos ((defers_iff _).2 hw), updEng_eq (fun y => { y with deferralSub := 0 }),
      updEng_put (fun y => { y with deferral := .counting (m - 1) })]
  · next h => exact absurd hn (h n)

theorem deferralExpires_ends {n : Nat} (hn : (g.door d).eng.deferral = .counting n)
    (hw : (g.door d).eng.state = .quietWait ∨ (g.door d).eng.state = .warning) (hh : e.hold = false) :
    deferralExpires e d g = deferralEnd e d g := by
  unfold deferralExpires
  dsimp only
  rw [hn]
  dsimp only
  rw [if_pos (by rw [(defers_iff _).2 hw, hh]; rfl)]

/-- A door whose deferral has just become EXPIRED. -/
def Door.late (x : Door) : Door := { x with eng := { x.eng with deferral := .expired, deferralSub := 0 } }

theorem deferralEnd_put : deferralEnd e d (g.putDoor d x) =
    if x.eng.state = .quietWait then actOnExpiry e d (g.putDoor d x.late) else g.putDoor d x.late := by
  unfold deferralEnd
  dsimp only
  rw [updEng_put (fun y => { y with deferral := .expired, deferralSub := 0 }), door_putDoor_same]
  rfl

end

/-- The segment where the deferral of a door ends (R121). -/
def Segment.lateAt (e : Env) (d : DoorNo) (g : Segment) : Segment :=
  if (g.door d).eng.state = .quietWait then actOnExpiry e d (g.putDoor d (g.door d).late) else g.putDoor d (g.door d).late

/-- What the two rows do where the deferral ends (R121). -/
theorem deferral_ends {d : DoorNo} {s : State} (hp : s.power = .running) {n : Nat} (hn : (s.seg.door d).eng.deferral = .counting n)
    (hw : (s.seg.door d).eng.state = .quietWait ∨ (s.seg.door d).eng.state = .warning) (hh : s.env.hold = false) {c : Instr}
    (hc : c = .deferralExpiry d ∨ (c = .deferralSecond d ∧ n ≤ 1)) :
    exec c s = .next (settled { s with seg := s.seg.lateAt s.env d }) := by
  rcases hc with rfl | ⟨rfl, hle⟩
  · refine congrArg Host.Outcome.next ((runSegment_eq _ s hp).trans ?_)
    rw [deferralExpires_ends hn hw hh, Segment.lateAt, ← deferralEnd_put, putDoor_self]
  · refine congrArg Host.Outcome.next ((runSegment_eq _ s hp).trans ?_)
    rw [deferralCount_counts hn hw]
    dsimp only
    rw [if_neg (by simp [hh]), if_pos hle, deferralEnd_put]
    rfl

/-! ## The policies at a door in QUIET_WAIT -/

section
variable {e : Env} {d : DoorNo} {g : Segment} {x : Door}

/-- LEAVE: the door is taken toward RELEASED, its watch gone. -/
theorem actOnExpiry_late_leave (h : x.eng.params.policy = .leave) : actOnExpiry e d (g.putDoor d x.late) =
    takeReleased e d .already (listException e (some d) .leftReleased none (answer e d x.eng.owed .leftReleased
      (g.putDoor d { x.expired Engine.leftReleased with mon := { x.mon with watch := none } }))) := by
  rw [actOnExpiry_leave (x := x.late) h, clearWatch_listException, clearWatch_answer, clearWatch_put]
  rfl

/-- A door that the policy FORCE lets wait with its force flag set, or go. -/
def Door.forced (w : Option Watch) (x : Door) : Door := { x with
  eng := { x.eng with force := true, deferral := .none, deferralSub := 0 }, mon := { x.mon with watch := w } }

theorem actOnExpiry_late_open (h : x.eng.params.policy = .force) (ha : (e.profile d).assigns .position = true)
    (ho : x.inputs.position = some true) : actOnExpiry e d (g.putDoor d x.late) =
    listException e (some d) .propped none (answer e d x.eng.owed .proppedLate (g.putDoor d { x.forced (some ⟨x.eng.params.threshold, true⟩)
      with eng := { (x.forced none).eng with owed := none } })) := by
  rw [actOnExpiry_force (x := x.late) h]
  dsimp only
  rw [if_pos ⟨ha, ho⟩, setWatch_put_unquiet (by exact not_quiet_of_position _ ha (by rw [Door.expired, Door.late, ho]; simp)), answerOwed_put]
  rfl

theorem actOnExpiry_late_unknown (h : x.eng.params.policy = .force) (ha : (e.profile d).assigns .position = true)
    (ho : x.inputs.position = none) : actOnExpiry e d (g.putDoor d x.late) =
    g.putDoor d (x.forced (some ⟨x.eng.params.threshold, true⟩)) := by
  rw [actOnExpiry_force (x := x.late) h]
  dsimp only
  rw [if_neg (by simp [Door.late, ho]),
    setWatch_put_unquiet (by exact not_quiet_of_position _ ha (by rw [Door.expired, Door.late, ho]; simp))]
  rfl

theorem actOnExpiry_late_closed (h : x.eng.params.policy = .force) (hc : x.closed (e.profile d) = true) :
    actOnExpiry e d (g.putDoor d x.late) = quietNotice e d (g.putDoor d (x.forced none)) := by
  have hopen : ¬ ((e.profile d).assigns .position = true ∧ x.late.inputs.position = some true) := by
    rintro ⟨ha, ho⟩
    have hp : x.inputs.position = some true := ho
    simp [Door.closed, ha, hp] at hc
  rw [actOnExpiry_force (x := x.late) h]
  dsimp only
  rw [if_neg hopen, setWatch_put_quiet (by exact quiet_forced _ hc)]
  rfl

/-- What a door left RELEASED comes to (R121): what it goes on with, and RELEASED where it shows that. -/
theorem leave_takes {b : Segment} {y : Door} (hy : (b.door d) = y) (hw : y.mon.watch = none) (hd : y.eng.deferral = .none)
    (ho : y.eng.owed = none) (hl : y.eng.sticky.leftReleased = true) :
    let t := takeReleased e d .already b
    (t.door d).eng.sticky.leftReleased = true ∧ (t.door d).eng.owed = none ∧ (t.door d).eng.deferral = .none
    ∧ (t.door d).mon.watch = none := by
  have hf := (show Forward d y b from hy ▸ Eased.refl _).takeReleased (e := e) (o := .already)
  exact ⟨hf.left hl, hf.owed.elim (fun h => h.trans ho) id, hf.deferral.elim (fun h => h.trans hd) id,
    hf.watch.elim (fun h => h.trans hw) id⟩

end

/-- Settles O55: the two rows by state, policy and position, and the act on an EXPIRED deferral. -/
theorem deferral : Obligations.Deferral := by
  refine ⟨fun d s hp => ⟨fun h => ⟨?_, ?_⟩, fun n hn hw => ⟨fun hh => ⟨?_, ?_⟩, fun hh hle => ?_, fun hh c hc => ?_⟩⟩, fun e d g => ?_⟩
  · exact congrArg Host.Outcome.next (runSegment_same _ s hp (deferralCount_idle h))
  · exact congrArg Host.Outcome.next (runSegment_same _ s hp (deferralExpires_idle (h.imp id .inl)))
  · refine congrArg Host.Outcome.next ((runSegment_eq _ s hp).trans ?_)
    dsimp only
    rw [deferralCount_counts hn hw]
    dsimp only
    rw [if_pos ((hold_iff _).2 hh)]
  · exact congrArg Host.Outcome.next (runSegment_same _ s hp (deferralExpires_idle (.inr (.inr ((hold_iff _).2 hh)))))
  · refine congrArg Host.Outcome.next ((runSegment_eq _ s hp).trans ?_)
    dsimp only
    rw [deferralCount_counts hn hw]
    dsimp only
    rw [if_neg fun h => hh ((hold_iff _).1 h), if_neg (by omega)]
  · have hends := deferral_ends hp hn hw (Bool.eq_false_iff.mpr fun h => hh ((hold_iff _).1 h)) hc
    have hwaits (hq : (s.seg.door d).eng.state = .quietWait) :
        exec c s = .next (settled { s with seg := actOnExpiry s.env d (s.seg.putDoor d (s.seg.door d).late) }) := by
      rw [hends, Segment.lateAt, if_pos hq]
    refine ⟨fun hs => ?_, fun hq hf ho ha => ?_, fun hq hf hcl hwn => ?_, fun hq hf hcl hwn => ?_, fun hq hf ho ha => ?_, fun hq hl => ?_,
      fun hq hl => ?_, fun hq hf hcl hwn => ?_⟩
    · rw [hends, Segment.lateAt, if_neg (by simp [hs])]
      rfl
    · rw [hwaits hq, actOnExpiry_late_open hf ha ho]
      rfl
    · rw [hwaits hq, actOnExpiry_late_closed hf hcl, quietNotice_put_warns (x := (s.seg.door d).forced none) hq hwn]
      rfl
    · refine ⟨_, hwaits hq, ?_⟩
      rw [actOnExpiry_late_closed hf hcl]
      have hfw := (show Forward d _ (s.seg.putDoor d ((s.seg.door d).forced none)) from Eased.refl _).quietNotice (e := s.env)
      rw [door_putDoor_same] at hfw
      exact ⟨hfw.watch.elim id id, hfw.deferral.elim id id⟩
    · rw [hwaits hq, actOnExpiry_late_unknown hf ha ho]
      rfl
    · refine ⟨_, hwaits hq, ?_⟩
      rw [actOnExpiry_late_leave hl]
      have hdoor : (listException s.env (some d) .leftReleased none (answer s.env d (s.seg.door d).eng.owed .leftReleased
          (s.seg.putDoor d { (s.seg.door d).expired Engine.leftReleased with
            mon := { (s.seg.door d).mon with watch := none } }))).door d
          = { (s.seg.door d).expired Engine.leftReleased with mon := { (s.seg.door d).mon with watch := none } } := by
        rw [listException_door, answer_door, door_putDoor_same]
      obtain ⟨h1, h2, h3, h4⟩ := leave_takes (e := s.env) hdoor rfl rfl rfl rfl
      refine ⟨h1, h2, h3, h4, fun hs hu => ?_⟩
      have hmade := (Made.refl (A := False) (d := d) (g := listException s.env (some d) .leftReleased none
        (answer s.env d (s.seg.door d).eng.owed .leftReleased (s.seg.putDoor d { (s.seg.door d).expired Engine.leftReleased with
          mon := { (s.seg.door d).mon with watch := none } })))
        (by rw [answer_eq]; exact hu) False.elim).cast hdoor
      obtain ⟨free, hto⟩ := hmade.takeReleased_settles (e := s.env) .already (.inl hs)
      rw [hto.eng, Door.settledAt_eq]
      exact ⟨rfl, rfl⟩
    · rw [hwaits hq, actOnExpiry_late_leave hl]
      rfl
    · rw [hwaits hq, actOnExpiry_late_closed hf hcl, quietNotice_proceeds]
      · rfl
      · rw [door_putDoor_same]
        exact hq
      · rw [door_putDoor_same]
        exact hwn
  · have hg := putDoor_self g d
    refine ⟨fun hl => ?_, fun hf => ?_, fun hq => ?_, fun hq => ?_, rfl⟩
    · have h := actOnExpiry_leave (e := e) (d := d) (g := g) (x := g.door d) hl
      rw [hg, ← expired_eq Engine.leftReleased (fun _ => ⟨rfl, rfl⟩)] at h
      exact h
    · have h := actOnExpiry_force (e := e) (d := d) (g := g) (x := g.door d) hf
      dsimp only at h
      rw [hg, ← expired_eq (fun y => { y with force := true }) (fun _ => ⟨rfl, rfl⟩)] at h
      exact h
    · exact (setWatch_quiet hq).trans (congrArg _ (clearWatch_eq.symm))
    · exact (setWatch_unquiet hq).trans (upd_same_level e d (fun x => { x with mon := { x.mon with
        watch := some ⟨(g.door d).eng.params.threshold, (g.door d).eng.force⟩ } }) g rfl).symm

end Sys2Proof.Machine
end

section
/-! Target sets (R114 to R118, R130): the door and the runs after one, by the state it finds, and the sensed posture (R47). -/

namespace Sys2Proof.Machine

/-! ## The sensed posture, line by line -/

section
variable {p : ProfileEntry} {x : Door}

theorem boltEngaged_iff : x.boltEngaged p = true ↔ ((∃ k : Fin 6, p.functions[k] = .bolt) → x.inputs.bolt = some true) := by
  rw [← assigns_iff, Door.boltEngaged, Bool.or_eq_true, beq_iff_eq, Bool.not_eq_true']
  cases p.assigns .bolt <;> simp

theorem boltWithdrawn_iff : x.boltWithdrawn p = true ↔ ((∃ k : Fin 6, p.functions[k] = .bolt) → x.inputs.bolt = some false) := by
  rw [← assigns_iff, Door.boltWithdrawn, Bool.or_eq_true, beq_iff_eq, Bool.not_eq_true']
  cases p.assigns .bolt <;> simp

theorem reported_iff (b : Bool) : (x.reported p == some b) = true ↔
    ((∃ k : Fin 6, p.functions[k] = .lockDrive) → x.inputs.reportedDrive = some b)
    ∧ (¬ (∃ k : Fin 6, p.functions[k] = .lockDrive) → b = false) := by
  rw [← assigns_iff, Door.reported, beq_iff_eq]
  cases p.assigns .lockDrive <;> simp [eq_comm]

theorem currentSound_iff : x.currentSound p = true ↔ ∃ i, x.inputs.current = some i ∧ p.underLimit ≤ i := by
  unfold Door.currentSound
  cases x.inputs.current <;> simp

/-- A posture read as SECURED by a and, failing that, as RELEASED by b. -/
theorem reads_iff {a b : Bool} {P Q : Prop} (hP : a = true ↔ P) (hQ : b = true ↔ Q) {v : Option Posture}
    (hv : v = if a then some .secured else if b then some .released else none) :
    (v = some .secured ↔ P) ∧ (¬ P → (v = some .released ↔ Q)) := by
  rw [hv, ← hP, ← hQ]
  cases a <;> cases b <;> simp

theorem bolt_and_iff (b : Bool) (test : Bool)
    (htest : test = true ↔ ((∃ k : Fin 6, p.functions[k] = .bolt) → x.inputs.bolt = some b)) :
    (p.assigns .bolt && test) = true ↔ (∃ k : Fin 6, p.functions[k] = .bolt) ∧ x.inputs.bolt = some b := by
  rw [Bool.and_eq_true, htest, assigns_iff]
  exact ⟨fun ⟨h, i⟩ => ⟨h, i h⟩, fun ⟨h, i⟩ => ⟨h, fun _ => i⟩⟩

/-- R47's table. -/
theorem sensedAs_table (v : Option Posture) (p : ProfileEntry) (x : Door) :
    let has (f : TermFn) : Prop := ∃ k : Fin 6, p.functions[k] = f
    let drives (b : Bool) : Prop := (has .lockDrive → x.inputs.reportedDrive = some b) ∧ (¬ has .lockDrive → b = false)
    let current : Prop := ∃ i, x.inputs.current = some i ∧ p.underLimit ≤ i
    let closed : Prop := has .position → x.inputs.position = some false
    let engaged : Prop := has .bolt → x.inputs.bolt = some true
    let withdrawn : Prop := has .bolt → x.inputs.bolt = some false
    let reads (secured released : Prop) : Prop := (x.sensedAs v p = some .secured ↔ secured)
      ∧ (¬ secured → (x.sensedAs v p = some .released ↔ released))
    (x.drop.lost = true ∨ x.drop.firstReply = false → x.sensedAs v p = none)
    ∧ (x.drop.lost = false → x.drop.firstReply = true →
      (p.lockKind = .magnetic → reads (drives true ∧ current ∧ closed ∧ engaged) (drives false))
      ∧ (p.lockKind = .strike → reads (drives false ∧ closed ∧ engaged) (drives true ∧ current ∧ withdrawn))
      ∧ (p.lockKind = .motor →
        (v = none → reads (has .bolt ∧ x.inputs.bolt = some true ∧ closed) (has .bolt ∧ x.inputs.bolt = some false))
        ∧ (v = some .secured → reads (x.eng.pulseAcked = true ∧ engaged ∧ closed) False)
        ∧ (v = some .released → reads False (x.eng.pulseAcked = true ∧ withdrawn)))) := by
  intro has drives current closed engaged withdrawn reads
  refine ⟨fun h => if_pos (by rcases h with h | h <;> simp [h]), fun hlost hfirst => ?_⟩
  have hheard : ¬ (x.drop.lost || !x.drop.firstReply) = true := by simp [hlost, hfirst]
  refine ⟨fun hk => ?_, fun hk => ?_, fun hk => ⟨fun hv => ?_, fun hv => ?_, fun hv => ?_⟩⟩
  · refine reads_iff (a := x.reported p == some true && x.currentSound p && x.closed p && x.boltEngaged p)
      (b := x.reported p == some false) ?_ (reported_iff false) ?_
    · rw [Bool.and_eq_true, Bool.and_eq_true, Bool.and_eq_true, reported_iff, currentSound_iff, closed_iff, boltEngaged_iff, and_assoc,
        and_assoc]
    · unfold Door.sensedAs
      rw [if_neg hheard, hk]
  · refine reads_iff (a := x.reported p == some false && x.closed p && x.boltEngaged p)
      (b := x.reported p == some true && x.currentSound p && x.boltWithdrawn p) ?_ ?_ ?_
    · rw [Bool.and_eq_true, Bool.and_eq_true, reported_iff, closed_iff, boltEngaged_iff, and_assoc]
    · rw [Bool.and_eq_true, Bool.and_eq_true, reported_iff, currentSound_iff, boltWithdrawn_iff, and_assoc]
    · unfold Door.sensedAs
      rw [if_neg hheard, hk]
  · refine reads_iff (a := p.assigns .bolt && x.boltEngaged p && x.closed p) (b := p.assigns .bolt && x.boltWithdrawn p) ?_
      (bolt_and_iff false _ boltWithdrawn_iff) ?_
    · rw [Bool.and_eq_true, bolt_and_iff true _ boltEngaged_iff, closed_iff, and_assoc]
    · unfold Door.sensedAs
      rw [if_neg hheard, hk, hv]
  · refine reads_iff (a := x.eng.pulseAcked && x.boltEngaged p && x.closed p) (b := false) ?_ (by simp) ?_
    · rw [Bool.and_eq_true, Bool.and_eq_true, boltEngaged_iff, closed_iff, and_assoc]
    · unfold Door.sensedAs
      rw [if_neg hheard, hk, hv]
      rfl
  · refine reads_iff (a := false) (b := x.eng.pulseAcked && x.boltWithdrawn p) (by simp) ?_ ?_
    · rw [Bool.and_eq_true, boltWithdrawn_iff]
    · unfold Door.sensedAs
      rw [if_neg hheard, hk, hv]
      rfl

end

/-! ## Leaving HOLDING, and the tables -/

theorem heldDrive_of_held {x : Door} (p : ProfileEntry) (h : x.drop.held ≠ none) : x.heldDrive p = (match p.terminalOf .lockDrive with
    | some k => (x.drop.held.getD 0).getLsbD k.val
    | none => false) := by
  obtain ⟨v, hv⟩ := Option.ne_none_iff_exists'.mp h
  unfold Door.heldDrive
  rw [hv]
  cases p.terminalOf .lockDrive <;> rfl

section
variable {e : Env} {d : DoorNo} {g : Segment}

theorem leaveHolding_motor (hs : (g.door d).eng.state = .holding) (hk : (e.profile d).lockKind = .motor) :
    leaveHolding e d g = setDrive e d false g := by
  unfold leaveHolding
  dsimp only
  rw [if_neg (by simp [hs]), if_pos hk]

theorem leaveHolding_held (hs : (g.door d).eng.state = .holding) (hk : (e.profile d).lockKind ≠ .motor)
    (hh : (g.door d).drop.held ≠ none) : leaveHolding e d g = setDrive e d ((g.door d).heldDrive (e.profile d)) g := by
  obtain ⟨v, hv⟩ := Option.ne_none_iff_exists'.mp hh
  unfold leaveHolding
  dsimp only
  rw [if_neg (by simp [hs]), if_neg hk, hv]

theorem leaveHolding_unheld (hs : (g.door d).eng.state = .holding) (hk : (e.profile d).lockKind ≠ .motor)
    (hh : (g.door d).drop.held = none) :
    leaveHolding e d g = setDrive e d (Config.unheldDrive g.free) { g with free := g.free + 1 } := by
  unfold leaveHolding
  dsimp only
  rw [if_neg (by simp [hs]), if_neg hk, hh]

/-! ## What a target set replaces -/

/-- A door that has answered and then changed: the door, the others, the queue and the runs. -/
theorem told_put {k : Option Nat} {o : DoorOutcome} {z : Door} {t : Segment} (h : t = (answer e d k o g).putDoor d z) :
    t.door d = z ∧ OnlyDoor d g t ∧ t.queue = g.queue ∧ t.seqr = (answer e d k o g).seqr := by
  subst h
  refine ⟨door_putDoor_same .., fun j hj => ?_, ?_, rfl⟩
  · rw [door_putDoor_ne _ _ _ _ hj, answer_door]
  · rw [answer_eq]
    rfl

/-- A door with another target, and what it owes for it. -/
def Door.adopting (p : Posture) (ps : Params) (owed : Option Nat) (x : Door) : Door := { x with
  eng := { x.eng with target := some p, params := ps, owed := owed } }

theorem adopt_eq (p : Posture) (ps : Params) (owed : Option Nat) : adopt e d p ps owed g =
    (answer e d (g.door d).eng.owed .overridden g).putDoor d ((g.door d).adopting p ps owed) := by
  have howed : answerOwed e d .overridden g = (answer e d (g.door d).eng.owed .overridden g).putDoor d
      { g.door d with eng := { (g.door d).eng with owed := none } } := by
    have h := answerOwed_put (e := e) (d := d) (g := g) (x := g.door d) .overridden
    rw [putDoor_self, answer_putDoor] at h
    exact h
  unfold adopt
  rw [howed, updEng_put fun x => { x with target := some p, params := ps, owed := owed }]
  rfl

theorem holdPending_eq (p : Posture) (ps : Params) (owed : Option Nat) : holdPending e d p ps owed g =
    (answer e d ((g.door d).eng.pendingTarget.bind fun q => q.owed) .overridden g).putDoor d { g.door d with
      eng := { (g.door d).eng with pendingTarget := some ⟨p, ps, owed⟩ } } := by
  unfold holdPending answerPending
  cases hq : (g.door d).eng.pendingTarget with
  | none => exact updEng_eq _
  | some q =>
    dsimp only
    rw [upd_same_level _ _ _ _ rfl, answer_putDoor, updEng_put fun x => { x with pendingTarget := some ⟨p, ps, owed⟩ }]
    rfl

/-- A door whose attempt begins (R114, R117, R130). -/
def Door.begun (p : Posture) (ps : Params) (owed : Option Nat) (tm : Timer) (x : Door) : Door := { x with
  eng := { x.eng with
    target := some p, params := ps, owed := owed, beforeAttempt := x.eng.target, retry := 0, force := false, timer := tm
    fallback := if x.eng.state = .faulted then .faulted else .ofTarget x.eng.target
    pulseInAttempt := x.eng.pulseInAttempt && x.eng.state != .released }
  mon := { x.mon with watch := if x.eng.state = .quietWait then none else x.mon.watch } }

/-- The states from which a target set starts an attempt (R114, R117, R130). -/
def Door.starts (p : Posture) (k : LockKind) (x : Engine) : Prop :=
  (x.target ≠ some p ∧ x.state ∈ [DoorState.released, .secured, .quietWait, .warning, .awaitGrant, .exitShunt])
    ∨ x.state = .holding ∨ (x.state = .faulted ∧ p = .released)
    ∨ (x.state = .cooling ∧ x.target ≠ some p ∧ (k = .magnetic ∧ p = .released ∨ k = .strike ∧ p = .secured))

theorem reachedDriveOff_iff (k : LockKind) (p : Posture) :
    reachedDriveOff k p = true ↔ k = .magnetic ∧ p = .released ∨ k = .strike ∧ p = .secured := by
  cases k <;> cases p <;> simp [reachedDriveOff]

theorem Made.newAttempt {A : Prop} {x : Door} {b : Segment} (h : Made A d x b g) (p : Posture) (ps : Params) (owed : Option Nat)
    (fb : Option Fallback) : ∃ k, Machine.newAttempt e d p ps owed fb g = takeToward e d p .already k
    ∧ Made A d { x with eng := { x.eng with
        target := some p, params := ps, owed := owed, beforeAttempt := x.eng.target, retry := 0, force := false
        fallback := fb.getD (.ofTarget x.eng.target)
        pulseInAttempt := x.eng.pulseInAttempt && x.eng.state != .released } } (Machine.answer e d x.eng.owed .overridden b) k := by
  have adopted : Made A d (x.adopting p ps owed) (Machine.answer e d x.eng.owed .overridden b) (adopt e d p ps owed g) :=
    (h.answerOwed (e := e) .overridden).updEng fun x => { x with target := some p, params := ps, owed := owed }
  refine ⟨_, rfl, ?_⟩
  rw [h.eng]
  exact adopted.updEng fun y => { y with
    fallback := fb.getD (.ofTarget x.eng.target), beforeAttempt := x.eng.target, retry := 0, force := false
    pulseInAttempt := y.pulseInAttempt && y.state != .released }

section
variable {p : Posture} {ps : Params} {owed : Option Nat}

theorem targetSet_released (hs : (g.door d).eng.state = .released) (ht : (g.door d).eng.target ≠ some p) :
    targetSet e d p ps owed g = newAttempt e d p ps owed none g := by
  unfold targetSet
  dsimp only
  rw [hs]
  exact if_neg ht

theorem targetSet_secured (hs : (g.door d).eng.state = .secured) (ht : (g.door d).eng.target ≠ some p) :
    targetSet e d p ps owed g = newAttempt e d p ps owed none g := by
  unfold targetSet
  dsimp only
  rw [hs]
  exact if_neg ht

theorem targetSet_quietWait (hs : (g.door d).eng.state = .quietWait) (ht : (g.door d).eng.target ≠ some p) :
    targetSet e d p ps owed g = newAttempt e d p ps owed none (clearWatch e d g) := by
  unfold targetSet
  dsimp only
  rw [hs]
  exact if_neg ht

theorem targetSet_warning (hs : (g.door d).eng.state = .warning) (ht : (g.door d).eng.target ≠ some p) :
    targetSet e d p ps owed g = newAttempt e d p ps owed none (updEng e d (fun x => { x with timer := .stopped }) g) := by
  unfold targetSet
  dsimp only
  rw [hs]
  exact if_neg ht

theorem targetSet_awaitGrant (hs : (g.door d).eng.state = .awaitGrant) (ht : (g.door d).eng.target ≠ some p) :
    targetSet e d p ps owed g = newAttempt e d p ps owed none (withdraw e d g) := by
  unfold targetSet
  dsimp only
  rw [hs]
  exact if_neg ht

theorem targetSet_exitShunt (hs : (g.door d).eng.state = .exitShunt) (ht : (g.door d).eng.target ≠ some p) :
    targetSet e d p ps owed g = newAttempt e d p ps owed none (updEng e d (fun x => { x with timer := .stopped }) g) := by
  unfold targetSet
  dsimp only
  rw [hs]
  exact if_neg ht

theorem targetSet_holding (hs : (g.door d).eng.state = .holding) : targetSet e d p ps owed g = newAttempt e d p ps owed none g := by
  unfold targetSet
  dsimp only
  rw [hs]

theorem targetSet_faulted_released (hs : (g.door d).eng.state = .faulted) :
    targetSet e d .released ps owed g = newAttempt e d .released ps owed (some .faulted) g := by
  unfold targetSet
  dsimp only
  rw [hs]

theorem targetSet_cooling (hs : (g.door d).eng.state = .cooling) (ht : (g.door d).eng.target ≠ some p)
    (hk : (e.profile d).lockKind = .magnetic ∧ p = .released ∨ (e.profile d).lockKind = .strike ∧ p = .secured) :
    targetSet e d p ps owed g = newAttempt e d p ps owed none (updEng e d (fun x => { x with timer := .stopped }) g) := by
  unfold targetSet
  dsimp only
  rw [hs]
  exact if_pos (by simp [ht, (reachedDriveOff_iff _ _).2 hk])

end

/-- A door that starts stands, with no place in the queue any more, where its attempt begins. -/
theorem targetSet_begins {p : Posture} {ps : Params} {owed : Option Nat} (hs : Door.starts p (e.profile d).lockKind (g.door d).eng)
    (hq : (g.door d).eng.state = .awaitGrant ∨ Unqueued d g) : ∃ tm k, targetSet e d p ps owed g = takeToward e d p .already k
    ∧ Made (∀ q ∈ g.queue, (g.door d).eng.state = .awaitGrant ∧ q.door = d) d ((g.door d).begun p ps owed tm)
        (answer e d (g.door d).eng.owed .overridden g) k := by
  -- Where the door stands when the attempt begins.
  have begins {fb : Option Fallback} {x : Door} {k : Segment} (heq : targetSet e d p ps owed g = newAttempt e d p ps owed fb k)
      (hm : Made (∀ q ∈ g.queue, (g.door d).eng.state = .awaitGrant ∧ q.door = d) d x g k)
      (hx : x = { g.door d with
        eng := { (g.door d).eng with timer := x.eng.timer }
        mon := { (g.door d).mon with watch := if (g.door d).eng.state = .quietWait then none else (g.door d).mon.watch } })
      (hfb : fb = if (g.door d).eng.state = .faulted then some .faulted else none) :
      ∃ tm j, targetSet e d p ps owed g = takeToward e d p .already j
        ∧ Made (∀ q ∈ g.queue, (g.door d).eng.state = .awaitGrant ∧ q.door = d) d ((g.door d).begun p ps owed tm)
          (answer e d (g.door d).eng.owed .overridden g) j := by
    obtain ⟨j, hj, hmade⟩ := hm.newAttempt (e := e) p ps owed fb
    refine ⟨x.eng.timer, j, heq.trans hj, ?_⟩
    have hfall : fb.getD (.ofTarget (g.door d).eng.target)
        = if (g.door d).eng.state = .faulted then Fallback.faulted else .ofTarget (g.door d).eng.target := by
      rw [hfb]
      split <;> rfl
    rw [hx] at hmade
    exact hmade.cast (by
      dsimp only
      rw [hfall]
      rfl)
  have unqueued (h : (g.door d).eng.state ≠ .awaitGrant) :
      Made (∀ q ∈ g.queue, (g.door d).eng.state = .awaitGrant ∧ q.door = d) d (g.door d) g g :=
    .refl (hq.resolve_left h) fun hall => List.eq_nil_iff_forall_not_mem.mpr fun q hq => h (hall q hq).1
  have same {x : Door} (h : (g.door d).eng.state ≠ .quietWait) (hx : x = { g.door d with eng := { (g.door d).eng with timer := x.eng.timer } }) :
      x = { g.door d with
        eng := { (g.door d).eng with timer := x.eng.timer }
        mon := { (g.door d).mon with watch := if (g.door d).eng.state = .quietWait then none else (g.door d).mon.watch } } := by
    rw [if_neg h]
    exact hx
  have timed (h : (g.door d).eng.state ≠ .awaitGrant) := (unqueued h).updEng (e := e) fun x => { x with timer := .stopped }
  rcases hs with ⟨ht, hs⟩ | hs | ⟨hs, rfl⟩ | ⟨hs, ht, hk⟩
  · simp only [List.mem_cons, List.not_mem_nil, or_false] at hs
    rcases hs with hs | hs | hs | hs | hs | hs
    · exact begins (targetSet_released hs ht) (unqueued (by simp [hs])) (same (by simp [hs]) rfl) (by simp [hs])
    · exact begins (targetSet_secured hs ht) (unqueued (by simp [hs])) (same (by simp [hs]) rfl) (by simp [hs])
    · exact begins (targetSet_quietWait hs ht) (unqueued (by simp [hs])).clearWatch (by rw [if_pos hs]) (by simp [hs])
    · exact begins (targetSet_warning hs ht) (timed (by simp [hs])) (same (by simp [hs]) rfl) (by simp [hs])
    · refine begins (x := g.door d) (targetSet_awaitGrant hs ht) ?_ (same (by simp [hs]) rfl) (by simp [hs])
      by_cases hu : Unqueued d g
      · rw [withdraw_of_unqueued hu]
        exact .refl hu fun hall => List.eq_nil_iff_forall_not_mem.mpr fun q hq => hu q hq (hall q hq).2
      · have hdeq := (Made.refl (A := ∀ q ∈ g.queue, (g.door d).eng.state = .awaitGrant ∧ q.door = d) (unqueued_dequeue d g)
          fun hall => List.filter_eq_nil_iff.mpr fun q hq => by simp [(hall q hq).2]).consider (e := e)
        have hw : withdraw e d g = consider e (dequeue d g) := if_pos (by
          simp only [Unqueued, not_forall, not_not] at hu
          obtain ⟨q, hq, hqd⟩ := hu
          exact List.any_eq_true.mpr ⟨q, hq, beq_iff_eq.mpr hqd⟩)
        rw [hw]
        exact hdeq.rebase rfl
    · exact begins (targetSet_exitShunt hs ht) (timed (by simp [hs])) (same (by simp [hs]) rfl) (by simp [hs])
  · exact begins (targetSet_holding hs) (unqueued (by simp [hs])) (same (by simp [hs]) rfl) (by simp [hs])
  · exact begins (targetSet_faulted_released hs) (unqueued (by simp [hs])) (same (by simp [hs]) rfl) (by simp [hs])
  · exact begins (targetSet_cooling hs ht hk) (timed (by simp [hs])) (same (by simp [hs]) rfl) (by simp [hs])

end

end Sys2Proof.Machine
end

section
/-! The outcome of a target set, state by state (R114 to R118, R130). -/

namespace Sys2Proof.Machine

/-- An attempt toward p has begun for a door that was x (R114, R117). -/
def Begun (p : Posture) (ps : Params) (x b : Engine) : Prop :=
  b.target = some p ∧ b.params = ps ∧ b.retry = 0 ∧ b.force = false ∧ b.pendingTarget = x.pendingTarget
  ∧ b.fallback = (if x.state = .faulted then .faulted else match x.target with
      | none => .none
      | some .secured => .secured
      | some .released => .released)

section
variable {e : Env} {d : DoorNo} {g : Segment} {p : Posture} {ps : Params} {owed : Option Nat} {tm : Timer} {x : Door}

theorem begun_fallback (x : Engine) : (if x.state = .faulted then Fallback.faulted else .ofTarget x.target)
    = (if x.state = .faulted then .faulted else match x.target with
      | none => .none
      | some .secured => .secured
      | some .released => .released) := by
  split
  · rfl
  · cases x.target with
    | none => rfl
    | some q => cases q <;> rfl

theorem begun_sensed (k : ProfileEntry) : (x.begun p ps owed tm).sensedOutside k = x.sensedOutside k := rfl

theorem begun_rests {k : ProfileEntry} : (x.begun p ps owed tm).rests k ↔
    k.lockKind = .motor ∧ x.sensedOutside k = none ∧ x.eng.lastSettled = .released
      ∧ (x.eng.pulseInAttempt = false ∨ x.eng.state = .released) := by
  have hpulse : (x.begun p ps owed tm).eng.pulseInAttempt = false ↔ x.eng.pulseInAttempt = false ∨ x.eng.state = .released := by
    show (x.eng.pulseInAttempt && x.eng.state != .released) = false ↔ _
    cases x.eng.pulseInAttempt <;> simp
  unfold Door.rests
  rw [begun_sensed, hpulse]
  exact Iff.rfl

/-- What leaving HOLDING and entering a state leave of a begun attempt. -/
theorem begun_left {k : ProfileEntry} {free : Bool} {y : Door} (hy : y = (x.begun p ps owed tm).leaving k free) :
    Begun p ps x.eng y.eng ∧ y.eng.owed = owed ∧ y.eng.state = x.eng.state := by
  rw [hy, Door.leaving_eq]
  exact ⟨⟨rfl, rfl, rfl, rfl, rfl, begun_fallback x.eng⟩, rfl, rfl⟩

theorem begun_of_eq {a b : Engine} (h : Begun p ps x.eng a) (ht : b.target = a.target) (hp : b.params = a.params) (hr : b.retry = a.retry)
    (hf : b.force = a.force) (hq : b.pendingTarget = a.pendingTarget) (hb : b.fallback = a.fallback) : Begun p ps x.eng b := by
  obtain ⟨h1, h2, h3, h4, h5, h6⟩ := h
  exact ⟨ht.trans h1, hp.trans h2, hr.trans h3, hf.trans h4, hq.trans h5, hb.trans h6⟩

theorem restingDrive_eq (k : LockKind) (p : Posture) :
    restingDrive k p = (k == .magnetic && p == .secured || k == .strike && p == .released) := by
  cases k <;> cases p <;> rfl

/-- A begun attempt that finds its posture (R115, R116). -/
theorem settled_already {A : Prop} {b t : Segment} {free : Bool}
    (h : Made A d (((x.begun p ps owed tm).leaving (e.profile d) free).settledAt (e.profile d) p) b t) :
    (t.door d).eng.state = p.state ∧ Begun p ps x.eng (t.door d).eng ∧ (t.door d).eng.owed = none ∧ (t.door d).eng.deferral = .none
    ∧ (t.door d).eng.timer.running = false
    ∧ (t.door d).mon.watch = (if x.eng.state = .quietWait then none else x.mon.watch)
    ∧ (t.door d).eng.live.notSecured = false ∧ (t.door d).eng.live.notReleased = false
    ∧ (t.door d).eng.drive = ((e.profile d).lockKind == .magnetic && p == .secured || (e.profile d).lockKind == .strike && p == .released) := by
  rw [h.eng, h.mon, Door.settledAt_eq, Door.leaving_eq]
  exact ⟨rfl, ⟨rfl, rfl, rfl, rfl, rfl, begun_fallback x.eng⟩, rfl, rfl, rfl, rfl, rfl, rfl, restingDrive_eq _ _⟩

/-- A begun attempt that can be driven by nothing (R41, log 50). -/
theorem faulted_unwired {A : Prop} {b t : Segment} {free : Bool} {k : Kind}
    (h : Made A d (((x.begun p ps owed tm).leaving (e.profile d) free).faultedBy k) b t) :
    (t.door d).eng.state = .faulted ∧ Begun p ps x.eng (t.door d).eng ∧ (t.door d).eng.owed = none ∧ (t.door d).eng.deferral = .none
    ∧ (t.door d).eng.live = (((x.begun p ps owed tm).leaving (e.profile d) free).eng.live.put k true)
    ∧ (t.door d).eng.sticky = (((x.begun p ps owed tm).leaving (e.profile d) free).eng.sticky.set k none) := by
  obtain ⟨hbegun, -, -⟩ := begun_left (k := e.profile d) (free := free) (x := x) (p := p) (ps := ps) (owed := owed) (tm := tm) rfl
  rw [h.eng]
  exact ⟨rfl, hbegun, rfl, rfl, rfl, rfl⟩

end

/-! ## The states that start no attempt -/

section
variable {e : Env} {d : DoorNo} {g : Segment} {p : Posture} {ps : Params} {owed : Option Nat}

theorem targetSet_absent (hs : (g.door d).eng.state = .absent ∨ (g.door d).eng.state = .outOfService) :
    targetSet e d p ps owed g = answer e d owed .absent g := by
  unfold targetSet
  dsimp only
  rcases hs with hs | hs <;> rw [hs]

theorem targetSet_egress (hs : (g.door d).eng.state = .egress) : targetSet e d p ps owed g = answer e d owed .overridden g := by
  unfold targetSet
  dsimp only
  rw [hs]

theorem targetSet_lost (hs : (g.door d).eng.state = .lost) : targetSet e d p ps owed g =
    if (g.door d).eng.lostFrom = .driving ∨ (g.door d).eng.lostFrom = .verifying
    then answer e d owed .lost (holdPending e d p ps none g)
    else answer e d owed .lost (g.putDoor d { g.door d with
      eng := { (g.door d).eng with target := some p, params := ps, recordedWhileLost := true } }) := by
  have hput := updEng_eq (e := e) (d := d) (g := g) fun x => { x with target := some p, params := ps, recordedWhileLost := true }
  rw [← hput]
  unfold targetSet
  dsimp only
  rw [hs]
  dsimp only
  split <;> rfl

theorem targetSet_busy (hs : (g.door d).eng.state = .driving ∨ (g.door d).eng.state = .verifying) :
    targetSet e d p ps owed g = holdPending e d p ps owed g := by
  unfold targetSet
  dsimp only
  rcases hs with hs | hs <;> rw [hs]

theorem targetSet_settled (hs : (g.door d).eng.state = .secured ∨ (g.door d).eng.state = .released)
    (ht : (g.door d).eng.target = some p) : targetSet e d p ps owed g =
    answer e d owed .already (g.putDoor d { g.door d with eng := { (g.door d).eng with params := ps } }) := by
  have hput := updEng_eq (e := e) (d := d) (g := g) fun x => { x with params := ps }
  rw [← hput]
  unfold targetSet
  dsimp only
  rcases hs with hs | hs <;> rw [hs] <;> exact if_pos ht

theorem targetSet_faulted (hs : (g.door d).eng.state = .faulted) :
    targetSet e d .secured ps owed g = answerOwed e d .failed (adopt e d .secured ps owed g) := by
  unfold targetSet
  dsimp only
  rw [hs]

theorem targetSet_adopts (hs : (g.door d).eng.state = .awaitGrant ∨ (g.door d).eng.state = .exitShunt)
    (ht : (g.door d).eng.target = some p) : targetSet e d p ps owed g = adopt e d p ps owed g := by
  unfold targetSet
  dsimp only
  rcases hs with hs | hs <;> rw [hs] <;> exact if_pos ht

theorem targetSet_cools (hs : (g.door d).eng.state = .cooling) (h : (g.door d).eng.target = some p
      ∨ ¬ ((e.profile d).lockKind = .magnetic ∧ p = .released ∨ (e.profile d).lockKind = .strike ∧ p = .secured)) :
    targetSet e d p ps owed g = adopt e d p ps owed g := by
  unfold targetSet
  dsimp only
  rw [hs]
  refine if_neg fun hc => ?_
  rw [reachedDriveOff_iff] at hc
  rcases h with h | h
  · simp [h] at hc
  · exact h hc.2

theorem targetSet_warns (hs : (g.door d).eng.state = .warning) (ht : (g.door d).eng.target = some p) :
    targetSet e d p ps owed g = startDeferral e d (adopt e d p ps owed g) := by
  unfold targetSet
  dsimp only
  rw [hs]
  exact if_pos ht

/-- The record of a door whose deferral starts anew with its new parameters (R117). -/
def Door.renewed (p : Posture) (ps : Params) (owed : Option Nat) (x : Door) : Door := { x with
  eng := { x.eng with
    target := some p, params := ps, owed := owed, deferral := .ofLimit ps.deferralLimit, deferralSub := 0 } }

theorem targetSet_warns_eq (hs : (g.door d).eng.state = .warning) (ht : (g.door d).eng.target = some p) :
    targetSet e d p ps owed g =
      (answer e d (g.door d).eng.owed .overridden g).putDoor d ((g.door d).renewed p ps owed) := by
  rw [targetSet_warns hs ht, adopt_eq, startDeferral]
  exact updEng_put fun y => { y with deferral := .ofLimit y.params.deferralLimit, deferralSub := 0 }

theorem targetSet_waits_eq (hs : (g.door d).eng.state = .quietWait) (ht : (g.door d).eng.target = some p) :
    targetSet e d p ps owed g = setWatch e d ((answer e d (g.door d).eng.owed .overridden g).putDoor d
      { g.door d with eng := { ((g.door d).renewed p ps owed).eng with force := false } }) := by
  have hput : updEng e d (fun x => { x with force := false }) (startDeferral e d (adopt e d p ps owed g)) =
      (answer e d (g.door d).eng.owed .overridden g).putDoor d
        { g.door d with eng := { ((g.door d).renewed p ps owed).eng with force := false } } := by
    rw [adopt_eq, startDeferral, updEng_put fun y => { y with deferral := .ofLimit y.params.deferralLimit, deferralSub := 0 },
      updEng_put fun y => { y with force := false }]
    rfl
  rw [← hput]
  unfold targetSet
  dsimp only
  rw [hs]
  exact if_pos ht

end

/-- A target set in the states that start no attempt (R114, R117, R118, R130). -/
theorem targetSet_rests (e : Env) (d : DoorNo) (p : Posture) (ps : Params) (owed : Option Nat) (g : Segment) :
    let y := g.door d
    let x := y.eng
    let prof := e.profile d
    let t := targetSet e d p ps owed g
    let deferral : Machine.Deferral := if ps.deferralLimit = 0 then .none else .counting ps.deferralLimit
    let replaced := (answer e d x.owed .overridden g).seqr
    (x.state = .absent ∨ x.state = .outOfService → t = answer e d owed .absent g)
    ∧ (x.state = .egress → t = answer e d owed .overridden g)
    ∧ (x.state = .lost → (t.door d).eng.state = .lost ∧ (t.door d).eng.owed = x.owed ∧ OnlyDoor d g t
        ∧ (if x.lostFrom = .driving ∨ x.lostFrom = .verifying
            then (t.door d).eng.pendingTarget = some ⟨p, ps, none⟩ ∧ (t.door d).eng.target = x.target
            else (t.door d).eng.target = some p ∧ (t.door d).eng.params = ps
              ∧ t.seqr = (answer e d owed .lost g).seqr))
    ∧ (x.state = .driving ∨ x.state = .verifying →
        t.door d = { y with eng := { x with pendingTarget := some ⟨p, ps, owed⟩ } } ∧ OnlyDoor d g t
        ∧ t.seqr = (answer e d (x.pendingTarget.bind (fun q => q.owed)) .overridden g).seqr)
    ∧ (x.state = .secured ∨ x.state = .released → x.target = some p →
        t = answer e d owed .already (g.putDoor d { y with eng := { x with params := ps } }))
    ∧ (x.state = .faulted → p = .secured →
        t.door d = { y with eng := { x with target := some .secured, params := ps, owed := none } } ∧ OnlyDoor d g t)
    ∧ (x.state = .awaitGrant ∨ x.state = .exitShunt → x.target = some p →
        t.door d = { y with eng := { x with params := ps, owed := owed } } ∧ OnlyDoor d g t
        ∧ t.queue = g.queue ∧ t.seqr = replaced)
    ∧ (x.state = .cooling → x.target = some p
          ∨ ¬(prof.lockKind = .magnetic ∧ p = .released ∨ prof.lockKind = .strike ∧ p = .secured) →
        t.door d = { y with eng := { x with target := some p, params := ps, owed := owed } } ∧ OnlyDoor d g t
        ∧ t.queue = g.queue ∧ t.seqr = replaced)
    ∧ (x.state = .warning → x.target = some p →
        t.door d = { y with eng := { x with params := ps, owed := owed, deferralSub := 0, deferral := deferral } }
        ∧ OnlyDoor d g t ∧ t.seqr = replaced)
    ∧ (x.state = .quietWait → x.target = some p →
        let renewed := { x with params := ps, owed := owed, deferralSub := 0, deferral := deferral, force := false }
        (y.quiet prof ⟨ps.threshold, false⟩ = false →
          t.door d = { y with eng := renewed, mon := { y.mon with watch := some ⟨ps.threshold, false⟩ } }
          ∧ OnlyDoor d g t ∧ t.seqr = replaced)
        ∧ (y.quiet prof ⟨ps.threshold, false⟩ = true → 0 < ps.warning →
          t.door d = { y with
            eng := { renewed with state := .warning, timer := ⟨ps.warning, 0, true⟩ }, mon := { y.mon with watch := none } }
          ∧ OnlyDoor d g t ∧ t.seqr = replaced)) := by
  intro y x prof t deferral replaced
  refine ⟨targetSet_absent, targetSet_egress, fun hs => ?_, fun hs => ?_, targetSet_settled, fun hs hp => ?_, fun hs ht => ?_,
    fun hs h => ?_, fun hs ht => ?_, fun hs ht => ⟨fun hq => ?_, fun hq hw => ?_⟩⟩
  · have hlost := targetSet_lost (e := e) (p := p) (ps := ps) (owed := owed) hs
    by_cases hf : x.lostFrom = .driving ∨ x.lostFrom = .verifying
    · have ht : t = answer e d owed .lost ((answer e d (x.pendingTarget.bind fun q => q.owed) .overridden g).putDoor d { y with
          eng := { x with pendingTarget := some ⟨p, ps, none⟩ } }) := by
        rw [← holdPending_eq]
        exact hlost.trans (if_pos hf)
      have hdoor : t.door d = { y with eng := { x with pendingTarget := some ⟨p, ps, none⟩ } } := by
        rw [ht, answer_door, door_putDoor_same]
      rw [hdoor, if_pos hf]
      refine ⟨hs, rfl, fun j hj => ?_, rfl, rfl⟩
      rw [ht, answer_door, door_putDoor_ne _ _ _ _ hj, answer_door]
    · have ht : t = (answer e d owed .lost g).putDoor d { y with
          eng := { x with target := some p, params := ps, recordedWhileLost := true } } := by
        rw [← answer_putDoor]
        exact hlost.trans (if_neg hf)
      obtain ⟨hdoor, honly, -, hseqr⟩ := told_put ht
      rw [hdoor, if_neg hf]
      exact ⟨hs, rfl, honly, rfl, rfl, hseqr⟩
  · obtain ⟨hdoor, honly, -, hseqr⟩ := told_put ((targetSet_busy hs).trans (holdPending_eq p ps owed))
    exact ⟨hdoor, honly, hseqr⟩
  · have ht : t = answer e d owed .failed ((answer e d x.owed .overridden g).putDoor d { y with
        eng := { x with target := some .secured, params := ps, owed := none } }) := by
      show targetSet e d p ps owed g = _
      rw [hp, targetSet_faulted hs, adopt_eq, answerOwed_put]
      rfl
    refine ⟨by rw [ht, answer_door, door_putDoor_same], fun j hj => ?_⟩
    rw [ht, answer_door, door_putDoor_ne _ _ _ _ hj, answer_door]
  · obtain ⟨hdoor, honly, hqueue, hseqr⟩ := told_put ((targetSet_adopts hs ht).trans (adopt_eq p ps owed))
    exact ⟨hdoor.trans (by rw [Door.adopting, ← ht]), honly, hqueue, hseqr⟩
  · exact told_put ((targetSet_cools hs h).trans (adopt_eq p ps owed))
  · obtain ⟨hdoor, honly, -, hseqr⟩ := told_put (targetSet_warns_eq hs ht)
    exact ⟨hdoor.trans (by rw [Door.renewed, ← ht]; rfl), honly, hseqr⟩
  · obtain ⟨hdoor, honly, -, hseqr⟩ := told_put ((targetSet_waits_eq hs ht).trans (setWatch_put_unquiet (by exact hq)))
    exact ⟨hdoor.trans (by rw [Door.renewed, ← ht]; rfl), honly, hseqr⟩
  · obtain ⟨hdoor, honly, -, hseqr⟩ := told_put ((targetSet_waits_eq hs ht).trans
      ((setWatch_put_quiet (by exact hq)).trans (quietNotice_put_warns (by exact hs) (by exact hw))))
    exact ⟨hdoor.trans (by rw [Door.renewed, ← ht]; rfl), honly, hseqr⟩

end Sys2Proof.Machine
end

section
/-! The target sets that start an attempt (R114 to R117, R130): how it begins, and where the tables of R115 and R116 take it at once. -/

namespace Sys2Proof.Machine

/-- No door waits but this one, for the grant that the set withdraws. -/
def Alone (d : DoorNo) (g : Segment) : Prop := ∀ q ∈ g.queue, (g.door d).eng.state = .awaitGrant ∧ q.door = d

section
variable {e : Env} {d : DoorNo} {g : Segment} {p : Posture} {ps : Params} {owed : Option Nat}

/-- The attempt finds its posture (R115, R116): the door stands settled, in no queue. -/
theorem targetSet_settles (hs : Door.starts p (e.profile d).lockKind (g.door d).eng)
    (hq : (g.door d).eng.state = .awaitGrant ∨ ∀ q ∈ g.queue, q.door ≠ d)
    (h : (g.door d).sensedOutside (e.profile d) = some p ∨ (p = .released ∧ (e.profile d).lockKind = .motor
      ∧ (g.door d).sensedOutside (e.profile d) = none ∧ (g.door d).eng.lastSettled = .released
      ∧ ((g.door d).eng.pulseInAttempt = false ∨ (g.door d).eng.state = .released))) :
    ∃ tm free, Made (Alone d g) d ((((g.door d).begun p ps owed tm).leaving (e.profile d) free).settledAt (e.profile d) p)
      (answer e d owed .already (answer e d (g.door d).eng.owed .overridden g)) (targetSet e d p ps owed g) := by
  obtain ⟨tm, k, ht, hmade⟩ := targetSet_begins (ps := ps) (owed := owed) hs hq
  rw [ht]
  refine ⟨tm, ?_⟩
  cases p with
  | secured =>
    exact hmade.takeSecured_settles .already (h.resolve_right fun h => by simp at h)
  | released =>
    refine hmade.takeReleased_settles .already (h.imp id fun ⟨_, hk, hn, hl, hp⟩ => begun_rests.2 ⟨hk, hn, hl, hp⟩)

/-- The attempt finds its posture (R115, R116). -/
theorem targetSet_already (hs : Door.starts p (e.profile d).lockKind (g.door d).eng)
    (hq : (g.door d).eng.state = .awaitGrant ∨ ∀ q ∈ g.queue, q.door ≠ d)
    (h : (g.door d).sensedOutside (e.profile d) = some p ∨ (p = .released ∧ (e.profile d).lockKind = .motor
      ∧ (g.door d).sensedOutside (e.profile d) = none ∧ (g.door d).eng.lastSettled = .released
      ∧ ((g.door d).eng.pulseInAttempt = false ∨ (g.door d).eng.state = .released))) :
    let y := g.door d
    let t := targetSet e d p ps owed g
    let a := (t.door d).eng
    a.state = p.state ∧ Begun p ps y.eng a ∧ a.owed = none ∧ a.deferral = .none ∧ a.timer.running = false
    ∧ (t.door d).mon.watch = (if y.eng.state = .quietWait then none else y.mon.watch)
    ∧ a.live.notSecured = false ∧ a.live.notReleased = false
    ∧ a.drive = ((e.profile d).lockKind == .magnetic && p == .secured || (e.profile d).lockKind == .strike && p == .released)
    ∧ (Alone d g → t.seqr = (answer e d owed .already (answer e d y.eng.owed .overridden g)).seqr) := by
  obtain ⟨tm, free, hto⟩ := targetSet_settles (ps := ps) (owed := owed) hs hq h
  obtain ⟨h1, h2, h3, h4, h5, h6, h7, h8, h9⟩ := settled_already hto
  exact ⟨h1, h2, h3, h4, h5, h6, h7, h8, h9, fun a => (hto.alone a).2⟩

/-- What a posture that is not found, nor rested in, leaves to be driven. -/
theorem targetSet_drives (hs : Door.starts p (e.profile d).lockKind (g.door d).eng)
    (hq : (g.door d).eng.state = .awaitGrant ∨ ∀ q ∈ g.queue, q.door ≠ d)
    (hseen : (g.door d).sensedOutside (e.profile d) ≠ some p) (hrest : ¬ (p = .released ∧ (e.profile d).lockKind = .motor
      ∧ (g.door d).sensedOutside (e.profile d) = none ∧ (g.door d).eng.lastSettled = .released
      ∧ ((g.door d).eng.pulseInAttempt = false ∨ (g.door d).eng.state = .released))) :
    let y := g.door d
    let t := targetSet e d p ps owed g
    let a := (t.door d).eng
    let prof := e.profile d
    let deferral : Machine.Deferral := if ps.deferralLimit = 0 then .none else .counting ps.deferralLimit
    let replaced := (answer e d y.eng.owed .overridden g).seqr
    (prof.assigns .lockDrive = false → a.state = .faulted ∧ Begun p ps y.eng a ∧ a.owed = none ∧ a.deferral = .none
      ∧ (p = .secured → a.live.notSecured = true ∧ a.sticky.notSecured = true)
      ∧ (p = .released → a.live.notReleased = true ∧ a.sticky.notReleased = true)
      ∧ (Alone d g → t.seqr = (answer e d owed .failed (answer e d y.eng.owed .overridden g)).seqr))
    ∧ (prof.assigns .lockDrive = true → p = .released →
      (prof.lockKind = .magnetic → a.state = .verifying ∧ Begun p ps y.eng a ∧ a.owed = owed ∧ a.drive = false
        ∧ a.timer = ⟨prof.verifyTime, 0, true⟩ ∧ (Alone d g → t.seqr = replaced))
      ∧ (prof.lockKind ≠ .magnetic → ∃ h, t = consider e h ∧ (h.door d).eng.state = .awaitGrant ∧ Begun p ps y.eng (h.door d).eng
        ∧ (h.door d).eng.owed = owed ∧ ⟨d, (e.doorEntry d).rank⟩ ∈ h.queue ∧ (Alone d g → h.seqr = replaced)))
    ∧ (prof.assigns .lockDrive = true → p = .secured →
      (y.quiet prof ⟨ps.threshold, false⟩ = false → a.state = .quietWait ∧ Begun p ps y.eng a ∧ a.owed = owed
        ∧ a.deferral = deferral ∧ (t.door d).mon.watch = some ⟨ps.threshold, false⟩
        ∧ (y.eng.state ≠ .holding → a.drive = y.eng.drive)
        ∧ (y.eng.state = .holding → prof.lockKind = .motor → a.drive = false)
        ∧ (y.eng.state = .holding → prof.lockKind ≠ .motor → y.drop.held ≠ none → a.drive = y.heldDrive prof)
        ∧ (Alone d g → t.seqr = replaced))
      ∧ (y.quiet prof ⟨ps.threshold, false⟩ = true → 0 < ps.warning → a.state = .warning ∧ Begun p ps y.eng a ∧ a.owed = owed
        ∧ a.deferral = deferral ∧ a.timer = ⟨ps.warning, 0, true⟩ ∧ (t.door d).mon.watch = none
        ∧ (Alone d g → t.seqr = replaced))) := by
  obtain ⟨tm, k, ht, hmade⟩ := targetSet_begins (ps := ps) (owed := owed) hs hq
  dsimp only
  rw [ht]
  cases p with
  | secured =>
    refine ⟨fun ha => ?_, fun _ h => by simp at h, fun ha _ => ?_⟩
    · obtain ⟨free, hto⟩ := hmade.takeSecured_faults .already hseen ha
      obtain ⟨h1, h2, h3, h4, h5, h6⟩ := faulted_unwired hto
      refine ⟨h1, h2, h3, h4, fun _ => ⟨?_, ?_⟩, fun h => by simp at h, fun a => (hto.alone a).2⟩
      · exact congrArg Live.notSecured h5
      · exact congrArg Sticky.notSecured h6
    · obtain ⟨free, hwait, hto⟩ := hmade.takeSecured_waits .already hseen ha
      obtain ⟨hbegun, howed, -⟩ := begun_left (k := e.profile d) (free := free) (x := g.door d) (p := .secured) (ps := ps) (owed := owed) (tm := tm) rfl
      obtain ⟨-, hbegunParams, -, hbegunForce, -, -⟩ := id hbegun
      have hquiet : ((((g.door d).begun .secured ps owed tm).leaving (e.profile d) free).deferring).quiet (e.profile d)
          ⟨ps.threshold, false⟩ = (g.door d).quiet (e.profile d) ⟨ps.threshold, false⟩ := by rw [Door.leaving_eq]; rfl
      have hparams : (((g.door d).begun .secured ps owed tm).leaving (e.profile d) free).deferring.eng.params = ps := hbegunParams
      have hforce : (((g.door d).begun .secured ps owed tm).leaving (e.profile d) free).deferring.eng.force = false := hbegunForce
      have hdeferral : (((g.door d).begun .secured ps owed tm).leaving (e.profile d) free).deferring.eng.deferral
          = if ps.deferralLimit = 0 then .none else .counting ps.deferralLimit := by
        rw [Door.leaving_eq]
        rfl
      refine ⟨fun hu => ?_, fun hqt hw => ?_⟩
      · have hin := hwait.enterQuietWait_waits (e := e) (by rw [hparams, hforce, hquiet]; exact hu)
          (by rw [hdeferral]; split <;> exact fun h => Deferral.noConfusion h)
        have hdrive : ((takeToward e d .secured .already k).door d).eng.drive
            = (((g.door d).begun .secured ps owed tm).leaving (e.profile d) free).eng.drive := by
          rw [show takeToward e d .secured .already k = _ from hto, hin.eng]
          rfl
        rw [show takeToward e d .secured .already k = _ from hto] at hdrive ⊢
        refine ⟨by rw [hin.eng]; rfl, ?_, by rw [hin.eng]; exact howed, by rw [hin.eng]; exact hdeferral, ?_, fun hh => ?_,
          fun hh hk => ?_, fun hh hk hd => ?_, fun a => (hin.alone a).2⟩
        · rw [hin.eng]
          exact begun_of_eq hbegun rfl rfl rfl rfl rfl rfl
        · rw [hin.mon]
          show some (⟨_, _⟩ : Watch) = _
          rw [hparams, hforce]
        · rw [hdrive, Door.leaving_not (by exact hh)]
          rfl
        · rw [hdrive, Door.leaving, if_pos (by exact hh), Door.driven_drive, hk]
          rfl
        · rw [hdrive, Door.leaving, if_pos (by exact hh), Door.driven_drive, bne_iff_ne.mpr hk, Bool.true_and]
          exact if_pos (Option.isSome_iff_ne_none.mpr hd)
      · have hin := hwait.enterQuietWait_warns (e := e) (by rw [hparams, hforce, hquiet]; exact hqt) (by rw [hparams]; exact hw)
        rw [show takeToward e d .secured .already k = _ from hto]
        refine ⟨by rw [hin.eng]; rfl, ?_, by rw [hin.eng]; exact howed, by rw [hin.eng]; exact hdeferral, ?_,
          by rw [hin.mon]; rfl, fun a => (hin.alone a).2⟩
        · rw [hin.eng]
          exact begun_of_eq hbegun rfl rfl rfl rfl rfl rfl
        · rw [hin.eng]
          show (⟨_, 0, true⟩ : Timer) = _
          rw [hparams]
  | released =>
    have hrest' : ¬ ((g.door d).begun .released ps owed tm).rests (e.profile d) := fun h => hrest ⟨rfl, begun_rests.1 h⟩
    refine ⟨fun ha => ?_, fun ha _ => ⟨fun hk => ?_, fun hk => ?_⟩, fun _ h => by simp at h⟩
    · obtain ⟨free, hto⟩ := hmade.takeReleased_faults .already hseen hrest' ha
      obtain ⟨h1, h2, h3, h4, h5, h6⟩ := faulted_unwired hto
      refine ⟨h1, h2, h3, h4, fun h => by simp at h, fun _ => ⟨?_, ?_⟩, fun a => (hto.alone a).2⟩
      · exact congrArg Live.notReleased h5
      · exact congrArg Sticky.notReleased h6
    · obtain ⟨free, hto⟩ := hmade.takeReleased_verifies .already rfl hseen ha hk
      have heng : ((takeToward e d .released .already k).door d).eng = { ((g.door d).begun .released ps owed tm).eng.enter .verifying with
          drive := false, timer := .start (e.profile d).verifyTime } := by
        rw [show takeToward e d .released .already k = takeReleased e d .already k from rfl, hto.eng, Door.driven_eq, Door.leaving_eq]
        rfl
      rw [heng]
      exact ⟨rfl, ⟨rfl, rfl, rfl, rfl, rfl, begun_fallback _⟩, rfl, rfl, rfl, fun a => (hto.alone a).2⟩
    · obtain ⟨free, h, hto, hdoor, hmem, hseqr⟩ := hmade.takeReleased_awaits .already hseen hrest' ha hk
      have heng : (h.door d).eng = { ((g.door d).begun .released ps owed tm).eng.enter .awaitGrant with
          drive := (((g.door d).begun .released ps owed tm).leaving (e.profile d) free).eng.drive } := by
        rw [show (h.door d).eng = _ from Door.core_read hdoor Door.eng, Door.leaving_eq]
        rfl
      refine ⟨h, hto, ?_, ?_, ?_, hmem, hseqr⟩
      · rw [heng]
        rfl
      · rw [heng]
        exact ⟨rfl, rfl, rfl, rfl, rfl, begun_fallback _⟩
      · rw [heng]
        rfl

/-- A new attempt begins with the answer to what is replaced (R114, R117). -/
theorem newAttempt_eq (fb : Option Fallback) : newAttempt e d p ps owed fb g = takeToward e d p .already
    ((answer e d (g.door d).eng.owed .overridden g).putDoor d { g.door d with eng := { (g.door d).eng with
      target := some p, params := ps, owed := owed, beforeAttempt := (g.door d).eng.target, retry := 0, force := false
      fallback := fb.getD (.ofTarget (g.door d).eng.target)
      pulseInAttempt := (g.door d).eng.pulseInAttempt && (g.door d).eng.state != .released } }) := by
  unfold newAttempt beginAttempt
  dsimp only
  rw [adopt_eq]
  exact congrArg _ (updEng_put fun y => { y with
    fallback := fb.getD (.ofTarget (g.door d).eng.target), beforeAttempt := (g.door d).eng.target, retry := 0, force := false
    pulseInAttempt := y.pulseInAttempt && y.state != .released })

end

/-- Settles O51: the sets that start no attempt, those that start one, R47's table, and the tables of R115 and R116. -/
theorem targetSetByState : Obligations.TargetSetByState := by
  refine ⟨fun e d p ps owed g => ?_, fun v p x => ?_, fun e d g => ?_, fun e d o g => ?_, fun e d p ps owed fb g => ?_⟩
  · obtain ⟨h1, h2, h3, h4, h5, h6, h7, h8, h9, h10⟩ := targetSet_rests e d p ps owed g
    refine ⟨h1, h2, h3, h4, h5, h6, h7, h8, h9, h10, fun hs hq => ⟨fun h => targetSet_already hs hq (.inl h),
      fun hp hk hn hl hpu => targetSet_already hs hq (.inr ⟨hp, hk, hn, hl, hpu⟩), fun hseen hrest => targetSet_drives hs hq hseen hrest⟩⟩
  · obtain ⟨hunknown, hknown⟩ := sensedAs_table v p x
    exact ⟨hunknown, hknown, rfl, rfl⟩
  · refine ⟨fun hs => if_pos (bne_iff_ne.mpr hs), fun hs hk => leaveHolding_motor hs hk, fun hs hk hh => ?_,
      fun hs hk hh => ⟨_, leaveHolding_unheld hs hk hh⟩⟩
    rw [leaveHolding_held hs hk hh, heldDrive_of_held _ hh]
    rfl
  · refine ⟨fun h => takeSecured_settles h, fun h ha => (takeSecured_else h).trans (if_pos ha),
      fun h ha => (takeSecured_else h).trans (if_neg (by simp [ha])), fun h => takeReleased_settles h, fun hs hr => ⟨fun ha => ?_,
      fun ha hk => ?_, fun ha hk => ?_⟩⟩
    · exact (takeReleased_else hs hr).trans (if_pos ha)
    · exact (takeReleased_else hs hr).trans ((if_neg (by simp [ha])).trans (if_pos hk))
    · exact (takeReleased_else hs hr).trans ((if_neg (by simp [ha])).trans (if_neg hk))
  · have hfall : Fallback.ofTarget (g.door d).eng.target = (match (g.door d).eng.target with
        | none => .none
        | some .secured => .secured
        | some .released => .released) := by
      cases (g.door d).eng.target with
      | none => rfl
      | some q => cases q <;> rfl
    refine (newAttempt_eq fb).trans ?_
    rw [hfall]
    cases p <;> rfl

end Sys2Proof.Machine
end

section
/-! The entries of an engine as changes of its door: to FAULTED, to a reached posture, to VERIFYING and to AWAIT_GRANT; and WARNING_EXPIRY
(R122). -/

namespace Sys2Proof.Machine

/-! ## Changes in a row -/

section
variable {e : Env} {d : DoorNo} {g : Segment}

/-- Two changes of a door, the second of which leaves the LOCK_DRIVE level and the counts as they are, are one. -/
theorem upd_upd (f h : Door → Door) (hl : ∀ y l p, (h y).lockLevel l p = y.lockLevel l p := by exact fun _ _ _ => rfl)
    (hs : ∀ y s, h { y with sup := s } = { h y with sup := s } := by exact fun _ _ => rfl) :
    (g.upd e d f).upd e d h = g.upd e d fun x => h (f x) := by
  rw [upd_same_level _ _ h _ (hl _ _ _)]
  unfold Segment.upd
  dsimp only
  rw [hl]
  split
  · rw [door_putDoor_same, putDoor_putDoor, hs]
  · rw [door_putDoor_same, putDoor_putDoor]

theorem startTimer_enterState (n : Nat) (st : DoorState) : startTimer e d n (enterState e d st g) =
    g.upd e d fun x => { x with eng := { x.eng.enter st with timer := ⟨n, 0, true⟩ } } := upd_upd _ _

/-- A segment that differs from another in one door and the exception list, and in what its runs have been told of that door. -/
structure Alters (e : Env) (d : DoorNo) (k : Option Nat) (o : DoorOutcome) (g t : Segment) : Prop where
  only : OnlyDoor d g t
  queue : t.queue = g.queue
  seqr : t.seqr = (answer e d k o g).seqr

theorem Alters.answer {k : Option Nat} {o : DoorOutcome} {t : Segment} (ho : OnlyDoor d g t) (hq : t.queue = g.queue)
    (hs : t.seqr = g.seqr) : Alters e d k o g (answer e d k o t) where
  only j hj := by rw [answer_door]; exact ho j hj
  queue := by rw [answer_eq]; exact hq
  seqr := answer_seqr hs

/-! ## FAULTED -/

theorem enterFaulted_eq (k : Kind) : enterFaulted e d k g = answer e d (g.door d).eng.owed .failed
    ((listException e (some d) k none (g.upd e d fun x => { x with eng := { x.eng.enter .faulted with
      deferral := .none, deferralSub := 0, live := x.eng.live.put k true, sticky := x.eng.sticky.set k none } })).upd e d
        fun x => { x with eng := { x.eng with owed := none } }) := by
  have hraised : raiseKind e d k none (updEng e d (fun x => { x.enter .faulted with deferral := .none, deferralSub := 0 }) g) =
      listException e (some d) k none (g.upd e d fun x => { x with eng := { x.eng.enter .faulted with
        deferral := .none, deferralSub := 0, live := x.eng.live.put k true, sticky := x.eng.sticky.set k none } }) :=
    congrArg (listException e (some d) k none) (upd_upd _ _)
  have howed : ((listException e (some d) k none (g.upd e d fun x => { x with eng := { x.eng.enter .faulted with
      deferral := .none, deferralSub := 0, live := x.eng.live.put k true, sticky := x.eng.sticky.set k none } })).door d).eng.owed
      = (g.door d).eng.owed := by
    rw [listException_door, upd_door_eng]
    rfl
  unfold enterFaulted
  rw [hraised, answerOwed]
  dsimp only
  rw [howed]

/-- A door faulted by its attempt: nothing else but the exception list and the answer changes. -/
theorem enterFaulted_alters (k : Kind) : Alters e d (g.door d).eng.owed .failed g (enterFaulted e d k g)
    ∧ ((enterFaulted e d k g).door d).core = ((g.door d).faultedBy k).core := by
  rw [enterFaulted_eq]
  refine ⟨.answer (fun j hj => ?_) ?_ ?_, ?_⟩
  · exact (onlyDoor_upd _ e d _ j hj).trans (onlyDoor_upd g e d _ j hj)
  · rw [upd_queue]
    exact upd_queue ..
  · rw [upd_seqr]
    exact upd_seqr ..
  · rw [answer_door]
    refine (door_upd_read e d _ _ Door.core).trans ?_
    rw [listException_door]
    exact door_upd_read e d _ g fun x => ({ x with eng := { x.eng with owed := none } } : Door).core

/-! ## SECURED, RELEASED and VERIFYING -/

theorem settleAt_eq (q : Posture) (o : DoorOutcome) : settleAt e d q o g =
    let entered := g.upd e d fun x => { x with eng := { x.eng.enter q.state with target := some q, deferral := .none, deferralSub := 0 } }
    let h := setDrive e d (restingDrive (e.profile d).lockKind q) entered
    answer e d (h.door d).eng.owed o (h.upd e d fun x => { x with eng := { x.eng with
      owed := none, live := { x.eng.live with notSecured := false, notReleased := false } } }) := by
  have cleared (h : Segment) : (clearLive e d [.notSecured, .notReleased] h).upd e d (fun x => { x with eng := { x.eng with owed := none } })
      = h.upd e d fun x => { x with eng := { x.eng with
          owed := none, live := { x.eng.live with notSecured := false, notReleased := false } } } := upd_upd _ _
  have howed (h : Segment) : ((clearLive e d [.notSecured, .notReleased] h).door d).eng.owed = (h.door d).eng.owed := by
    rw [clearLive, upd_door_eng]
  unfold settleAt answerOwed
  dsimp only
  rw [cleared, howed]
  rfl

theorem enterVerifying_eq : enterVerifying e d g =
    let started := g.upd e d fun x => { x with eng := { x.eng.enter .verifying with timer := ⟨(e.profile d).verifyTime, 0, true⟩ } }
    match (g.door d).eng.target with
    | some q => if (g.door d).sensedAs (some q) (e.profile d) = some q then settleAt e d q .done started else started
    | none => started := by
  have hstarted := startTimer_enterState (e := e) (d := d) (g := g) (e.profile d).verifyTime .verifying
  have hsensed : ((g.upd e d fun x => { x with eng := { x.eng.enter .verifying with
      timer := ⟨(e.profile d).verifyTime, 0, true⟩ } }).door d).sensed (e.profile d)
      = (g.door d).sensedAs (g.door d).eng.target (e.profile d) := by
    refine (door_upd_read e d _ g fun x => x.sensed (e.profile d)).trans (if_pos rfl)
  unfold enterVerifying
  dsimp only
  rw [hstarted, hsensed, upd_door_eng]
  show (match (g.door d).eng.target with | some p => _ | none => _) = _
  cases (g.door d).eng.target <;> rfl

/-! ## AWAIT_GRANT -/

/-- A door in a state between settled ones waits for its grant. -/
theorem awaitGrant_put {x : Door} (hx : x.eng.state ∉ [DoorState.holding, .outOfService, .released, .secured]) :
    awaitGrant e d (g.putDoor d x) = consider e { g.putDoor d { x with
      eng := { x.eng with state := .awaitGrant, timer := ⟨0, 0, false⟩ } } with
      queue := insertEntry ⟨d, (e.doorEntry d).rank⟩ g.queue } := by
  simp only [List.mem_cons, List.not_mem_nil, or_false, not_or] at hx
  obtain ⟨hh, ho, hr, hsec⟩ := hx
  have hentered : enterState e d .awaitGrant (g.putDoor d x) =
      g.putDoor d { x with eng := { x.eng with state := .awaitGrant, timer := ⟨0, 0, false⟩ } } := by
    unfold enterState
    rw [putDoor_upd _ (lockLevel_drive (by simp [hh, ho]) (by simp [Engine.enter]) rfl), Engine.enter_unsettled _ _ hr hsec rfl]
  rw [awaitGrant_eq, hentered]
  rfl

end

end Sys2Proof.Machine
end

section
/-! WARNING_EXPIRY (R122, R123), the entry to QUIET_WAIT and to a state (R110, R120), and the exit timers (R126, R127). -/

namespace Sys2Proof.Machine

/-! ## The entry to a state -/

/-- R110 and R127 at the entry to a state. -/
theorem Engine.enter_eq (st : DoorState) (x : Engine) : x.enter st = { x with
    state := st, timer := ⟨0, 0, false⟩
    lastSettled := if st ∈ [DoorState.absent, .holding, .released, .secured, .faulted, .egress, .outOfService] then st else x.lastSettled
    pulseInAttempt := if x.state = .released ∧ st ≠ .released then false else x.pulseInAttempt
    exitWindow := if x.state = .secured ∧ st ≠ .secured then false else x.exitWindow
    openingMark := if x.state = .secured ∧ st ≠ .secured then .none else x.openingMark } := by
  have hsettled : (st.settled && st != .lost) = true ↔
      st ∈ [DoorState.absent, .holding, .released, .secured, .faulted, .egress, .outOfService] := by
    cases st <;> simp [DoorState.settled]
  have leaves (q : DoorState) (b : Bool) :
      (b && (x.state != q || st == q)) = if x.state = q ∧ st ≠ q then false else b := by
    by_cases hx : x.state = q <;> by_cases hst : st = q <;> simp [hx, hst]
  unfold Engine.enter
  rw [leaves, leaves]
  refine congrArg₂ (fun l m => ({ x with
    state := st, timer := ⟨0, 0, false⟩, lastSettled := l
    pulseInAttempt := if x.state = .released ∧ st ≠ .released then false else x.pulseInAttempt
    exitWindow := if x.state = .secured ∧ st ≠ .secured then false else x.exitWindow
    openingMark := m } : Engine)) ?_ ?_
  · exact if_congr hsettled rfl rfl
  · exact if_congr (by simp) rfl rfl

/-! ## The entry to QUIET_WAIT, the notice and the way on -/

theorem quiet_entry (e : Env) (d : DoorNo) (g : Segment) :
    let p := e.profile d
    let x := g.door d
    let w : Watch := ⟨x.eng.params.threshold, x.eng.force⟩
    let waiting (m : Option Watch) : Segment := g.upd e d (fun x => { x with
      eng := x.eng.enter .quietWait, mon := { x.mon with watch := m } })
    let queued := g.upd e d (fun x => { x with eng := x.eng.enter .awaitGrant })
    (x.quiet p w = true → enterQuietWait e d g = quietNotice e d (waiting none))
    ∧ (x.quiet p w = false → x.eng.deferral ≠ .expired → enterQuietWait e d g = waiting (some w))
    ∧ (x.quiet p w = false → x.eng.deferral = .expired → enterQuietWait e d g = actOnExpiry e d (waiting (some w)))
    ∧ (x.eng.state ≠ .quietWait → quietNotice e d g = g)
    ∧ (x.eng.state = .quietWait → 0 < x.eng.params.warning → quietNotice e d g = g.upd e d (fun x => { x with
        eng := { x.eng.enter .warning with timer := ⟨x.eng.params.warning, 0, true⟩ } }))
    ∧ (x.eng.state = .quietWait → x.eng.params.warning = 0 → quietNotice e d g = proceed e d g)
    ∧ (p.assigns .lockDrive = false → proceed e d g
      = enterFaulted e d (if x.eng.target = some .released then .notReleased else .notSecured) g)
    ∧ (p.assigns .lockDrive = true → p.lockKind = .strike → proceed e d g = enterVerifying e d (turnDriveOff e d g))
    ∧ (p.assigns .lockDrive = true → p.lockKind ≠ .strike → proceed e d g = awaitGrant e d g)
    ∧ awaitGrant e d g = consider e { queued with queue := insertEntry ⟨d, (e.doorEntry d).rank⟩ g.queue } := by
  intro p x w waiting queued
  refine ⟨enterQuietWait_quiet, fun hq hd => (enterQuietWait_unquiet hq).trans (if_neg hd),
    fun hq hd => (enterQuietWait_unquiet hq).trans (if_pos hd), quietNotice_elsewhere, fun hs hw => ?_, quietNotice_proceeds, fun ha => ?_,
    fun ha hk => (proceed_wired ha).trans (if_pos hk), fun ha hk => (proceed_wired ha).trans (if_neg hk), awaitGrant_eq⟩
  · rw [quietNotice_warns hs hw, startTimer_enterState]
    unfold Segment.upd
    rfl
  · rw [proceed_unwired ha]
    refine congrArg (fun k => enterFaulted e d k g) ?_
    show failKind (x.eng.target.getD .secured) = _
    cases x.eng.target with
    | none => rfl
    | some q => cases q <;> rfl

/-! ## WARNING_EXPIRY -/

/-- The warning's end waives an EXPIRED deferral (R121, R122). -/
def Door.waived (x : Door) : Door := { x with eng := { x.eng with deferral := x.eng.deferral.waive } }

theorem waive_eq (f : Machine.Deferral) : f.waive = if f = .expired then .waived else f := by
  cases f <;> rfl

theorem warningExpiry_exec {d : DoorNo} {s : State} (hp : s.power = .running) (hs : (s.seg.door d).eng.state = .warning) :
    exec (.warningExpiry d) s = .next (settled { s with
      seg := proceed s.env d (s.seg.putDoor d (s.seg.door d).waived) }) := by
  refine congrArg Host.Outcome.next ((runSegment_eq _ s hp).trans ?_)
  unfold warningEnd
  rw [if_pos hs, updEng_eq fun x => { x with deferral := x.deferral.waive }]
  rfl

theorem warning_ends (d : DoorNo) (s : State) (hp : s.power = .running) :
    let x := s.seg.door d
    let p := s.env.profile d
    let deferral := if x.eng.deferral = .expired then .waived else x.eng.deferral
    (x.eng.state ≠ .warning → exec (.warningExpiry d) s = .next (settled s))
    ∧ (x.eng.state = .warning → p.assigns .lockDrive = true → p.lockKind ≠ .strike →
      let g := s.seg.putDoor d { x with
        eng := { x.eng with state := .awaitGrant, timer := ⟨0, 0, false⟩, deferral := deferral } }
      exec (.warningExpiry d) s = .next (settled { s with
        seg := consider s.env { g with queue := insertEntry ⟨d, (s.env.doorEntry d).rank⟩ s.seg.queue } }))
    ∧ (x.eng.state = .warning → p.assigns .lockDrive = true → p.lockKind = .strike → x.eng.target = some .secured →
      (∀ q ∈ s.seg.queue, q.door ≠ d) → ∃ g, exec (.warningExpiry d) s = .next (settled { s with seg := g })
        ∧ (g.door d).eng.drive = false
        ∧ (x.eng.drive = true → (g.door d).charge = ⟨0, .none, 0, 0⟩)
        ∧ (x.sensedOutside p = some .secured → (g.door d).eng.state = .secured ∧ (g.door d).eng.owed = none
            ∧ (s.seg.queue = [] → g.seqr = (answer s.env d x.eng.owed .done s.seg).seqr))
        ∧ (x.sensedOutside p ≠ some .secured → (g.door d).eng.state = .verifying ∧ (g.door d).eng.deferral = deferral
            ∧ (g.door d).eng.timer = ⟨p.verifyTime, 0, true⟩ ∧ (g.door d).eng.owed = x.eng.owed))
    ∧ (x.eng.state = .warning → p.assigns .lockDrive = false → x.eng.target = some .secured →
      ∃ g, exec (.warningExpiry d) s = .next (settled { s with seg := g }) ∧ OnlyDoor d s.seg g ∧ g.queue = s.seg.queue
        ∧ (g.door d).eng.state = .faulted ∧ (g.door d).eng.owed = none ∧ (g.door d).eng.deferral = .none
        ∧ (g.door d).eng.live.notSecured = true ∧ (g.door d).eng.sticky.notSecured = true
        ∧ g.seqr = (answer s.env d x.eng.owed .failed s.seg).seqr) := by
  intro x p deferral
  have hdeferral : x.waived.eng.deferral = deferral := waive_eq _
  refine ⟨fun hs => ?_, fun hs ha hk => ?_, fun hs ha hk ht hu => ⟨_, warningExpiry_exec hp hs, ?_⟩,
    fun hs ha ht => ⟨_, warningExpiry_exec hp hs, ?_⟩⟩
  · exact congrArg Host.Outcome.next (runSegment_same _ s hp (if_neg hs))
  · have hstate : x.waived.eng.state ∉ [DoorState.holding, .outOfService, .released, .secured] := by
      show x.eng.state ∉ _
      rw [hs]
      decide
    rw [warningExpiry_exec hp hs, proceed_wired ha, if_neg hk, awaitGrant_put hstate]
    show Host.Outcome.next (settled { s with seg := consider s.env { s.seg.putDoor d { x with
      eng := { x.waived.eng with state := .awaitGrant, timer := ⟨0, 0, false⟩ } } with
      queue := insertEntry ⟨d, (s.env.doorEntry d).rank⟩ s.seg.queue } }) = _
    rw [← hdeferral]
    rfl
  · have waived : Made (s.seg.queue = []) d x.waived s.seg (s.seg.putDoor d x.waived) :=
      ⟨by rw [door_putDoor_same], hu, fun h => ⟨h, rfl⟩⟩
    have off := waived.turnDriveOff (e := s.env)
    have hoff : x.waived.driven p false = { x.waived with
        charge := (x.waived.driven p false).charge, eng := { x.waived.eng with drive := false } } := Door.driven_eq _ _ _
    have hsensed : (x.waived.driven p false).sensedAs (some .secured) p = x.sensedOutside p := by
      rw [Door.sensedAs_of_not_motor (by simp [hk]), hoff]
      rfl
    have hcharge : x.eng.drive = true → (x.waived.driven p false).charge = ⟨0, .none, 0, 0⟩ := fun hd => by
      rw [Door.driven_charge, if_pos (show x.waived.eng.drive = true from hd), afterDriveOff_eq, if_pos (by simp [hk])]
    have howed : (x.waived.driven p false).eng.owed = x.eng.owed := by rw [hoff]; rfl
    have htarget : (x.waived.driven p false).eng.target = some .secured := by rw [hoff]; exact ht
    rw [proceed_wired ha, if_pos hk]
    by_cases hseen : x.sensedOutside p = some .secured
    · have done := off.enterVerifying_reached (e := s.env) htarget (hsensed.trans hseen)
      have hsettled := Door.settledAt_eq p .secured ((x.waived.driven p false).verifying p)
      have hrest : restingDrive p.lockKind .secured = false := by rw [hk]; rfl
      refine ⟨?_, fun hd => ?_, fun _ => ⟨?_, ?_, fun hq => ?_⟩, fun h => absurd hseen h⟩
      · rw [done.eng, hsettled]
        exact hrest
      · rw [done.charge]
        unfold Door.settledAt
        dsimp only
        rw [hrest, Door.driven_charge]
        exact (if_neg (by
          show ¬ (x.waived.driven p false).eng.drive = true
          simp [Door.driven_drive])).trans (hcharge hd)
      · rw [done.eng, hsettled]
        rfl
      · rw [done.eng, hsettled]
      · have hseqr := (done.alone hq).2
        rw [howed] at hseqr
        exact hseqr
    · have waits := off.enterVerifying_waits (e := s.env) fun q hq => by
        obtain rfl := Option.some.inj (hq.symm.trans htarget)
        rw [hsensed]
        exact hseen
      rw [waits.eng, waits.charge]
      unfold Door.verifying
      refine ⟨Door.driven_drive _ _ _, hcharge, fun h => absurd h hseen, fun _ => ⟨rfl, ?_, rfl, howed⟩⟩
      rw [hoff]
      exact hdeferral
  · rw [proceed_unwired ha, door_putDoor_same]
    obtain ⟨halters, hcore⟩ := enterFaulted_alters (e := s.env) (d := d) (g := s.seg.putDoor d x.waived)
      (failKind (x.waived.eng.target.getD .secured))
    have htarget : x.waived.eng.target = some .secured := ht
    have heng := Door.core_read hcore Door.eng
    rw [door_putDoor_same] at heng halters
    rw [htarget] at heng halters ⊢
    rw [heng]
    refine ⟨fun j hj => (halters.only j hj).trans (door_putDoor_ne _ _ _ _ hj), halters.queue, rfl, rfl, rfl, rfl, rfl, ?_⟩
    exact halters.seqr.trans (answer_seqr rfl)

end Sys2Proof.Machine
end

section
/-! What an attempt on its way leaves of its door: the pending target, the retry count and the parameters; and the exit timers (R126,
R127). -/

namespace Sys2Proof.Machine

/-! ## The aim of a door -/

/-- The parameters, the retry count and the pending target of a door are as given. -/
structure Aims (x : Engine) (d : DoorNo) (g : Segment) : Prop where
  params : (g.door d).eng.params = x.params
  retry : (g.door d).eng.retry = x.retry
  pending : (g.door d).eng.pendingTarget = x.pendingTarget

namespace Aims

variable {e : Env} {d : DoorNo} {x : Engine} {g : Segment}

theorem of_eng {y : Engine} (h : (g.door d).eng = y) (hp : y.params = x.params := by rfl) (hr : y.retry = x.retry := by rfl)
    (hq : y.pendingTarget = x.pendingTarget := by rfl) : Aims x d g :=
  ⟨h ▸ hp, h ▸ hr, h ▸ hq⟩

section
variable (h : Aims x d g)
include h

theorem upd (f : Door → Door) (hf : (f (g.door d)).eng.params = (g.door d).eng.params ∧ (f (g.door d)).eng.retry = (g.door d).eng.retry
    ∧ (f (g.door d)).eng.pendingTarget = (g.door d).eng.pendingTarget := by exact ⟨rfl, rfl, rfl⟩) : Aims x d (g.upd e d f) :=
  of_eng (upd_door_eng g e d f) (hf.1.trans h.params) (hf.2.1.trans h.retry) (hf.2.2.trans h.pending)

theorem answer {k : Option Nat} {o : DoorOutcome} : Aims x d (answer e d k o g) :=
  of_eng (by rw [answer_door]) h.params h.retry h.pending

theorem answerOwed {o : DoorOutcome} : Aims x d (answerOwed e d o g) := by
  unfold Machine.answerOwed
  exact (h.upd _).answer

theorem raiseKind {k : Kind} {sub : Option SubReason} : Aims x d (raiseKind e d k sub g) := by
  have raised := h.upd (e := e) fun x => { x with
    eng := { x.eng with live := x.eng.live.put k true, sticky := x.eng.sticky.set k sub } }
  exact ⟨raised.params, raised.retry, raised.pending⟩

theorem only {j : DoorNo} {k : Segment} (hj : d ≠ j) (honly : OnlyDoor j g k) : Aims x d k :=
  of_eng (by rw [honly d hj]) h.params h.retry h.pending

omit h in
theorem granted (p : ProfileEntry) (y : Door) : (y.granted p).eng.params = y.eng.params ∧ (y.granted p).eng.retry = y.eng.retry
    ∧ (y.granted p).eng.pendingTarget = y.eng.pendingTarget := by
  unfold Door.granted
  dsimp only
  split
  · split <;> exact ⟨rfl, rfl, rfl⟩
  · exact ⟨rfl, rfl, rfl⟩

theorem consider : Aims x d (consider e g) := by
  refine consider_keeps (P := Aims x d) (fun {g} q _ hg => ?_) (fun {g} q _ hg => ?_) h
  · by_cases hq : d = q.door
    · subst hq
      obtain ⟨hp, hr, ht⟩ := granted (e.profile q.door) (g.door q.door)
      exact of_eng (grant_made e q.door g).eng (hp.trans hg.params) (hr.trans hg.retry) (ht.trans hg.pending)
    · exact hg.only hq ((onlyDoorWork e q.door g).grant rfl (OnlyDoor.refl _ g))
  · by_cases hq : d = q.door
    · subst hq
      obtain ⟨b, hr⟩ := refuse_made e q.door g
      exact of_eng hr.eng hg.params hg.retry hg.pending
    · exact hg.only hq ((onlyDoorWork e q.door g).refuse rfl (OnlyDoor.refl _ g))

theorem turnDriveOff : Aims x d (turnDriveOff e d g) := by
  unfold Machine.turnDriveOff
  split
  · rw [forceDriveOff_eq]
    exact (h.upd _).consider
  · exact h

theorem setDrive {on : Bool} : Aims x d (setDrive e d on g) := by
  unfold Machine.setDrive
  split
  · exact h.upd _
  · exact h.turnDriveOff

theorem leaveHolding : Aims x d (leaveHolding e d g) := by
  unfold Machine.leaveHolding
  dsimp only
  split
  · exact h
  · split
    · exact h.setDrive
    · split
      · exact h.setDrive
      · exact setDrive (show Aims x d { g with free := g.free + 1 } from ⟨h.params, h.retry, h.pending⟩)

theorem settleAt {q : Posture} {o : DoorOutcome} : Aims x d (settleAt e d q o g) := by
  rw [settleAt_eq]
  exact (((h.upd _).setDrive).upd _).answer

theorem enterFaulted {k : Kind} : Aims x d (enterFaulted e d k g) := by
  have entered : Aims x d (updEng e d (fun x => { x.enter .faulted with deferral := .none, deferralSub := 0 }) g) := h.upd _
  unfold Machine.enterFaulted
  exact entered.raiseKind.answerOwed

theorem enterVerifying : Aims x d (enterVerifying e d g) := by
  rw [enterVerifying_eq]
  dsimp only
  split
  · split
    · exact (h.upd _).settleAt
    · exact h.upd _
  · exact h.upd _

theorem awaitGrant : Aims x d (awaitGrant e d g) := by
  rw [awaitGrant_eq]
  have entered : Aims x d (enterState e d .awaitGrant g) := h.upd _
  exact consider (g := { enterState e d .awaitGrant g with queue := insertEntry ⟨d, (e.doorEntry d).rank⟩ g.queue })
    ⟨entered.params, entered.retry, entered.pending⟩

theorem proceed : Aims x d (proceed e d g) := by
  unfold Machine.proceed whenWired
  split
  · split
    · exact h.turnDriveOff.enterVerifying
    · exact h.awaitGrant
  · exact h.enterFaulted

theorem quietNotice : Aims x d (quietNotice e d g) := by
  unfold Machine.quietNotice startTimer enterState
  dsimp only
  split
  · split
    · exact (h.upd (e := e) _).upd _
    · exact h.proceed
  · exact h

theorem setWatch : Aims x d (setWatch e d g) := by
  unfold Machine.setWatch evaluateWatch clearWatch
  dsimp only
  split
  · split
    · exact ((h.upd _).upd _).quietNotice
    · exact h.upd _
  · exact h.upd _

theorem takeReleased {o : DoorOutcome} : Aims x d (takeReleased e d o g) := by
  unfold Machine.takeReleased
  dsimp only
  split
  · exact h.leaveHolding.settleAt
  · split
    · exact h.leaveHolding.settleAt
    · split
      · exact h.leaveHolding.enterFaulted
      · split
        · exact h.leaveHolding.turnDriveOff.enterVerifying
        · exact h.leaveHolding.awaitGrant

theorem actOnExpiry : Aims x d (actOnExpiry e d g) := by
  have ended : Aims x d (updEng e d (fun x => { x with deferral := .none, deferralSub := 0 }) g) := h.upd _
  unfold Machine.actOnExpiry
  dsimp only
  split
  · have left : Aims x d (updEng e d (fun x => { x with target := some .released })
        (updEng e d (fun x => { x with deferral := .none, deferralSub := 0 }) g)) := ended.upd _
    have raised := (left.answerOwed (e := e) (o := .leftReleased)).raiseKind (e := e) (k := .leftReleased) (sub := none)
    exact (show Aims x d (clearWatch e d _) from raised.upd _).takeReleased
  · have forced : Aims x d (updEng e d (fun x => { x with force := true })
        (updEng e d (fun x => { x with deferral := .none, deferralSub := 0 }) g)) := ended.upd _
    split
    · have told := (forced.setWatch (e := e)).answerOwed (e := e) (o := .proppedLate)
      exact ⟨told.params, told.retry, told.pending⟩
    · exact forced.setWatch

theorem enterQuietWait : Aims x d (enterQuietWait e d g) := by
  unfold Machine.enterQuietWait enterState
  dsimp only
  split
  · exact (h.upd _).setWatch.actOnExpiry
  · exact (h.upd _).setWatch

theorem takeSecured {o : DoorOutcome} : Aims x d (takeSecured e d o g) := by
  unfold Machine.takeSecured startDeferral updEng
  dsimp only
  split
  · exact h.leaveHolding.settleAt
  · split
    · exact h.leaveHolding.enterFaulted
    · exact (h.leaveHolding.upd _).enterQuietWait

theorem takeToward {q : Posture} {o : DoorOutcome} : Aims x d (takeToward e d q o g) := by
  cases q with
  | secured => exact h.takeSecured
  | released => exact h.takeReleased

end

end Aims

/-! ## The wait of a door between settled states -/

section
variable {e : Env} {d : DoorNo} {g : Segment} {x : Door}

/-- The states between settled ones, HOLDING and OUT_OF_SERVICE apart: entering another such state changes the state and the timer. -/
def DoorState.between (st : DoorState) : Prop := st ∉ [DoorState.holding, .outOfService, .released, .secured]

theorem waitingAt_put (m : Option Watch) (hx : x.eng.state.between) : (g.putDoor d x).waitingAt e d m = g.putDoor d { x with
    eng := { x.eng with state := .quietWait, timer := ⟨0, 0, false⟩ }, mon := { x.mon with watch := m } } := by
  simp only [DoorState.between, List.mem_cons, List.not_mem_nil, or_false, not_or] at hx
  obtain ⟨hh, ho, hr, hs⟩ := hx
  unfold Segment.waitingAt
  rw [putDoor_upd _ (lockLevel_drive (by simp [hh, ho]) (by simp [Engine.enter]) rfl), Engine.enter_unsettled _ _ hr hs rfl]

theorem enterQuietWait_put_waits (hx : x.eng.state.between)
    (hq : x.quiet (e.profile d) ⟨x.eng.params.threshold, x.eng.force⟩ = false) (hd : x.eng.deferral ≠ .expired) :
    enterQuietWait e d (g.putDoor d x) = g.putDoor d { x with
      eng := { x.eng with state := .quietWait, timer := ⟨0, 0, false⟩ }
      mon := { x.mon with watch := some ⟨x.eng.params.threshold, x.eng.force⟩ } } := by
  rw [enterQuietWait_unquiet (by rw [door_putDoor_same]; exact hq), door_putDoor_same, if_neg hd, waitingAt_put _ hx]

theorem not_quiet_of_not_closed {p : ProfileEntry} (w : Watch) (h : x.closed p = false) : x.quiet p w = false := by
  unfold Door.quiet
  rw [h]
  rfl

/-! ## The exit timers -/

/-- A shunted door whose shunt has ended (R126). -/
def Door.unshunted (x : Door) : Door := { x with
  eng := { x.eng with fallback := .released, retry := 0, deferral := .none, deferralSub := 0 } }

theorem shuntEnd_eq (hs : (g.door d).eng.state = .exitShunt) : shuntEnd e d g =
    if (e.profile d).assigns .lockDrive then
      if (g.door d).closed (e.profile d) then awaitGrant e d (g.putDoor d (g.door d).unshunted)
      else enterQuietWait e d (g.putDoor d { (g.door d).unshunted with eng := { (g.door d).unshunted.eng with force := true } })
    else enterFaulted e d (failKind ((g.door d).eng.target.getD .secured)) (g.putDoor d (g.door d).unshunted) := by
  have hput := updEng_eq (e := e) (d := d) (g := g) fun x => { x with fallback := .released, retry := 0, deferral := .none, deferralSub := 0 }
  unfold shuntEnd whenWired
  dsimp only
  rw [if_pos hs, hput, updEng_put fun x => { x with force := true }, door_putDoor_same]
  rfl

end

/-- EXIT_SHUNT_EXPIRY and EXIT_WINDOW_EXPIRY (R126, R127). -/
theorem exit_timers (d : DoorNo) (s : State) (hp : s.power = .running) :
    let x := s.seg.door d
    let p := s.env.profile d
    let y := { x.eng with fallback := .released, retry := 0, deferral := .none, deferralSub := 0, timer := ⟨0, 0, false⟩ }
    (x.eng.state ≠ .exitShunt → exec (.exitShuntExpiry d) s = .next (settled s))
    ∧ (x.eng.state = .exitShunt → p.assigns .lockDrive = true → x.closed p = true →
      let g := s.seg.putDoor d { x with eng := { y with state := .awaitGrant } }
      exec (.exitShuntExpiry d) s = .next (settled { s with
        seg := consider s.env { g with queue := insertEntry ⟨d, (s.env.doorEntry d).rank⟩ s.seg.queue } }))
    ∧ (x.eng.state = .exitShunt → p.assigns .lockDrive = true → x.closed p = false →
      exec (.exitShuntExpiry d) s = .next (settled { s with seg := s.seg.putDoor d { x with
        eng := { y with state := .quietWait, force := true }
        mon := { x.mon with watch := some ⟨x.eng.params.threshold, true⟩ } } }))
    ∧ (x.eng.state = .exitShunt → p.assigns .lockDrive = false → x.eng.target = some .secured →
      ∃ g, exec (.exitShuntExpiry d) s = .next (settled { s with seg := g }) ∧ OnlyDoor d s.seg g ∧ g.queue = s.seg.queue
        ∧ (g.door d).eng.state = .faulted ∧ (g.door d).eng.retry = 0 ∧ (g.door d).eng.owed = none
        ∧ (g.door d).eng.live.notSecured = true ∧ (g.door d).eng.sticky.notSecured = true)
    ∧ (¬ (x.eng.state = .secured ∧ x.eng.exitWindow = true) → exec (.exitWindowExpiry d) s = .next (settled s))
    ∧ (x.eng.state = .secured → x.eng.exitWindow = true → exec (.exitWindowExpiry d) s = .next (settled { s with
        seg := s.seg.putDoor d { x with eng := { x.eng with exitWindow := false, timer := ⟨0, 0, false⟩ } } })) := by
  intro x p y
  have hends (hs : x.eng.state = .exitShunt) : exec (.exitShuntExpiry d) s = .next (settled { s with seg :=
      (if p.assigns .lockDrive then
        if x.closed p then awaitGrant s.env d (s.seg.putDoor d x.unshunted)
        else enterQuietWait s.env d (s.seg.putDoor d { x.unshunted with eng := { x.unshunted.eng with force := true } })
      else enterFaulted s.env d (failKind (x.eng.target.getD .secured)) (s.seg.putDoor d x.unshunted)) }) :=
    congrArg Host.Outcome.next ((runSegment_eq _ s hp).trans (by rw [shuntEnd_eq hs]))
  have hbetween (hs : x.eng.state = .exitShunt) : x.unshunted.eng.state.between := by
    show x.eng.state ∉ _
    rw [hs]
    decide
  refine ⟨fun hs => ?_, fun hs ha hc => ?_, fun hs ha hc => ?_, fun hs ha ht => ⟨_, hends hs, ?_⟩, fun h => ?_, fun hs hw => ?_⟩
  · exact congrArg Host.Outcome.next (runSegment_same _ s hp (if_neg hs))
  · rw [hends hs, if_pos ha, if_pos hc, awaitGrant_put (hbetween hs)]
    rfl
  · rw [hends hs, if_pos ha, if_neg (by simp [hc]), enterQuietWait_put_waits (by exact hbetween hs)
      (by exact not_quiet_of_not_closed _ hc) (by exact fun h => Deferral.noConfusion h)]
    rfl
  · rw [if_neg (by simp [ha]), ht]
    obtain ⟨halters, hcore⟩ := enterFaulted_alters (e := s.env) (d := d) (g := s.seg.putDoor d x.unshunted) .notSecured
    have heng := Door.core_read hcore Door.eng
    rw [door_putDoor_same] at heng
    show OnlyDoor d s.seg (enterFaulted s.env d .notSecured _) ∧ _
    refine ⟨fun j hj => (halters.only j hj).trans (door_putDoor_ne _ _ _ _ hj), halters.queue, ?_⟩
    have hkind : failKind ((some Posture.secured).getD .secured) = .notSecured := rfl
    rw [hkind, heng]
    exact ⟨rfl, rfl, rfl, rfl, rfl⟩
  · exact congrArg Host.Outcome.next (runSegment_same _ s hp (if_neg h))
  · refine congrArg Host.Outcome.next ((runSegment_eq _ s hp).trans ?_)
    unfold exitWindowEnd
    dsimp only
    rw [if_pos ⟨hs, hw⟩, updEng_eq fun x => { x with exitWindow := false, timer := .stopped }]
    rfl

end Sys2Proof.Machine
end

section
/-! RUN_TIMER_EXPIRY and VERIFY_EXPIRY (R93, R112, R118, R124, R125). -/

namespace Sys2Proof.Machine

section
variable {A : Prop} {e : Env} {d : DoorNo} {x : Door} {b g : Segment}

/-- A door at its run end (R93). -/
def Door.ran (p : ProfileEntry) (x : Door) : Door := { x with charge :=
  if x.charge.basis ≠ .run then x.charge else if p.lockKind = .motor then ⟨0, .none, 0, 0⟩ else ⟨p.holdUnits, .hold, 0, 0⟩ }

theorem Made.runEnd (h : Made A d x b g) : Made A d (x.ran (e.profile d)) b (runEnd e d g) := by
  unfold Machine.runEnd
  dsimp only
  rw [h.charge]
  by_cases hb : x.charge.basis = .run
  · rw [if_pos hb]
    refine ((h.setCharge _).consider (e := e)).cast ?_
    unfold Door.ran
    rw [if_neg (not_not.mpr hb)]
    rfl
  · rw [if_neg hb]
    refine h.cast ?_
    unfold Door.ran
    rw [if_pos hb]

/-! ## The pending target at the end of an actuation -/

theorem takePending_none (h : (g.door d).eng.pendingTarget = none) : takePending e d g = g := by
  unfold takePending
  dsimp only
  rw [h]

theorem takePending_busy (h : (g.door d).eng.state = .verifying) : takePending e d g = g := by
  unfold takePending
  dsimp only
  split
  · rfl
  · rw [if_pos (.inr (.inl h))]

theorem takePending_some {z : PendingTarget} (hz : (g.door d).eng.pendingTarget = some z)
    (hs : (g.door d).eng.state ∉ [DoorState.driving, .verifying, .lost]) :
    takePending e d g = targetSet e d z.posture z.params z.owed (dropPending e d g) := by
  simp only [List.mem_cons, List.not_mem_nil, or_false] at hs
  unfold takePending
  dsimp only
  rw [hz]
  exact if_neg hs

theorem dropPending_eq : dropPending e d g = g.putDoor d { g.door d with eng := { (g.door d).eng with pendingTarget := none } } :=
  upd_same_level _ _ _ _ rfl

/-- A door found at its target where it is verified. -/
theorem Door.reached_eq (p : ProfileEntry) (q : Posture) (x : Door) : ((x.verifying p).settledAt p q).eng =
    { (x.eng.enter .verifying).enter q.state with
      target := some q, deferral := .none, deferralSub := 0, owed := none, drive := restingDrive p.lockKind q
      live := { x.eng.live with notSecured := false, notReleased := false } } := by
  rw [Door.settledAt_eq]
  rfl

theorem Door.reached_side (p : ProfileEntry) (q : Posture) (x : Door) : ((x.verifying p).settledAt p q).inputs = x.inputs
    ∧ ((x.verifying p).settledAt p q).drop = x.drop ∧ ((x.verifying p).settledAt p q).mon = x.mon := by
  rw [Door.settledAt_eq]
  exact ⟨rfl, rfl, rfl⟩

/-- A door verified at its target: what it shows, and what its pending target then finds (R118, R125). -/
theorem Made.verified {q : Posture} {t : Segment} (h : Made A d ((x.verifying (e.profile d)).settledAt (e.profile d) q)
      (Machine.answer e d x.eng.owed .done b) t) :
    (x.eng.pendingTarget = none → takePending e d t = t)
    ∧ (∀ z, x.eng.pendingTarget = some z → ∃ k, takePending e d t = targetSet e d z.posture z.params z.owed k
      ∧ (k.door d).eng.state = q.state ∧ (k.door d).eng.target = some q ∧ (k.door d).eng.owed = none
      ∧ (k.door d).eng.timer.running = false ∧ (k.door d).eng.live.notSecured = false ∧ (k.door d).eng.live.notReleased = false
      ∧ (k.door d).eng.pendingTarget = none ∧ (k.door d).inputs = x.inputs ∧ (k.door d).drop = x.drop
      ∧ (A → k.seqr = (Machine.answer e d x.eng.owed .done b).seqr)) := by
  have hpending : (t.door d).eng.pendingTarget = x.eng.pendingTarget := by rw [h.eng, Door.reached_eq]; rfl
  have hstate : (t.door d).eng.state = q.state := by rw [h.eng, Door.reached_eq]; rfl
  obtain ⟨hin, hdrop, -⟩ := Door.reached_side (e.profile d) q x
  refine ⟨fun hn => takePending_none (hpending.trans hn), fun z hz => ⟨_, takePending_some (hpending.trans hz) ?_, ?_⟩⟩
  · rw [hstate]
    cases q <;> decide
  · have dropped := h.dropPending (e := e)
    rw [dropped.eng, dropped.inputs, dropped.drop, Door.reached_eq]
    exact ⟨rfl, rfl, rfl, rfl, rfl, rfl, rfl, hin, hdrop, fun a => (dropped.alone a).2⟩

/-! ## The retry -/

/-- A door that tries again. -/
def Door.retried (x : Door) : Door := { x with eng := { x.eng with retry := x.eng.retry + 1 } }

theorem verifyFailed_retries (hs : (g.door d).eng.state = .verifying) (hr : (g.door d).eng.retry < (e.profile d).retryLimit)
    (hz : (g.door d).eng.pendingTarget = none) : verifyFailed e d g =
    let h := g.putDoor d (g.door d).retried
    if (e.profile d).assigns .lockDrive then
      match (g.door d).eng.target, (e.profile d).lockKind with
      | some .released, .magnetic => startTimer e d (e.profile d).verifyTime h
      | some .released, _ => awaitGrant e d h
      | _, .motor => awaitGrant e d h
      | _, .magnetic => enterQuietWait e d (turnDriveOff e d h)
      | _, .strike => enterQuietWait e d h
    else enterFaulted e d (failKind ((g.door d).eng.target.getD .secured)) h := by
  have hput := updEng_eq (e := e) (d := d) (g := g) fun x => { x with retry := x.retry + 1 }
  unfold verifyFailed
  dsimp only
  rw [if_pos hs, if_pos hr, hz]
  dsimp only
  unfold retry whenWired
  dsimp only
  rw [hput, door_putDoor_same]
  rfl

theorem verifyFailed_replaced (hs : (g.door d).eng.state = .verifying) (hr : (g.door d).eng.retry < (e.profile d).retryLimit)
    {q : PendingTarget} (hz : (g.door d).eng.pendingTarget = some q) : verifyFailed e d g =
    newAttempt e d q.posture q.params q.owed none (g.putDoor d { g.door d with eng := { (g.door d).eng with pendingTarget := none } }) := by
  unfold verifyFailed
  dsimp only
  rw [if_pos hs, if_pos hr, hz]
  dsimp only
  rw [dropPending_eq]

theorem verifyFailed_ends (hs : (g.door d).eng.state = .verifying) (hr : (e.profile d).retryLimit ≤ (g.door d).eng.retry) :
    verifyFailed e d g = takePending e d (enterFaulted e d (failKind ((g.door d).eng.target.getD .secured)) g) := by
  unfold verifyFailed
  dsimp only
  rw [if_pos hs, if_neg (by omega)]

end

/-! ## RUN_TIMER_EXPIRY -/

theorem run_timer (d : DoorNo) (s : State) (hp : s.power = .running) (hu : ∀ q ∈ s.seg.queue, q.door ≠ d) :
    let x := s.seg.door d
    let p := s.env.profile d
    let goes (c : Instr) (g : Segment) : Prop := exec c s = .next (settled { s with seg := g })
    (¬ (x.eng.state = .driving ∧ x.eng.timer.running = true) → exec (.runTimerExpiry d) s = .next (settled s))
    ∧ (x.eng.state = .driving → x.eng.timer.running = true → ∀ q, x.eng.target = some q →
      (x.sensedAs (some q) p ≠ some q → ∃ g, goes (.runTimerExpiry d) g
        ∧ (g.door d).eng.state = .verifying ∧ (g.door d).eng.timer = ⟨p.verifyTime, 0, true⟩
        ∧ (g.door d).eng.drive = x.eng.drive ∧ (g.door d).eng.target = some q
        ∧ (g.door d).eng.pendingTarget = x.eng.pendingTarget ∧ (g.door d).eng.owed = x.eng.owed
        ∧ (g.door d).charge = (if x.charge.basis ≠ .run then x.charge
            else if p.lockKind = .motor then ⟨0, .none, 0, 0⟩ else ⟨p.holdUnits, .hold, 0, 0⟩))
      ∧ (x.sensedAs (some q) p = some q → x.eng.pendingTarget = none → ∃ g, goes (.runTimerExpiry d) g
        ∧ (g.door d).eng.state = q.state ∧ (g.door d).eng.target = some q ∧ (g.door d).eng.owed = none
        ∧ (g.door d).eng.timer.running = false
        ∧ (g.door d).eng.live.notSecured = false ∧ (g.door d).eng.live.notReleased = false
        ∧ (s.seg.queue = [] → g.seqr = (answer s.env d x.eng.owed .done s.seg).seqr))
      ∧ (x.sensedAs (some q) p = some q → ∀ z, x.eng.pendingTarget = some z →
        ∃ h, goes (.runTimerExpiry d) (targetSet s.env d z.posture z.params z.owed h)
          ∧ (h.door d).eng.state = q.state ∧ (h.door d).eng.target = some q ∧ (h.door d).eng.owed = none
          ∧ (h.door d).eng.pendingTarget = none ∧ (h.door d).inputs = x.inputs ∧ (h.door d).drop = x.drop
          ∧ (s.seg.queue = [] → h.seqr = (answer s.env d x.eng.owed .done s.seg).seqr))) := by
  intro x p goes
  refine ⟨fun h => congrArg Host.Outcome.next (runSegment_same _ s hp (if_neg h)), fun hs hr q ht => ?_⟩
  have hrun : goes (.runTimerExpiry d) (takePending s.env d (enterVerifying s.env d (runEnd s.env d s.seg))) :=
    congrArg Host.Outcome.next ((runSegment_eq _ s hp).trans (by rw [runTimerEnd, if_pos ⟨hs, hr⟩]))
  have ran := (Made.refl (A := s.seg.queue = []) hu id).runEnd (e := s.env)
  refine ⟨fun hseen => ⟨_, hrun, ?_⟩, fun hseen hn => ⟨_, hrun, ?_⟩, fun hseen z hz => ?_⟩
  · have waits := ran.enterVerifying_waits (e := s.env) fun v hv => by
      obtain rfl := Option.some.inj (hv.symm.trans ht)
      exact hseen
    rw [takePending_busy (by rw [waits.eng]; rfl), waits.eng, waits.charge]
    exact ⟨rfl, rfl, rfl, ht, rfl, rfl, rfl⟩
  · have done := ran.enterVerifying_reached (e := s.env) (q := q) ht hseen
    rw [done.verified.1 hn, done.eng, Door.reached_eq]
    exact ⟨rfl, rfl, rfl, rfl, rfl, rfl, fun a => (done.alone a).2⟩
  · have done := ran.enterVerifying_reached (e := s.env) (q := q) ht hseen
    obtain ⟨k, hk, h1, h2, h3, -, -, -, h4, h5, h6, h7⟩ := done.verified.2 z hz
    rw [hk] at hrun
    exact ⟨k, hrun, h1, h2, h3, h4, h5, h6, h7⟩

/-! ## VERIFY_EXPIRY -/

theorem verifyExpiry_exec {d : DoorNo} {s : State} (hp : s.power = .running) {g : Segment} (hg : verifyFailed s.env d s.seg = g) :
    exec (.verifyExpiry d) s = .next (settled { s with seg := g }) :=
  congrArg Host.Outcome.next ((runSegment_eq _ s hp).trans (by rw [hg]))

/-- A retry (R41, R125). -/
theorem verify_retries (d : DoorNo) (s : State) (hp : s.power = .running) (hu : ∀ q ∈ s.seg.queue, q.door ≠ d)
    (hs : (s.seg.door d).eng.state = .verifying) (hr : (s.seg.door d).eng.retry < (s.env.profile d).retryLimit)
    (hz : (s.seg.door d).eng.pendingTarget = none) (ha : (s.env.profile d).assigns .lockDrive = true) :
    let x := s.seg.door d
    let p := s.env.profile d
    let goes (c : Instr) (g : Segment) : Prop := exec c s = .next (settled { s with seg := g })
    let again : Segment :=
      let g := s.seg.putDoor d { x with eng := { x.eng with
        retry := x.eng.retry + 1, state := .awaitGrant, timer := ⟨0, 0, false⟩ } }
      consider s.env { g with queue := insertEntry ⟨d, (s.env.doorEntry d).rank⟩ s.seg.queue }
    (x.eng.target = some .released → p.lockKind = .magnetic →
      goes (.verifyExpiry d) (s.seg.putDoor d { x with eng := { x.eng with
        retry := x.eng.retry + 1, timer := ⟨p.verifyTime, 0, true⟩ } }))
    ∧ (x.eng.target = some .released → p.lockKind ≠ .magnetic → goes (.verifyExpiry d) again)
    ∧ (x.eng.target = some .secured → p.lockKind = .motor → goes (.verifyExpiry d) again)
    ∧ (x.eng.target = some .secured → p.lockKind ≠ .motor → x.closed p = false → x.eng.deferral ≠ .expired →
      ∃ g, goes (.verifyExpiry d) g ∧ (g.door d).eng.state = .quietWait ∧ (g.door d).eng.retry = x.eng.retry + 1
        ∧ (g.door d).mon.watch = some ⟨x.eng.params.threshold, x.eng.force⟩
        ∧ (g.door d).eng.drive = (p.lockKind == .strike && x.eng.drive) ∧ (g.door d).eng.owed = x.eng.owed)
    ∧ (x.eng.target = some .secured → p.lockKind ≠ .motor →
      let h := s.seg.putDoor d { x with eng := { x.eng with retry := x.eng.retry + 1 } }
      goes (.verifyExpiry d) (enterQuietWait s.env d (if p.lockKind = .magnetic then turnDriveOff s.env d h else h))) := by
  intro x p goes again
  have hretry := (verifyFailed_retries hs hr hz).trans (if_pos ha)
  have hbetween : x.retried.eng.state ∉ [DoorState.holding, .outOfService, .released, .secured] := by
    show x.eng.state ∉ _
    rw [hs]
    decide
  have hagain : awaitGrant s.env d (s.seg.putDoor d x.retried) = again := awaitGrant_put hbetween
  have waits (ht : x.eng.target = some .secured) (hk : p.lockKind ≠ .motor) : verifyFailed s.env d s.seg =
      enterQuietWait s.env d (if p.lockKind = .magnetic then turnDriveOff s.env d (s.seg.putDoor d x.retried)
        else s.seg.putDoor d x.retried) := by
    rw [ht] at hretry
    cases hkind : p.lockKind with
    | motor => exact absurd hkind hk
    | magnetic =>
      rw [hkind] at hretry
      exact hretry
    | strike =>
      rw [hkind] at hretry
      exact hretry
  refine ⟨fun ht hk => verifyExpiry_exec hp ?_, fun ht hk => verifyExpiry_exec hp ?_, fun ht hk => verifyExpiry_exec hp ?_,
    fun ht hk hc hd => ⟨_, verifyExpiry_exec hp (waits ht hk), ?_⟩, fun ht hk => verifyExpiry_exec hp (waits ht hk)⟩
  · rw [ht, hk] at hretry
    refine hretry.trans ?_
    unfold startTimer
    rw [putDoor_upd _ rfl]
    rfl
  · rw [ht] at hretry
    refine hretry.trans ?_
    cases hkind : p.lockKind with
    | magnetic => exact absurd hkind hk
    | motor => exact hagain
    | strike => exact hagain
  · rw [ht, hk] at hretry
    exact hretry.trans hagain
  · have retried : Made (s.seg.queue = []) d x.retried s.seg (s.seg.putDoor d x.retried) :=
      ⟨by rw [door_putDoor_same], hu, fun h => ⟨h, rfl⟩⟩
    have off : Made (s.seg.queue = []) d (if p.lockKind = .magnetic then x.retried.driven p false else x.retried) s.seg
        (if p.lockKind = .magnetic then turnDriveOff s.env d (s.seg.putDoor d x.retried) else s.seg.putDoor d x.retried) := by
      split
      · exact retried.turnDriveOff
      · exact retried
    have hoff : (if p.lockKind = .magnetic then x.retried.driven p false else x.retried) = { x.retried with
        charge := (if p.lockKind = .magnetic then x.retried.driven p false else x.retried).charge
        eng := { x.retried.eng with drive := p.lockKind == .strike && x.eng.drive } } := by
      cases hkind : p.lockKind with
      | motor => exact absurd hkind hk
      | magnetic =>
        rw [if_pos rfl]
        exact Door.driven_eq _ _ _
      | strike => rfl
    rw [hoff] at off
    have hwait := off.enterQuietWait_waits (e := s.env) (not_quiet_of_not_closed _ hc) hd
    rw [hwait.eng, hwait.mon]
    exact ⟨rfl, rfl, rfl, rfl, rfl⟩

end Sys2Proof.Machine
end

section
/-! VERIFY_EXPIRY where a pending target takes the place of the retry, and at the retry limit (R112, R118, R125, R130). -/

namespace Sys2Proof.Machine

section
variable {e : Env} {d : DoorNo} {g : Segment} {x : Door} {q : Posture} {ps : Params} {owed : Option Nat}

/-- A door in VERIFYING whose pending target starts a new attempt, on the segment that has been told of the one replaced. -/
def Door.restarted (q : Posture) (ps : Params) (owed : Option Nat) (x : Door) : Door := { x with eng := { x.eng with
  target := some q, params := ps, owed := owed, beforeAttempt := x.eng.target, retry := 0, force := false
  fallback := .ofTarget x.eng.target, pulseInAttempt := x.eng.pulseInAttempt && x.eng.state != .released } }

theorem newAttempt_put : newAttempt e d q ps owed none (g.putDoor d x) =
    takeToward e d q .already ((answer e d x.eng.owed .overridden g).putDoor d (x.restarted q ps owed)) := by
  rw [newAttempt_eq, door_putDoor_same, answer_putDoor, putDoor_putDoor]
  rfl

/-- The wait toward SECURED of a door that is not closed, in a state between settled ones (R115, R120). -/
theorem takeSecured_put_waits {o : DoorOutcome} (hx : x.eng.state.between) (hs : x.sensedOutside (e.profile d) ≠ some .secured)
    (ha : (e.profile d).assigns .lockDrive = true) (hc : x.closed (e.profile d) = false) :
    takeSecured e d o (g.putDoor d x) = g.putDoor d { x.deferring with
      eng := { x.deferring.eng with state := .quietWait, timer := ⟨0, 0, false⟩ }
      mon := { x.mon with watch := some ⟨x.eng.params.threshold, x.eng.force⟩ } } := by
  have hh : x.eng.state ≠ .holding := fun h => hx (by simp [h])
  have hleave : leaveHolding e d (g.putDoor d x) = g.putDoor d x := if_pos (by rw [door_putDoor_same]; exact bne_iff_ne.mpr hh)
  have hdeferral : Machine.Deferral.ofLimit x.eng.params.deferralLimit ≠ .expired := by
    unfold Deferral.ofLimit
    split <;> exact fun h => Deferral.noConfusion h
  rw [takeSecured_else (by rw [hleave, door_putDoor_same]; exact hs), if_neg (by simp [ha]), hleave, startDeferral,
    updEng_put fun y => { y with deferral := .ofLimit y.params.deferralLimit, deferralSub := 0 }]
  exact enterQuietWait_put_waits hx (not_quiet_of_not_closed _ hc) hdeferral

end

/-- A pending target in the place of a retry (R118, log 19). -/
theorem verify_replaced (d : DoorNo) (s : State) (hp : s.power = .running) (hu : ∀ q ∈ s.seg.queue, q.door ≠ d)
    (hs : (s.seg.door d).eng.state = .verifying) (hr : (s.seg.door d).eng.retry < (s.env.profile d).retryLimit)
    (q : PendingTarget) (hz : (s.seg.door d).eng.pendingTarget = some q) :
    let x := s.seg.door d
    let p := s.env.profile d
    ∃ g, exec (.verifyExpiry d) s = .next (settled { s with seg := g })
      ∧ g = newAttempt s.env d q.posture q.params q.owed none
          (s.seg.putDoor d { x with eng := { x.eng with pendingTarget := none } })
      ∧ (g.door d).eng.pendingTarget = none ∧ (g.door d).eng.retry = 0 ∧ (g.door d).eng.params = q.params
      ∧ (x.sensedOutside p = some q.posture → (g.door d).eng.state = q.posture.state
        ∧ (g.door d).eng.target = some q.posture ∧ (g.door d).eng.owed = none
        ∧ (s.seg.queue = [] → g.seqr
            = (answer s.env d q.owed .already (answer s.env d x.eng.owed .overridden s.seg)).seqr))
      ∧ (x.sensedOutside p ≠ some q.posture → q.posture = .secured → p.assigns .lockDrive = true → x.closed p = false →
        (g.door d).eng.state = .quietWait ∧ (g.door d).eng.target = some .secured ∧ (g.door d).eng.owed = q.owed
        ∧ (g.door d).mon.watch = some ⟨q.params.threshold, false⟩
        ∧ g.seqr = (answer s.env d x.eng.owed .overridden s.seg).seqr)
      ∧ (x.sensedOutside p ≠ some q.posture → q.posture = .released → p.assigns .lockDrive = true →
        p.lockKind = .magnetic → (g.door d).eng.state = .verifying ∧ (g.door d).eng.target = some .released
        ∧ (g.door d).eng.owed = q.owed ∧ (g.door d).eng.drive = false) := by
  intro x p
  let y : Door := { x with eng := { x.eng with pendingTarget := none } }
  let b := answer s.env d x.eng.owed .overridden s.seg
  have hb : b.queue = s.seg.queue := by
    show (answer s.env d x.eng.owed .overridden s.seg).queue = _
    rw [answer_eq]
  have hstarted : newAttempt s.env d q.posture q.params q.owed none (s.seg.putDoor d y) =
      takeToward s.env d q.posture .already (b.putDoor d (y.restarted q.posture q.params q.owed)) := newAttempt_put
  have made : Made (s.seg.queue = []) d (y.restarted q.posture q.params q.owed) b (b.putDoor d (y.restarted q.posture q.params q.owed)) :=
    ⟨by rw [door_putDoor_same], by rw [Unqueued, putDoor_queue, hb]; exact hu, fun h => ⟨by rw [putDoor_queue, hb]; exact h, rfl⟩⟩
  have hholding : (y.restarted q.posture q.params q.owed).eng.state ≠ .holding := by
    show x.eng.state ≠ _
    rw [hs]
    decide
  have aims : Aims (y.restarted q.posture q.params q.owed).eng d (b.putDoor d (y.restarted q.posture q.params q.owed)) :=
    .of_eng (by rw [door_putDoor_same])
  refine ⟨_, verifyExpiry_exec hp (verifyFailed_replaced hs hr hz), rfl, ?_⟩
  show (_ : Prop) ∧ _
  rw [show newAttempt s.env d q.posture q.params q.owed none
    (s.seg.putDoor d { s.seg.door d with eng := { (s.seg.door d).eng with pendingTarget := none } }) = _ from hstarted]
  have haims := aims.takeToward (e := s.env) (q := q.posture) (o := .already)
  refine ⟨haims.pending, haims.retry, haims.params, fun hseen => ?_, fun hseen hq ha hc => ?_, fun hseen hq ha hk => ?_⟩
  · have hsettled : ∃ free, Made (s.seg.queue = []) d
        (((y.restarted q.posture q.params q.owed).leaving p free).settledAt p q.posture)
        (answer s.env d q.owed .already b) (takeToward s.env d q.posture .already (b.putDoor d (y.restarted q.posture q.params q.owed))) := by
      cases hq : q.posture with
      | secured =>
        rw [hq] at made hseen
        exact made.takeSecured_settles .already hseen
      | released =>
        rw [hq] at made hseen
        exact made.takeReleased_settles .already (.inl hseen)
    obtain ⟨free, h⟩ := hsettled
    rw [h.eng, Door.settledAt_eq]
    exact ⟨rfl, rfl, rfl, fun a => (h.alone a).2⟩
  · have hbetween : (y.restarted q.posture q.params q.owed).eng.state.between := by
      show x.eng.state ∉ _
      rw [hs]
      decide
    rw [hq] at hseen hbetween ⊢
    rw [show takeToward s.env d .secured .already (b.putDoor d (y.restarted .secured q.params q.owed)) = _ from
      takeSecured_put_waits hbetween hseen ha hc, door_putDoor_same]
    exact ⟨rfl, rfl, rfl, rfl, rfl⟩
  · rw [hq] at hseen hholding made ⊢
    obtain ⟨free, h⟩ := made.takeReleased_verifies (e := s.env) .already rfl hseen ha hk
    rw [show takeToward s.env d .released .already (b.putDoor d (y.restarted .released q.params q.owed)) = takeReleased s.env d .already
      (b.putDoor d (y.restarted .released q.params q.owed)) from rfl, h.eng, Door.driven_eq, Door.leaving_not hholding]
    exact ⟨rfl, rfl, rfl, rfl⟩

/-- What an attempt that failed leaves (R112, R125). -/
def Faults (d : DoorNo) (s : State) (q : Posture) (retry : Nat) (g : Segment) : Prop :=
  let x := s.seg.door d
  (OnlyDoor d s.seg g ∧ g.queue = s.seg.queue
    ∧ (g.door d).eng.state = .faulted ∧ (g.door d).eng.target = some q ∧ (g.door d).eng.owed = none
    ∧ (g.door d).eng.drive = x.eng.drive ∧ (g.door d).eng.deferral = .none ∧ (g.door d).charge = x.charge
    ∧ (q = .secured → (g.door d).eng.live.notSecured = true ∧ (g.door d).eng.sticky.notSecured = true)
    ∧ (q = .released → (g.door d).eng.live.notReleased = true ∧ (g.door d).eng.sticky.notReleased = true)
    ∧ g.seqr = (answer s.env d x.eng.owed .failed s.seg).seqr)
  ∧ (g.door d).eng.retry = retry

theorem faults_of_failed {d : DoorNo} {s : State} {q : Posture} {y : Door} (ht : y.eng.target = some q)
    (ho : y.eng.owed = (s.seg.door d).eng.owed) (hd : y.eng.drive = (s.seg.door d).eng.drive) (hc : y.charge = (s.seg.door d).charge) :
    Faults d s q y.eng.retry (enterFaulted s.env d (failKind (y.eng.target.getD .secured)) (s.seg.putDoor d y)) := by
  obtain ⟨halters, hcore⟩ := enterFaulted_alters (e := s.env) (d := d) (g := s.seg.putDoor d y) (failKind (y.eng.target.getD .secured))
  have heng := Door.core_read hcore Door.eng
  have hcharge := Door.core_read hcore Door.charge
  rw [door_putDoor_same] at heng hcharge halters
  rw [ht] at heng hcharge halters ⊢
  unfold Faults
  dsimp only
  rw [heng, hcharge]
  refine ⟨⟨fun j hj => (halters.only j hj).trans (door_putDoor_ne _ _ _ _ hj), halters.queue, rfl, ht, rfl, hd, rfl, hc, ?_, ?_, ?_⟩, rfl⟩
  · rintro rfl
    exact ⟨rfl, rfl⟩
  · rintro rfl
    exact ⟨rfl, rfl⟩
  · refine halters.seqr.trans ?_
    rw [ho]
    exact answer_seqr rfl

/-- A pending target at the retry limit (R118, R130). -/
theorem verify_limit_pending (d : DoorNo) (s : State) (hp : s.power = .running) (hs : (s.seg.door d).eng.state = .verifying)
    (hr : (s.env.profile d).retryLimit ≤ (s.seg.door d).eng.retry) (z : PendingTarget) (q : Posture)
    (hz : (s.seg.door d).eng.pendingTarget = some z) (ht : (s.seg.door d).eng.target = some q) :
    let x := s.seg.door d
    let goes (c : Instr) (g : Segment) : Prop := exec c s = .next (settled { s with seg := g })
    (z.posture = .secured → ∃ g, goes (.verifyExpiry d) g ∧ OnlyDoor d s.seg g ∧ g.queue = s.seg.queue
      ∧ (g.door d).eng.state = .faulted ∧ (g.door d).eng.target = some .secured ∧ (g.door d).eng.params = z.params
      ∧ (g.door d).eng.owed = none ∧ (g.door d).eng.pendingTarget = none
      ∧ (q = .secured → (g.door d).eng.live.notSecured = true ∧ (g.door d).eng.sticky.notSecured = true)
      ∧ (q = .released → (g.door d).eng.live.notReleased = true ∧ (g.door d).eng.sticky.notReleased = true)
      ∧ g.seqr = (answer s.env d z.owed .failed (answer s.env d x.eng.owed .failed s.seg)).seqr)
    ∧ (z.posture = .released → ∃ h, goes (.verifyExpiry d) (targetSet s.env d .released z.params z.owed h)
      ∧ Faults d s q x.eng.retry h ∧ (h.door d).eng.pendingTarget = none) := by
  intro x goes
  let failed := enterFaulted s.env d (failKind (x.eng.target.getD .secured)) s.seg
  have hfaults : Faults d s q x.eng.retry failed := by
    have h := faults_of_failed (d := d) (s := s) (y := x) ht rfl rfl rfl
    rw [putDoor_self] at h
    exact h
  have haims : Aims x.eng d failed := (Aims.of_eng (x := x.eng) (g := s.seg) rfl).enterFaulted
  obtain ⟨⟨honly, hqueue, hstate, htarget, howed, hdrive, hdeferral, hcharge, hsec, hrel, hseqr⟩, hretry⟩ := hfaults
  have hends : verifyFailed s.env d s.seg = targetSet s.env d z.posture z.params z.owed (dropPending s.env d failed) :=
    (verifyFailed_ends hs hr).trans (takePending_some (haims.pending.trans hz) (by rw [hstate]; decide))
  have hdropped : dropPending s.env d failed = failed.putDoor d { failed.door d with
    eng := { (failed.door d).eng with pendingTarget := none } } := dropPending_eq
  have hdoor : (dropPending s.env d failed).door d = { failed.door d with
    eng := { (failed.door d).eng with pendingTarget := none } } := by rw [hdropped, door_putDoor_same]
  have honly' : OnlyDoor d s.seg (dropPending s.env d failed) := fun j hj => by
    rw [hdropped, door_putDoor_ne _ _ _ _ hj]
    exact honly j hj
  have hqueue' : (dropPending s.env d failed).queue = s.seg.queue := by
    rw [hdropped]
    exact hqueue
  have hseqr' : (dropPending s.env d failed).seqr = (answer s.env d x.eng.owed .failed s.seg).seqr := by
    rw [hdropped]
    exact hseqr
  refine ⟨fun hq => ⟨_, verifyExpiry_exec hp hends, ?_⟩, fun hq => ⟨_, verifyExpiry_exec hp (by rw [← hq]; exact hends), ?_, ?_⟩⟩
  · have hfaulted : ((dropPending s.env d failed).door d).eng.state = .faulted := by
      rw [hdoor]
      exact hstate
    have hset : targetSet s.env d z.posture z.params z.owed (dropPending s.env d failed) =
        answer s.env d z.owed .failed ((answer s.env d none .overridden (dropPending s.env d failed)).putDoor d { failed.door d with
          eng := { (failed.door d).eng with pendingTarget := none, target := some .secured, params := z.params, owed := none } }) := by
      rw [hq, targetSet_faulted hfaulted, adopt_eq, answerOwed_put, hdoor]
      dsimp only
      rw [howed]
      rfl
    rw [hset]
    refine ⟨fun j hj => ?_, ?_, ?_⟩
    · rw [answer_door, door_putDoor_ne _ _ _ _ hj]
      exact honly' j hj
    · rw [answer_eq]
      exact hqueue'
    · rw [answer_door, door_putDoor_same]
      exact ⟨hstate, rfl, rfl, rfl, rfl, hsec, hrel, answer_seqr hseqr'⟩
  · unfold Faults
    dsimp only
    rw [hdoor]
    exact ⟨⟨honly', hqueue', hstate, htarget, howed, hdrive, hdeferral, hcharge, hsec, hrel, hseqr'⟩, hretry⟩
  · rw [hdoor]

end Sys2Proof.Machine
end

section
/-! COOLING_EXPIRY (R129), and the level of LOCK_DRIVE a change of a door is judged by (R43, R104). -/

namespace Sys2Proof.Machine

theorem lockLevel_eq (latch : Bool) (p : ProfileEntry) (x : Door) : x.lockLevel latch p =
    if latch || x.eng.state == .outOfService then false else if x.eng.state = .holding then x.heldDrive p else x.eng.drive := by
  unfold Door.lockLevel
  cases latch with
  | true => rfl
  | false => cases x.eng.state <;> rfl

/-- A change of a door that takes its LOCK_DRIVE level from on to off clears its counts (R104). -/
theorem upd_eq (e : Env) (d : DoorNo) (f : Door → Door) (g : Segment) :
    let on (x : Door) : Bool := if g.fire.latch || x.eng.state == .outOfService then false
      else if x.eng.state = .holding then x.heldDrive (e.profile d) else x.eng.drive
    let x := g.door d
    g.upd e d f = g.putDoor d (if on x = true ∧ on (f x) = false then { f x with sup := ⟨0, 0⟩ } else f x) := by
  intro on x
  have level (y : Door) : on y = y.lockLevel g.fire.latch (e.profile d) := (lockLevel_eq _ _ _).symm
  unfold Segment.upd
  dsimp only
  rw [← apply_ite (g.putDoor d)]
  refine congrArg (g.putDoor d) (if_congr ?_ rfl rfl)
  rw [Bool.and_eq_true, Bool.not_eq_true', level, level]

/-! ## COOLING_EXPIRY -/

section
variable {e : Env} {d : DoorNo} {g : Segment}

theorem coolingEnd_goes (hs : (g.door d).eng.state = .cooling) (hr : (g.door d).eng.retry < (e.profile d).retryLimit) :
    coolingEnd e d g = match (g.door d).eng.target with
      | some .secured => takeSecured e d .done (g.putDoor d (g.door d).retried)
      | some .released => takeReleased e d .already (g.putDoor d (g.door d).retried)
      | none => enterState e d .holding (g.putDoor d (g.door d).retried) := by
  have hput := updEng_eq (e := e) (d := d) (g := g) fun x => { x with retry := x.retry + 1 }
  unfold coolingEnd
  dsimp only
  rw [if_pos hs, if_pos hr, hput]
  rfl

theorem coolingEnd_faults (hs : (g.door d).eng.state = .cooling) (hr : (e.profile d).retryLimit ≤ (g.door d).eng.retry) :
    coolingEnd e d g = match (g.door d).eng.target with
      | some p => enterFaulted e d (failKind p) g
      | none => answerOwed e d .failed (enterState e d .faulted g) := by
  unfold coolingEnd
  dsimp only
  rw [if_pos hs, if_neg (by omega)] <;> rfl

end

theorem coolingExpiry_exec {d : DoorNo} {s : State} (hp : s.power = .running) {g : Segment} (hg : coolingEnd s.env d s.seg = g) :
    exec (.coolingExpiry d) s = .next (settled { s with seg := g }) :=
  congrArg Host.Outcome.next ((runSegment_eq _ s hp).trans (by rw [hg]))

/-- What a door owed has been answered (R129). -/
def Answered (d : DoorNo) (s : State) (o : DoorOutcome) (g : Segment) : Prop :=
  (g.door d).eng.owed = none ∧ (s.seg.queue = [] → g.seqr = (answer s.env d (s.seg.door d).eng.owed o s.seg).seqr)

/-- The attempt has failed (R112, R129). -/
def Fails (d : DoorNo) (s : State) (q : Posture) (g : Segment) : Prop :=
  (g.door d).eng.state = .faulted ∧ Answered d s .failed g
  ∧ (q = .secured → (g.door d).eng.live.notSecured = true ∧ (g.door d).eng.sticky.notSecured = true)
  ∧ (q = .released → (g.door d).eng.live.notReleased = true ∧ (g.door d).eng.sticky.notReleased = true)

section
variable {d : DoorNo} {s : State}

/-- A cooled door taken toward its target: the door tries again. -/
theorem retried_made (hu : ∀ q ∈ s.seg.queue, q.door ≠ d) : Made (s.seg.queue = []) d (s.seg.door d).retried s.seg
    (s.seg.putDoor d (s.seg.door d).retried) := ⟨by rw [door_putDoor_same], hu, fun h => ⟨h, rfl⟩⟩

/-- COOLING_EXPIRY below the retry limit (R115, R116, R129). -/
theorem cooling_goes (hp : s.power = .running) (hu : ∀ q ∈ s.seg.queue, q.door ≠ d) (hs : (s.seg.door d).eng.state = .cooling)
    (hr : (s.seg.door d).eng.retry < (s.env.profile d).retryLimit) :
    let x := s.seg.door d
    let p := s.env.profile d
    ∃ g, exec (.coolingExpiry d) s = .next (settled { s with seg := g })
      ∧ (g.door d).eng.retry = x.eng.retry + 1
      ∧ (x.eng.target = none → (g.door d).eng.state = .holding ∧ (g.door d).eng.target = none ∧ OnlyDoor d s.seg g)
      ∧ (∀ q, x.eng.target = some q → x.sensedOutside p = some q →
          (g.door d).eng.state = q.state ∧ (g.door d).eng.target = some q
          ∧ Answered d s (if q = .secured then .done else .already) g)
      ∧ (∀ q, x.eng.target = some q → x.sensedOutside p = none → p.lockKind ≠ .motor → p.assigns .lockDrive = false → Fails d s q g)
      ∧ (x.eng.target = some .secured → x.sensedOutside p ≠ some .secured → p.assigns .lockDrive = true →
          x.closed p = false → (g.door d).eng.state = .quietWait ∧ (g.door d).eng.owed = x.eng.owed
          ∧ (g.door d).mon.watch = some ⟨x.eng.params.threshold, x.eng.force⟩)
      ∧ (x.eng.target = some .released → x.sensedOutside p ≠ some .released → p.assigns .lockDrive = true →
          p.lockKind = .magnetic → (g.door d).eng.state = .verifying ∧ (g.door d).eng.drive = false
          ∧ (g.door d).eng.timer = ⟨p.verifyTime, 0, true⟩ ∧ (g.door d).eng.owed = x.eng.owed) := by
  intro x p
  have retried := retried_made hu
  have hholding : x.retried.eng.state ≠ .holding := by
    show x.eng.state ≠ _
    rw [hs]
    decide
  have aims : Aims x.retried.eng d (s.seg.putDoor d x.retried) := .of_eng (by rw [door_putDoor_same])
  refine ⟨_, coolingExpiry_exec hp (coolingEnd_goes hs hr), ?_⟩
  show (_ : Prop) ∧ _
  cases ht : (s.seg.door d).eng.target with
  | none =>
    have entered : Aims x.retried.eng d (enterState s.env d .holding (s.seg.putDoor d x.retried)) := aims.upd _
    refine ⟨entered.retry, fun _ => ⟨enterState_state .., ?_, fun j hj => ?_⟩, fun q h => (by simp at h),
      fun q h => (by simp at h), fun h => (by simp at h), fun h => (by simp at h)⟩
    · show ((enterState s.env d .holding (s.seg.putDoor d x.retried)).door d).eng.target = none
      rw [enterState, upd_door_eng, door_putDoor_same]
      exact ht
    · exact (onlyDoor_upd _ s.env d _ j hj).trans (door_putDoor_ne _ _ _ _ hj)
  | some v =>
    cases v with
    | secured =>
      refine ⟨(aims.takeSecured (e := s.env)).retry, fun h => (by simp at h), fun q hq hseen => ?_,
        fun q hq hseen hk ha => ?_, fun _ hseen ha hc => ?_, fun h => (by simp at h)⟩
      · obtain rfl := Option.some.inj hq
        obtain ⟨free, h⟩ := retried.takeSecured_settles (e := s.env) .done hseen
        unfold Answered
        dsimp only
        rw [h.eng, Door.settledAt_eq]
        exact ⟨rfl, rfl, rfl, fun a => (h.alone a).2⟩
      · obtain rfl := Option.some.inj hq
        obtain ⟨free, h⟩ := retried.takeSecured_faults (e := s.env) .done (by
          show x.sensedOutside p ≠ _
          rw [hseen]
          simp) ha
        unfold Fails Answered
        dsimp only
        rw [h.eng, Door.leaving_not hholding]
        exact ⟨rfl, ⟨rfl, fun a => (h.alone a).2⟩, fun _ => ⟨rfl, rfl⟩, fun h => by simp at h⟩
      · have hbetween : x.retried.eng.state.between := by
          show x.eng.state ∉ _
          rw [hs]
          decide
        have hwait := takeSecured_put_waits (e := s.env) (d := d) (g := s.seg) (x := x.retried) (o := .done) hbetween hseen ha hc
        dsimp only
        rw [hwait, door_putDoor_same]
        exact ⟨rfl, rfl, rfl⟩
    | released =>
      refine ⟨(aims.takeReleased (e := s.env)).retry, fun h => (by simp at h), fun q hq hseen => ?_,
        fun q hq hseen hk ha => ?_, fun h => (by simp at h), fun _ hseen ha hk => ?_⟩
      · obtain rfl := Option.some.inj hq
        obtain ⟨free, h⟩ := retried.takeReleased_settles (e := s.env) .already (.inl hseen)
        unfold Answered
        dsimp only
        rw [h.eng, Door.settledAt_eq]
        exact ⟨rfl, rfl, rfl, fun a => (h.alone a).2⟩
      · obtain rfl := Option.some.inj hq
        obtain ⟨free, h⟩ := retried.takeReleased_faults (e := s.env) .already (by
          show x.sensedOutside p ≠ _
          rw [hseen]
          simp) (fun hrest => hk hrest.1) ha
        unfold Fails Answered
        dsimp only
        rw [h.eng, Door.leaving_not hholding]
        exact ⟨rfl, ⟨rfl, fun a => (h.alone a).2⟩, fun h => by simp at h, fun _ => ⟨rfl, rfl⟩⟩
      · obtain ⟨free, h⟩ := retried.takeReleased_verifies (e := s.env) .already ht hseen ha hk
        dsimp only
        rw [h.eng, Door.driven_eq, Door.leaving_not hholding]
        exact ⟨rfl, rfl, rfl, rfl⟩

/-- COOLING_EXPIRY at the retry limit (R129). -/
theorem cooling_faults (hp : s.power = .running) (hs : (s.seg.door d).eng.state = .cooling)
    (hr : (s.env.profile d).retryLimit ≤ (s.seg.door d).eng.retry) :
    let x := s.seg.door d
    ∃ g, exec (.coolingExpiry d) s = .next (settled { s with seg := g }) ∧ OnlyDoor d s.seg g ∧ g.queue = s.seg.queue
      ∧ (g.door d).eng.state = .faulted ∧ Answered d s .failed g ∧ (g.door d).eng.target = x.eng.target
      ∧ (∀ q, x.eng.target = some q → Fails d s q g)
      ∧ (x.eng.target = none → (g.door d).eng.live = x.eng.live ∧ (g.door d).eng.sticky = x.eng.sticky) := by
  intro x
  cases ht : (s.seg.door d).eng.target with
  | none =>
    have hend : coolingEnd s.env d s.seg = answerOwed s.env d .failed (enterState s.env d .faulted s.seg) := by
      rw [coolingEnd_faults hs hr, ht]
    have howed : answerOwed s.env d .failed (enterState s.env d .faulted s.seg) = answer s.env d x.eng.owed .failed
        (s.seg.upd s.env d fun x => { x with eng := { x.eng.enter .faulted with owed := none } }) := by
      unfold answerOwed enterState
      dsimp only
      rw [upd_upd _ fun x => { x with eng := { x.eng with owed := none } }, upd_door_eng]
      rfl
    refine ⟨_, coolingExpiry_exec hp hend, ?_⟩
    rw [howed]
    refine ⟨fun j hj => ?_, ?_, ?_⟩
    · rw [answer_door]
      exact onlyDoor_upd _ _ _ _ j hj
    · rw [answer_eq]
      exact upd_queue ..
    · unfold Answered
      rw [answer_door, upd_door_eng]
      exact ⟨rfl, ⟨rfl, fun _ => answer_seqr (upd_seqr ..)⟩, ht, fun q h => absurd h (by simp), fun _ => ⟨rfl, rfl⟩⟩
  | some v =>
    have hend : coolingEnd s.env d s.seg = enterFaulted s.env d (failKind v) s.seg := by
      rw [coolingEnd_faults hs hr, ht]
    obtain ⟨halters, hcore⟩ := enterFaulted_alters (e := s.env) (d := d) (g := s.seg) (failKind v)
    have heng := Door.core_read hcore Door.eng
    refine ⟨_, coolingExpiry_exec hp hend, halters.only, halters.queue, ?_⟩
    unfold Fails Answered
    rw [heng]
    refine ⟨rfl, ⟨rfl, fun _ => halters.seqr⟩, ht, fun q hq => ⟨rfl, ⟨rfl, fun _ => halters.seqr⟩, ?_, ?_⟩, fun h => by simp at h⟩
    · rintro rfl
      obtain rfl := Option.some.inj hq
      exact ⟨rfl, rfl⟩
    · rintro rfl
      obtain rfl := Option.some.inj hq
      exact ⟨rfl, rfl⟩

/-- COOLING_EXPIRY (R129). -/
theorem cooling_ends (d : DoorNo) (s : State) (hp : s.power = .running) (hu : ∀ q ∈ s.seg.queue, q.door ≠ d) :
    let x := s.seg.door d
    let p := s.env.profile d
    let goes (g : Segment) : Prop := exec (.coolingExpiry d) s = .next (settled { s with seg := g })
    (x.eng.state ≠ .cooling → exec (.coolingExpiry d) s = .next (settled s))
    ∧ (x.eng.state = .cooling → x.eng.retry < p.retryLimit →
      let h := s.seg.putDoor d { x with eng := { x.eng with retry := x.eng.retry + 1 } }
      (x.eng.target = some .secured → goes (takeSecured s.env d .done h))
      ∧ (x.eng.target = some .released → goes (takeReleased s.env d .already h)))
    ∧ (x.eng.state = .cooling → x.eng.retry < p.retryLimit → x.eng.target = some .released →
      x.sensedOutside p ≠ some .released → p.assigns .lockDrive = true → p.lockKind = .strike →
      let g := s.seg.putDoor d { x with eng := { x.eng with
        retry := x.eng.retry + 1, state := .awaitGrant, timer := ⟨0, 0, false⟩ } }
      goes (consider s.env { g with queue := insertEntry ⟨d, (s.env.doorEntry d).rank⟩ s.seg.queue })) := by
  intro x p goes
  refine ⟨fun hs => ?_, fun hs hr => ⟨fun ht => coolingExpiry_exec hp ?_, fun ht => coolingExpiry_exec hp ?_⟩,
    fun hs hr ht hseen ha hk => coolingExpiry_exec hp ?_⟩
  · exact congrArg Host.Outcome.next (runSegment_same _ s hp (if_neg hs))
  · rw [coolingEnd_goes hs hr, ht]
    rfl
  · rw [coolingEnd_goes hs hr, ht]
    rfl
  · have hstate : x.retried.eng.state ∉ [DoorState.holding, .outOfService, .released, .secured] := by
      show x.eng.state ∉ _
      rw [hs]
      decide
    have hleave : leaveHolding s.env d (s.seg.putDoor d x.retried) = s.seg.putDoor d x.retried :=
      if_pos (by rw [door_putDoor_same]; exact bne_iff_ne.mpr fun h => hstate (by simp [h]))
    rw [coolingEnd_goes hs hr, ht]
    dsimp only
    rw [(retried_made hu).takeReleased_else .already hseen (fun hrest => LockKind.noConfusion (hk.symm.trans hrest.1)),
      if_neg (fun h => Bool.noConfusion (h.symm.trans ha)), if_neg (fun h => LockKind.noConfusion (h.symm.trans hk)), hleave, awaitGrant_put hstate]
    rfl

end

end Sys2Proof.Machine
end

section
/-! The record of a run: what a step becomes when one is judged, when an outcome is recorded, and when it begins (R141, R142, R145). -/

namespace Sys2Proof.Machine

/-! ## One step of a run changed -/

theorem modify_of_get {α : Type} {l : List α} {i : Nat} {a : α} (h : l[i]? = some a) (f : α → α) : l.modify i f = l.set i (f a) := by
  obtain ⟨hi, ha⟩ := List.getElem?_eq_some_iff.mp h
  rw [List.modify_eq_set_getElem?, h]
  rfl

theorem modify_of_none {α : Type} {l : List α} {i : Nat} (h : l[i]? = none) (f : α → α) : l.modify i f = l := by
  rw [List.modify_eq_set_getElem?, h]
  rfl

/-- The members of a step have all answered. -/
theorem StepRecord.answered_iff (z : StepRecord) : z.answered = true ↔ ∀ m ∈ z.members, ∃ o, m.mark = .outcome o := by
  refine List.all_eq_true.trans (forall₂_congr fun m _ => ?_)
  cases m.mark with
  | outcome o => simp [Mark.isOutcome]
  | _ => simp [Mark.isOutcome]

/-! ## Judging -/

/-- All but the base of a step's offset, and whether it is due, is the same. -/
structure StepRecord.Alike (z z' : StepRecord) : Prop where
  state : z'.state = z.state
  startMinute : z'.startMinute = z.startMinute
  doneMinute : z'.doneMinute = z.doneMinute
  members : z'.members = z.members

/-- What judging makes of a step: DONE at this minute where it was active and its members have all answered (R145). -/
structure StepRecord.Judged (e : Env) (z z' : StepRecord) : Prop where
  startMinute : z'.startMinute = z.startMinute
  members : z'.members = z.members
  ends : z.state = .active → z.answered = true → z'.state = .done ∧ z'.doneMinute = some e.minute
  stands : ¬ (z.state = .active ∧ z.answered = true) → z'.state = z.state ∧ z'.doneMinute = z.doneMinute

theorem StepRecord.Alike.refl (z : StepRecord) : z.Alike z := ⟨rfl, rfl, rfl, rfl⟩

theorem StepRecord.Alike.answered {z z' : StepRecord} (h : z.Alike z') : z'.answered = z.answered := by
  unfold StepRecord.answered
  rw [h.members]

theorem StepRecord.Alike.trans {z z' z'' : StepRecord} (h : z.Alike z') (k : z'.Alike z'') : z.Alike z'' :=
  ⟨k.state.trans h.state, k.startMinute.trans h.startMinute, k.doneMinute.trans h.doneMinute, k.members.trans h.members⟩

theorem StepRecord.Judged.of_alike {e : Env} {z z' z'' : StepRecord} (h : z.Judged e z') (k : z'.Alike z'') : z.Judged e z'' where
  startMinute := k.startMinute.trans h.startMinute
  members := k.members.trans h.members
  ends ha hm := ⟨k.state.trans (h.ends ha hm).1, k.doneMinute.trans (h.ends ha hm).2⟩
  stands hn := ⟨k.state.trans (h.stands hn).1, k.doneMinute.trans (h.stands hn).2⟩

theorem StepRecord.Alike.judged {e : Env} {z z' z'' : StepRecord} (h : z.Alike z') (k : z'.Judged e z'') : z.Judged e z'' where
  startMinute := k.startMinute.trans h.startMinute
  members := k.members.trans h.members
  ends ha hm := k.ends (h.state.trans ha) (h.answered.trans hm)
  stands hn := by
    obtain ⟨hs, hd⟩ := k.stands (by rwa [h.state, h.answered])
    exact ⟨hs.trans h.state, hd.trans h.doneMinute⟩

theorem Run.reachBase_get (e : Env) (k i : Nat) {r : Run} {z : StepRecord} (h : r.steps[i]? = some z) :
    ∃ z', (r.reachBase e k).steps[i]? = some z' ∧ z.Alike z' := by
  refine ⟨_, (List.getElem?_modify ..).trans (congrArg _ h), ?_⟩
  dsimp only
  split
  · split <;> exact ⟨rfl, rfl, rfl, rfl⟩
  · exact .refl z

/-- One step judged: that step, and at most the base of another. -/
theorem Run.judge_get (e : Env) (k i : Nat) {r : Run} {z : StepRecord} (h : r.steps[i]? = some z) :
    ∃ z', (r.judge e (k + 1)).steps[i]? = some z' ∧ (if i = k then z.Judged e z' else z.Alike z') := by
  have same : z.answered = false ∨ z.state ≠ .active → z.Judged e z := fun hn =>
    ⟨rfl, rfl, fun ha hm => by rcases hn with hn | hn <;> simp_all, fun _ => ⟨rfl, rfl⟩⟩
  unfold Run.judge
  have hstep : r.step (k + 1) = r.steps[k]? := rfl
  rw [hstep]
  by_cases hi : i = k
  · subst hi
    simp only [h, if_pos trivial]
    by_cases hc : z.state = .active ∧ z.answered = true
    · rw [if_pos hc]
      have hmod : (r.modStep (i + 1) (fun s => { s with state := .done, doneMinute := some e.minute })).steps[i]?
          = some { z with state := .done, doneMinute := some e.minute } :=
        (List.getElem?_modify_eq ..).trans (congrArg _ h)
      have judged : z.Judged e { z with state := .done, doneMinute := some e.minute } :=
        ⟨rfl, rfl, fun _ _ => ⟨rfl, rfl⟩, fun hn => absurd hc hn⟩
      split
      · obtain ⟨z', hz, ha⟩ := Run.reachBase_get e (i + 1 + 1) i hmod
        exact ⟨z', hz, judged.of_alike ha⟩
      · exact ⟨_, hmod, judged⟩
    · rw [if_neg hc]
      exact ⟨z, h, ⟨rfl, rfl, fun ha hm => absurd ⟨ha, hm⟩ hc, fun _ => ⟨rfl, rfl⟩⟩⟩
  · simp only [if_neg hi]
    split
    · exact ⟨z, h, .refl z⟩
    · split
      · have hmod : (r.modStep (k + 1) (fun s => { s with state := .done, doneMinute := some e.minute })).steps[i]? = some z :=
          (List.getElem?_modify_ne _ _ (Ne.symm hi)).trans h
        split
        · exact Run.reachBase_get e (k + 1 + 1) i hmod
        · exact ⟨z, hmod, .refl z⟩
      · exact ⟨z, h, .refl z⟩

/-- The first n steps judged in order. -/
theorem Run.judgeFirst_get (e : Env) (n i : Nat) {r : Run} {z : StepRecord} (h : r.steps[i]? = some z) :
    ∃ z', ((List.range n).foldl (fun r i => r.judge e (i + 1)) r).steps[i]? = some z'
      ∧ (if i < n then z.Judged e z' else z.Alike z') := by
  induction n with
  | zero => exact ⟨z, h, .refl z⟩
  | succ n ih =>
    obtain ⟨y, hy, hzy⟩ := ih
    obtain ⟨z', hz', hyz⟩ := Run.judge_get e n i hy
    rw [List.range_succ, List.foldl_append]
    refine ⟨z', hz', ?_⟩
    by_cases hlt : i < n
    · rw [if_pos hlt] at hzy
      rw [if_neg (by omega)] at hyz
      rw [if_pos (by omega)]
      exact hzy.of_alike hyz
    · rw [if_neg hlt] at hzy
      by_cases he : i = n
      · rw [if_pos he] at hyz
        rw [if_pos (by omega)]
        exact hzy.judged hyz
      · rw [if_neg he] at hyz
        rw [if_neg (by omega)]
        exact hzy.trans hyz

theorem Run.judgeAll_get (e : Env) {i : Nat} {r : Run} {z : StepRecord} (h : r.steps[i]? = some z) :
    ∃ z', (r.judgeAll e).steps[i]? = some z' ∧ z.Judged e z' := by
  obtain ⟨z', hz, hj⟩ := Run.judgeFirst_get e r.steps.length i h
  rw [if_pos (List.getElem?_eq_some_iff.mp h).1] at hj
  exact ⟨z', hz, hj⟩

/-! ## Recording -/

/-- The marks of a step's members when door d answers step k with o: this is step i + 1. -/
def recorded (d : DoorNo) (k i : Nat) (o : DoorOutcome) (m : Member) : Member :=
  if m.door = d ∧ ((i = k - 1 ∧ m.mark = .nothing) ∨ (k ≤ i ∧ m.mark = .following k)) then { m with mark := .outcome o } else m

theorem Run.record_get {d : DoorNo} (k : Nat) (o : DoorOutcome) {i : Nat} {r : Run} {z : StepRecord}
    (h : r.steps[i]? = some z) :
    (r.record d k o).steps[i]? = some { z with members := z.members.map (recorded d k i o) } := by
  have hmod : (r.modStep k (fun s => s.remark d (fun m => m == .nothing) (.outcome o))).steps[i]?
      = some (if i = k - 1 then z.remark d (fun m => m == .nothing) (.outcome o) else z) := by
    refine (List.getElem?_modify ..).trans ?_
    rw [h]
    exact congrArg some (by simp only [eq_comm])
  have hstep : (r.record d k o).steps[i]? = some (if k < i + 1
      then (if i = k - 1 then z.remark d (fun m => m == .nothing) (.outcome o) else z).remark d (fun m => m == .following k) (.outcome o)
      else if i = k - 1 then z.remark d (fun m => m == .nothing) (.outcome o) else z) := by
    unfold Run.record
    dsimp only
    rw [List.getElem?_map, List.getElem?_zipIdx, hmod]
    simp only [Option.map_some, Nat.zero_add]
  rw [hstep]
  have marks (f : Member → Member) (hf : ∀ m, f m = recorded d k i o m) :
      ({ z with members := z.members.map f } : StepRecord) = { z with members := z.members.map (recorded d k i o) } :=
    congrArg (fun ms => ({ z with members := ms } : StepRecord)) (List.map_congr_left fun m _ => hf m)
  refine congrArg some ?_
  by_cases hlt : k < i + 1
  · rw [if_pos hlt]
    have hki : k ≤ i := by omega
    by_cases hi : i = k - 1
    · rw [if_pos hi]
      have hz : i = 0 := by omega
      have hk : k = 0 := by omega
      subst hz hk
      refine .trans ?_ (marks ((fun m => if m.door == d && m.mark == .following 0 then { m with mark := .outcome o } else m) ∘
        (fun m => if m.door == d && m.mark == .nothing then { m with mark := .outcome o } else m)) fun m => ?_)
      · simp only [StepRecord.remark, List.map_map]
      · cases hm : m.mark <;> by_cases hd : m.door = d <;> simp [recorded, hm, hd]
    · rw [if_neg hi]
      exact marks (fun m => if m.door == d && m.mark == .following k then { m with mark := .outcome o } else m) fun m => by
        simp [recorded, hi, hki]
  · rw [if_neg hlt]
    have hki : ¬ k ≤ i := by omega
    by_cases hi : i = k - 1
    · rw [if_pos hi]
      exact marks (fun m => if m.door == d && m.mark == .nothing then { m with mark := .outcome o } else m) fun m => by
        simp [recorded, ← hi, hki]
    · rw [if_neg hi]
      have hsame : z.members.map id = z.members := List.map_id _
      refine .trans ?_ (marks id fun m => by simp [recorded, hi, hki])
      rw [hsame]

theorem Run.record_length (d : DoorNo) (k : Nat) (o : DoorOutcome) (r : Run) :
    (r.record d k o).steps.length = r.steps.length := by
  simp [Run.record]

/-- The step awaits the door's outcome. -/
theorem StepRecord.awaits_iff (z : StepRecord) (d : DoorNo) :
    z.awaits d = true ↔ ∃ m ∈ z.members, m.door = d ∧ m.mark = .nothing := by
  simp [StepRecord.awaits, List.any_eq_true]

theorem recordOutcome_awaited (e : Env) {d : DoorNo} {k : Nat} (o : DoorOutcome) {g : Segment} {r : Run} {z : StepRecord}
    (hr : g.seqr.run = some r) (hz : r.steps[k - 1]? = some z) (ha : z.awaits d = true) :
    recordOutcome e d k o g = { g with seqr := { g.seqr with run := some ((r.record d k o).judgeAll e) } } := by
  have hstep : r.step k = some z := hz
  simp only [recordOutcome, hr, hstep, if_pos ha]

theorem recordOutcome_unawaited (e : Env) {d : DoorNo} {k : Nat} (o : DoorOutcome) {g : Segment}
    (h : ∀ r, g.seqr.run = some r → ∀ z, r.steps[k - 1]? = some z → z.awaits d = false) : recordOutcome e d k o g = g := by
  unfold recordOutcome
  split
  · rfl
  · next r hr =>
    split
    · rfl
    · next z hz => rw [if_neg (by simp [h r hr z hz])]

/-- A step's outcome recorded, and the steps judged. -/
theorem Run.recorded_get (e : Env) {d : DoorNo} (k : Nat) (o : DoorOutcome) {i : Nat} {r : Run} {z : StepRecord}
    (h : r.steps[i]? = some z) : ∃ z', ((r.record d k o).judgeAll e).steps[i]? = some z'
      ∧ ({ z with members := z.members.map (recorded d k i o) } : StepRecord).Judged e z' :=
  Run.judgeAll_get e (Run.record_get k o h)

end Sys2Proof.Machine
end

section
/-! A step begins: what its record is from then on (R142, R145), and the statement about the step timers. -/

namespace Sys2Proof.Machine

/-! ## The record of a step that has begun -/

/-- A step's record from its begin on: its start minute, its members, and whether it is still active or has ended since, all its members
having answered; `was` is the end minute before. -/
structure StepRecord.Begun (e : Env) (ds : List DoorNo) (was : Option Nat) (z : StepRecord) : Prop where
  startMinute : z.startMinute = some e.minute
  doors : z.members.map (fun m => m.door) = ds
  runs : (z.state = .active ∧ z.doneMinute = was) ∨ (z.state = .done ∧ z.doneMinute = some e.minute ∧ z.answered = true)

section

variable {e : Env} {ds : List DoorNo} {was : Option Nat} {z z' : StepRecord}

theorem StepRecord.Begun.judged (h : z.Begun e ds was) (k : z.Judged e z') : z'.Begun e ds was := by
  have hans : z'.answered = z.answered := by rw [StepRecord.answered, StepRecord.answered, k.members]
  refine ⟨k.startMinute.trans h.startMinute, by rw [k.members, h.doors], ?_⟩
  rcases h.runs with ⟨ha, hd⟩ | ⟨hs, hd, hm⟩
  · by_cases hm : z.answered = true
    · obtain ⟨hs, hd⟩ := k.ends ha hm
      exact .inr ⟨hs, hd, hans.trans hm⟩
    · obtain ⟨hs, hd'⟩ := k.stands (fun hc => hm hc.2)
      exact .inl ⟨hs.trans ha, hd'.trans hd⟩
  · obtain ⟨hs', hd'⟩ := k.stands (fun hc => StepState.noConfusion (hs.symm.trans hc.1))
    exact .inr ⟨hs'.trans hs, hd'.trans hd, hans.trans hm⟩

theorem StepRecord.Begun.alike (h : z.Begun e ds was) (k : z.Alike z') : z'.Begun e ds was where
  startMinute := k.startMinute.trans h.startMinute
  doors := by rw [k.members, h.doors]
  runs := by rw [k.state, k.doneMinute, k.answered]; exact h.runs

/-- Marks move, but no outcome does. -/
theorem StepRecord.Begun.remarked (h : z.Begun e ds was) {f : Member → Member} (hdoor : ∀ m, (f m).door = m.door)
    (hout : ∀ m o, m.mark = .outcome o → f m = m) : ({ z with members := z.members.map f } : StepRecord).Begun e ds was := by
  refine ⟨h.startMinute, ?_, h.runs.imp id fun ⟨hs, hd, hm⟩ => ⟨hs, hd, ?_⟩⟩
  · rw [← h.doors, List.map_map]
    exact List.map_congr_left fun m _ => hdoor m
  · rw [StepRecord.answered_iff] at hm ⊢
    intro m hmem
    obtain ⟨m', hm', rfl⟩ := List.mem_map.mp hmem
    obtain ⟨o, ho⟩ := hm m' hm'
    exact ⟨o, by rw [hout m' o ho, ho]⟩

theorem StepRecord.Begun.recorded (h : z.Begun e ds was) (d : DoorNo) (k i : Nat) (o : DoorOutcome) :
    ({ z with members := z.members.map (recorded d k i o) } : StepRecord).Begun e ds was := by
  refine h.remarked (fun m => ?_) (fun m o' ho => if_neg ?_)
  · unfold Machine.recorded
    split <;> rfl
  · simp [ho]

/-- Judged after it has begun, a step is DONE exactly when its members have all answered. -/
theorem StepRecord.Begun.done_iff (h : z.Begun e ds was) (k : z.Judged e z') : z'.state = .done ↔ z'.answered = true := by
  have hans : z'.answered = z.answered := by rw [StepRecord.answered, StepRecord.answered, k.members]
  rw [hans]
  rcases h.runs with ⟨ha, -⟩ | ⟨hs, -, hm⟩
  · refine ⟨fun hd => ?_, fun hm => (k.ends ha hm).1⟩
    by_contra hm
    exact StepState.noConfusion (((k.stands fun hc => hm hc.2).1.trans ha).symm.trans hd)
  · exact ⟨fun _ => hm, fun _ => (k.stands fun hc => StepState.noConfusion (hs.symm.trans hc.1)).1.trans hs⟩

end

/-- The active run holds a begun record of step i + 1. -/
def HoldsBegun (e : Env) (ds : List DoorNo) (was : Option Nat) (i : Nat) (q : Sequencer) : Prop :=
  ∃ r z, q.run = some r ∧ r.steps[i]? = some z ∧ z.Begun e ds was

theorem recordOutcome_holdsBegun {e : Env} {ds : List DoorNo} {was : Option Nat} {i : Nat} {d : DoorNo} {k : Nat} {o : DoorOutcome}
    {g : Segment} (h : HoldsBegun e ds was i g.seqr) : HoldsBegun e ds was i (recordOutcome e d k o g).seqr := by
  obtain ⟨r, z, hr, hz, hb⟩ := h
  by_cases ha : ∃ y, r.steps[k - 1]? = some y ∧ y.awaits d = true
  · obtain ⟨y, hy, ha⟩ := ha
    obtain ⟨z', hz', hj⟩ := Run.recorded_get e (d := d) k o hz
    rw [recordOutcome_awaited e o hr hy ha]
    exact ⟨_, z', rfl, hz', (hb.recorded d k i o).judged hj⟩
  · rw [recordOutcome_unawaited e o fun r' hr' y hy => by
      obtain rfl : r = r' := Option.some.inj (hr.symm.trans hr')
      exact Bool.eq_false_iff.mpr fun hay => ha ⟨y, hy, hay⟩]
    exact ⟨r, z, hr, hz, hb⟩

theorem markFollowing_holdsBegun {e : Env} {ds : List DoorNo} {was : Option Nat} {i : Nat} {d : DoorNo} {k j : Nat}
    {g : Segment} (h : HoldsBegun e ds was i g.seqr) : HoldsBegun e ds was i (markFollowing d k j g).seqr := by
  obtain ⟨r, z, hr, hz, hb⟩ := h
  refine ⟨_, _, congrArg (Option.map _) hr, (List.getElem?_modify ..).trans (congrArg _ hz), ?_⟩
  dsimp only
  split
  · refine hb.remarked (fun m => ?_) (fun m o ho => if_neg (by simp [ho]))
    split <;> rfl
  · exact hb

/-- A predicate of the sequencer that stands the recording of outcomes and the marking stands the classification of a member. -/
theorem classify_keeps {e : Env} {Q : Sequencer → Prop} (hQ : ∀ {d k o g}, Q g.seqr → Q (recordOutcome e d k o g).seqr)
    (hM : ∀ {d k j g}, Q g.seqr → Q (markFollowing d k j g).seqr) {p : Fin 8} {k : Nat} {d : DoorNo} {g : Segment} (h : Q g.seqr) :
    Q (classify e p k d g).seqr := by
  have I := recordWork hQ
  unfold classify; dsimp only
  split
  · exact hQ h
  · split
    · exact I.targetSet trivial h
    · split
      · exact hQ h
      · split
        · exact hQ h
        · split
          · split
            · exact hM h
            · exact I.targetSet trivial h
          · exact I.targetSet trivial h

/-- The record of a step as it begins (R142). -/
def StepRecord.begin (e : Env) (ds : List DoorNo) (z : StepRecord) : StepRecord :=
  { z with state := .active, due := false, remaining := 0, startMinute := some e.minute
           members := ds.map (fun d => ⟨d, .nothing⟩) }

theorem StepRecord.begin_begun (e : Env) (ds : List DoorNo) (z : StepRecord) : (z.begin e ds).Begun e ds z.doneMinute :=
  ⟨rfl, by simp [StepRecord.begin, Function.comp_def], .inl ⟨rfl, rfl⟩⟩

/-- What the members of a step that begins are classified in. -/
def Run.begins (e : Env) (k : Nat) (r : Run) : Run :=
  let started := r.modStep k (StepRecord.begin e (groupMembers e (e.stepEntry r.program k).localGroup))
  if (e.stepEntry r.program (k + 1)).startMode = .withPrevious then started.reachBase e (k + 1) else started

theorem beginStep_eq (e : Env) (k : Nat) {g : Segment} {r : Run} (hr : g.seqr.run = some r) :
    beginStep e k g =
      let h := forDoors (groupMembers e (e.stepEntry r.program k).localGroup) (classify e r.program k)
        { g with seqr := { g.seqr with run := some (r.begins e k) } }
      { h with seqr := { h.seqr with run := h.seqr.run.map (fun r => r.judgeAll e) } } := by
  unfold beginStep
  rw [hr]
  rfl

theorem Run.begins_get (e : Env) {k : Nat} {r : Run} {z : StepRecord} (hz : r.steps[k - 1]? = some z) :
    ∃ z', (r.begins e k).steps[k - 1]? = some z'
      ∧ z'.Begun e (groupMembers e (e.stepEntry r.program k).localGroup) z.doneMinute := by
  have started : (r.modStep k (StepRecord.begin e (groupMembers e (e.stepEntry r.program k).localGroup))).steps[k - 1]?
      = some (z.begin e (groupMembers e (e.stepEntry r.program k).localGroup)) :=
    (List.getElem?_modify_eq ..).trans (congrArg _ hz)
  unfold Run.begins
  dsimp only
  split
  · obtain ⟨z', hz', ha⟩ := Run.reachBase_get e (k + 1) (k - 1) started
    exact ⟨z', hz', (z.begin_begun e _).alike ha⟩
  · exact ⟨_, started, z.begin_begun e _⟩

theorem beginStep_holds (e : Env) {k : Nat} {g : Segment} {r : Run} {z : StepRecord} (hr : g.seqr.run = some r)
    (hz : r.steps[k - 1]? = some z) : ∃ r' z', (beginStep e k g).seqr.run = some r' ∧ r'.steps[k - 1]? = some z'
      ∧ z'.Begun e (groupMembers e (e.stepEntry r.program k).localGroup) z.doneMinute
      ∧ (z'.state = .done ↔ z'.answered = true) := by
  obtain ⟨y, hy, hb⟩ := Run.begins_get e hz
  obtain ⟨r1, z1, hr1, hz1, hb1⟩ : HoldsBegun e (groupMembers e (e.stepEntry r.program k).localGroup) z.doneMinute (k - 1)
      (forDoors (groupMembers e (e.stepEntry r.program k).localGroup) (classify e r.program k)
        { g with seqr := { g.seqr with run := some (r.begins e k) } }).seqr :=
    EngineWork.forDoors (P := fun h => HoldsBegun e _ z.doneMinute (k - 1) h.seqr)
      (fun d _ h hh => classify_keeps recordOutcome_holdsBegun markFollowing_holdsBegun hh) ⟨_, y, rfl, hy, hb⟩
  obtain ⟨z', hz', hj⟩ := Run.judgeAll_get e hz1
  rw [beginStep_eq e k hr]
  exact ⟨_, z', congrArg (Option.map _) hr1, hz', hb1.judged hj, hb1.done_iff hj⟩

/-! ## The step timers -/

theorem Segment.setRun_self {g : Segment} {r : Run} (h : g.seqr.run = some r) : { g with seqr := { g.seqr with run := some r } } = g := by
  rw [← h]

/-- A step of the active run changed, where there is one. -/
theorem mapStep_some {g : Segment} {r : Run} {z : StepRecord} {k : Nat} (hr : g.seqr.run = some r) (hz : r.steps[k - 1]? = some z)
    (f : StepRecord → StepRecord) : { g with seqr := { g.seqr with run := g.seqr.run.map (fun r => r.modStep k f) } }
      = { g with seqr := { g.seqr with run := some { r with steps := r.steps.set (k - 1) (f z) } } } := by
  rw [hr, Option.map_some, Run.modStep, modify_of_get hz]

theorem set_of_get {α : Type} {l : List α} {i : Nat} {a : α} (h : l[i]? = some a) : l.set i a = l := by
  obtain ⟨hi, rfl⟩ := List.getElem?_eq_some_iff.mp h
  exact List.set_getElem_self hi

theorem mapStep_same {g : Segment} {r : Run} {z : StepRecord} {k : Nat} (hr : g.seqr.run = some r) (hz : r.steps[k - 1]? = some z)
    {f : StepRecord → StepRecord} (hf : f z = z) :
    { g with seqr := { g.seqr with run := g.seqr.run.map (fun r => r.modStep k f) } } = g := by
  rw [mapStep_some hr hz, hf, set_of_get hz]
  exact Segment.setRun_self hr

theorem mapStep_none {g : Segment} {r : Run} {k : Nat} (hr : g.seqr.run = some r) (hz : r.steps[k - 1]? = none)
    (f : StepRecord → StepRecord) : { g with seqr := { g.seqr with run := g.seqr.run.map (fun r => r.modStep k f) } } = g := by
  rw [hr, Option.map_some, Run.modStep, modify_of_none hz]
  exact Segment.setRun_self hr

theorem mapStep_idle {g : Segment} (hr : g.seqr.run = none) (f : Run → Run) :
    { g with seqr := { g.seqr with run := g.seqr.run.map f } } = g := by
  rw [hr, Option.map_none, ← hr]

theorem stepTimers_idle {s : State} (hpow : s.power = .running) (hr : s.seg.seqr.run = none) (k : Nat) :
    exec (.stepOffsetSecond k) s = .next s ∧ exec (.stepStart k) s = .next s :=
  ⟨congrArg Host.Outcome.next ((runSegment_same _ s hpow (mapStep_idle hr _)).trans (settled_of_no_run s hr)),
    congrArg Host.Outcome.next ((runSegment_same _ s hpow (mapStep_idle hr _)).trans (settled_of_no_run s hr))⟩

end Sys2Proof.Machine
end

section
/-! The step timers and the begin of a step (R141 to R146, R154), as the obligation has them. -/

namespace Sys2Proof.Machine

theorem stepTimers_changes {s : State} (hpow : s.power = .running) {k : Nat} {r : Run} (hr : s.seg.seqr.run = some r)
    {z : StepRecord} (hz : r.steps[k - 1]? = some z) (f : StepRecord → StepRecord) :
    runSegment (fun _ g => { g with seqr := { g.seqr with run := g.seqr.run.map (fun r => r.modStep k f) } }) s
      = settled { s with seg := { s.seg with seqr := { s.seg.seqr with
          run := some { r with steps := r.steps.set (k - 1) (f z) } } } } := by
  rw [runSegment_eq _ s hpow, mapStep_some hr hz]

/-- The second of a step's offset, for the step that it meets. -/
def StepRecord.second (hold : Bool) (z : StepRecord) : StepRecord :=
  if z.state = .delaying ∧ z.baseReached then
    if hold then { z with sub := 0 } else { z with sub := 0, remaining := z.remaining - 1, due := z.remaining ≤ 1 }
  else z

def StepRecord.start (hold : Bool) (z : StepRecord) : StepRecord :=
  if z.state = .delaying ∧ z.baseReached ∧ !hold then { z with due := true } else z

section

variable {s : State} (hpow : s.power = .running) {k : Nat} {r : Run} (hr : s.seg.seqr.run = some r)

include hpow hr

theorem stepOffsetSecond_some {z : StepRecord} (hz : r.steps[k - 1]? = some z) : exec (.stepOffsetSecond k) s
    = .next (settled { s with seg := { s.seg with seqr := { s.seg.seqr with
        run := some { r with steps := r.steps.set (k - 1) (z.second s.env.hold) } } } }) :=
  congrArg Host.Outcome.next ((runSegment_eq _ s hpow).trans
    (congrArg (fun g => settled { s with seg := g }) (mapStep_some hr hz (StepRecord.second s.env.hold))))

theorem stepStart_some {z : StepRecord} (hz : r.steps[k - 1]? = some z) : exec (.stepStart k) s
    = .next (settled { s with seg := { s.seg with seqr := { s.seg.seqr with
        run := some { r with steps := r.steps.set (k - 1) (z.start s.env.hold) } } } }) :=
  congrArg Host.Outcome.next ((runSegment_eq _ s hpow).trans
    (congrArg (fun g => settled { s with seg := g }) (mapStep_some hr hz (StepRecord.start s.env.hold))))

theorem stepOffsetSecond_same {z : StepRecord} (hz : r.steps[k - 1]? = some z) (hf : z.second s.env.hold = z) :
    exec (.stepOffsetSecond k) s = .next (settled s) :=
  congrArg Host.Outcome.next (runSegment_same _ s hpow (mapStep_same hr hz hf))

theorem stepStart_same {z : StepRecord} (hz : r.steps[k - 1]? = some z) (hf : z.start s.env.hold = z) :
    exec (.stepStart k) s = .next (settled s) :=
  congrArg Host.Outcome.next (runSegment_same _ s hpow (mapStep_same hr hz hf))

theorem stepTimers_none (hz : r.steps[k - 1]? = none) :
    exec (.stepOffsetSecond k) s = .next (settled s) ∧ exec (.stepStart k) s = .next (settled s) :=
  ⟨congrArg Host.Outcome.next (runSegment_same _ s hpow (mapStep_none hr hz _)),
    congrArg Host.Outcome.next (runSegment_same _ s hpow (mapStep_none hr hz _))⟩

end

/-- SWEEP_HOLD is in force or not. -/
theorem hold_true {e : Env} (h : e.siteInForce = .sweepHold) : e.hold = true := by simp [Env.hold, h]

theorem hold_false {e : Env} (h : e.siteInForce ≠ .sweepHold) : e.hold = false := by simp [Env.hold, h]

/-- No step is due: none begins. -/
theorem Run.firstDue_none {r : Run} (h : ∀ z ∈ r.steps, z.due = false) : r.firstDue = none := by
  unfold Run.firstDue
  rw [List.find?_eq_none]
  intro k _
  split
  · next z hz => simp [h z (List.mem_of_getElem? hz)]
  · simp

/-- An outcome recorded for a step that awaits it, as R144 and R145 have it. -/
theorem recordOutcome_steps (e : Env) (d : DoorNo) (k : Nat) (o : DoorOutcome) (r : Run) {i : Nat} {z : StepRecord}
    (hz : r.steps[i]? = some z) : ∃ z', ((r.record d k o).judgeAll e).steps[i]? = some z'
      ∧ z'.startMinute = z.startMinute ∧ z'.members = z.members.map (recorded d k i o)
      ∧ (z.state = .active ∧ (∀ m ∈ z'.members, ∃ o, m.mark = .outcome o) → z'.state = .done ∧ z'.doneMinute = some e.minute)
      ∧ (¬(z.state = .active ∧ (∀ m ∈ z'.members, ∃ o, m.mark = .outcome o)) →
          z'.state = z.state ∧ z'.doneMinute = z.doneMinute) := by
  obtain ⟨z', hz', hj⟩ := Run.recorded_get e (d := d) k o hz
  have hans : (∀ m ∈ z'.members, ∃ o, m.mark = .outcome o)
      ↔ ({ z with members := z.members.map (recorded d k i o) } : StepRecord).answered = true := by
    rw [hj.members, StepRecord.answered_iff]
  refine ⟨z', hz', hj.startMinute, hj.members, ?_⟩
  rw [hans]
  exact ⟨fun ⟨ha, hm⟩ => hj.ends ha hm, hj.stands⟩

/-- The outcomes that a summary counts (R154). -/
theorem Run.summarise_counts (e : Env) (ending : Ending) (r : Run) : (r.summarise e ending).counts
    = DoorOutcome.all.map (fun o => (r.steps.flatMap (fun z => z.members)).countP (fun m => m.mark == .outcome o)) := by
  refine List.map_congr_left fun o _ => ?_
  rw [List.countP_flatMap]
  exact congrArg List.sum (List.map_congr_left fun z _ => (List.countP_eq_length_filter).symm)

theorem markFollowing_eq (d : DoorNo) (k j : Nat) (g : Segment) : markFollowing d k j g = { g with
    seqr := { g.seqr with run := g.seqr.run.map (fun r => { r with
      steps := r.steps.modify (k - 1) (fun z => { z with members := z.members.map (fun m =>
        if m.door = d ∧ m.mark = .nothing then { m with mark := .following j } else m) }) }) } } := by
  unfold markFollowing Run.modStep StepRecord.remark
  simp only [Bool.and_eq_true, beq_iff_eq]

theorem owes_eq (x : Engine) : x.owes = x.owed.or (x.pendingTarget.bind (fun q => q.owed)) := by
  unfold Engine.owes
  cases x.owed <;> cases x.pendingTarget <;> rfl

/-- The classes of a step's members, in the order of R142. -/
theorem classify_cases (e : Env) (p : Fin 8) (k : Nat) (d : DoorNo) (g : Segment) :
    let x := (g.door d).eng
    let posture := (e.programKind p).posture
    let exempt : Prop := (effectiveExemption g.exemptions (e.doorEntry d)).any (fun keep => keep != posture) = true
    let t := classify e p k d g
    (x.state = .outOfService → t = recordOutcome e d k .absent g)
    ∧ (x.state = .lost → t = targetSet e d posture (stepParams e p k) (some k) g)
    ∧ (x.state ≠ .outOfService → x.state ≠ .lost →
      (exempt → t = recordOutcome e d k .exempt g)
      ∧ (¬ exempt → x.state = posture.state → t = recordOutcome e d k .already g)
      ∧ (¬ exempt → x.state ≠ posture.state →
        (∀ j, x.owes.filter (fun j => decide (j < k)) = some j → t = markFollowing d k j g)
        ∧ (x.owes.filter (fun j => decide (j < k)) = none → t = targetSet e d posture (stepParams e p k) (some k) g))) := by
  dsimp only
  unfold classify
  dsimp only
  refine ⟨fun h => if_pos h, fun h => ?_, fun ho hl => ?_⟩
  · rw [if_neg (by simp [h]), if_pos h]
  rw [if_neg ho, if_neg hl]
  refine ⟨fun h => if_pos h, fun hx h => ?_, fun hx h => ?_⟩
  · rw [if_neg hx, if_pos h]
  rw [if_neg hx, if_neg h]
  cases hw : (g.door d).eng.owes with
  | none => exact ⟨fun j hj => by simp at hj, fun _ => rfl⟩
  | some j =>
    dsimp only
    by_cases hjk : j < k
    · rw [if_pos hjk]
      exact ⟨fun j' hj' => by simp [Option.filter, hjk] at hj'; rw [hj'], fun hn => by simp [Option.filter, hjk] at hn⟩
    · rw [if_neg hjk]
      exact ⟨fun j' hj' => by simp [Option.filter, hjk] at hj', fun _ => rfl⟩

/-- The posture that a program's kind gives its doors. -/
theorem programKind_posture (e : Env) (p : Fin 8) :
    (e.programKind p).posture = if (e.stepEntry p 1).kind = .lockup then Posture.secured else .released := by
  unfold Env.programKind
  cases (e.stepEntry p 1).kind <;> rfl

theorem exempt_iff (a : Option Posture) (k : ProgramKind) :
    a.any (fun keep => keep != k.posture) = true ↔ a = some (if k = .lockup then Posture.released else .secured) := by
  cases a with
  | none => simp
  | some q => cases q <;> cases k <;> decide

theorem stepParams_eq (e : Env) (p : Fin 8) (k : Nat) :
    stepParams e p k = if (e.stepEntry p 1).kind = .lockup then (e.stepEntry p k).params else e.work.segment.value.params := by
  unfold stepParams Env.programKind
  cases (e.stepEntry p 1).kind <;> rfl

end Sys2Proof.Machine

namespace Sys2Proof

open Machine

/-- Settles O60: the step timers by the step that they meet; the begin of a step through the records that its members leave; the rest
case by case. -/
theorem stepTimers : Obligations.StepTimers := by
  refine ⟨fun k s hpow _ => ⟨fun hr => stepTimers_idle hpow hr k, fun r hr => ⟨fun z hz => ⟨fun hn => ?_, fun hs hb hh => ?_,
    fun hs hb hh => ?_⟩, stepTimers_none hpow hr⟩⟩, settle_of_no_run, fun e g r hr hd ⟨z, hz, hs⟩ => ?_, fun e k g r z hr _ hz => ?_,
    fun e k g r z hr _ hz => ?_, fun e p k d g => ?_, fun e d k o g _ => ?_, fun e ending r => ?_, fun e r g => ?_⟩
  · exact ⟨stepOffsetSecond_same hpow hr hz (if_neg hn), stepStart_same hpow hr hz (if_neg fun h => hn ⟨h.1, h.2.1⟩)⟩
  · have second : z.second s.env.hold = { z with sub := 0 } := by simp [StepRecord.second, hs, hb, hold_true hh]
    refine ⟨?_, stepStart_same hpow hr hz (by simp [StepRecord.start, hold_true hh])⟩
    rw [stepOffsetSecond_some hpow hr hz, second]
  · have second : z.second s.env.hold = { z with sub := 0, remaining := z.remaining - 1, due := decide (z.remaining ≤ 1) } := by
      simp [StepRecord.second, hs, hb, hold_false hh]
    have start : z.start s.env.hold = { z with due := true } := by simp [StepRecord.start, hs, hb, hold_false hh]
    rw [stepOffsetSecond_some hpow hr hz, stepStart_some hpow hr hz, second, start]
    exact ⟨rfl, rfl⟩
  · refine settle_at_rest e g r hr (Run.firstDue_none hd) (Bool.eq_false_iff.mpr fun h => hs ?_)
    exact eq_of_beq (List.all_eq_true.mp h z hz)
  · obtain ⟨r', z', hr', hz', hb, hdone⟩ := beginStep_holds e hr hz
    obtain ⟨r'', hr'', hp, hm, hl⟩ := (beginStep_sameRun e k g).runs r hr
    obtain rfl : r' = r'' := Option.some.inj (hr'.symm.trans hr'')
    refine ⟨r', z', hr', hp, hm, hl, hz', hb.startMinute, hb.doors, ?_, hdone.trans z'.answered_iff, fun hs => ?_, fun hs => ?_⟩
    · exact hb.runs.imp And.left And.left
    · rcases hb.runs with ⟨ha, -⟩ | ⟨-, hd, -⟩
      exacts [StepState.noConfusion (hs.symm.trans ha), hd]
    · rcases hb.runs with ⟨-, hd⟩ | ⟨ha, -, -⟩
      exacts [hd, StepState.noConfusion (hs.symm.trans ha)]
  · rw [beginStep_eq e k hr]
    have hsteps : r.begins e k = { r with steps := (if (e.stepEntry r.program (k + 1)).startMode = .withPrevious
        then (r.steps.set (k - 1) (z.begin e (groupMembers e (e.stepEntry r.program k).localGroup))).modify k (fun y =>
          if y.baseReached then y else { y with baseReached := true, sub := 0, due := y.remaining == 0 && !e.hold })
        else r.steps.set (k - 1) (z.begin e (groupMembers e (e.stepEntry r.program k).localGroup))) } := by
      unfold Run.begins Run.modStep
      rw [modify_of_get hz]
      dsimp only
      split <;> rfl
    rw [hsteps]
    rfl
  · have classes := classify_cases e p k d g
    simp only [exempt_iff, markFollowing_eq, owes_eq] at classes
    rw [programKind_posture, stepParams_eq] at classes
    exact classes
  · refine ⟨fun hn => recordOutcome_unawaited e o fun r hr z hz => Bool.eq_false_iff.mpr fun ha =>
      hn r hr ⟨z, hz, (z.awaits_iff d).mp ha⟩, fun r hr ⟨z, hz, ha⟩ => ?_⟩
    obtain ⟨hm, hl⟩ := (r.record d k o).judgeAll_startMinute_length e
    exact ⟨_, recordOutcome_awaited e o hr hz ((z.awaits_iff d).mpr ha), Run.judgeAll_program .., hm, hl.trans (r.record_length d k o),
      fun i z hz => recordOutcome_steps e d k o r hz⟩
  · exact ⟨rfl, rfl, rfl, rfl, List.countP_eq_length_filter.symm, r.summarise_counts e ending⟩
  · refine ⟨fun hq => ?_, fun p ps hq => ?_⟩
    · simp only [completeRun, hq]
    · simp only [completeRun, hq]

end Sys2Proof
end

section
/-! ABORT_RUN (R150, R151): what an aborted door owes is answered, and no other door comes to owe anything. -/

namespace Sys2Proof.Machine

/-! ## What a door owes -/

theorem owes_congr {x y : Engine} (ho : y.owed = x.owed) (hp : y.pendingTarget = x.pendingTarget) : y.owes = x.owes := by
  rw [owes_eq, owes_eq, ho, hp]

theorem owes_none_iff {x : Engine} : x.owes = none ↔ x.owed = none ∧ x.pendingTarget.bind (fun q => q.owed) = none := by
  rw [owes_eq, Option.or_eq_none_iff]

theorem granted_owes (p : ProfileEntry) (x : Door) : (x.granted p).eng.owes = x.eng.owes := by
  unfold Door.granted
  dsimp only
  split
  · split <;> exact owes_congr rfl rfl
  · exact owes_congr rfl rfl

theorem reverted_owes (p : ProfileEntry) (x : Door) : (x.reverted p).eng.owes = x.eng.owes := owes_congr rfl rfl

theorem budgeted_owes {x : Door} (h : x.eng.owes = none) : x.budgeted.eng.owes = none :=
  owes_none_iff.mpr ⟨rfl, (owes_none_iff.mp h).2⟩

/-- Where one door is worked on and comes to owe nothing, no door owes more than before. -/
theorem owes_none_of_only {d j : DoorNo} {g h : Segment} (only : OnlyDoor j g h)
    (own : (g.door j).eng.owes = none → (h.door j).eng.owes = none) (hd : (g.door d).eng.owes = none) : (h.door d).eng.owes = none := by
  by_cases hj : d = j
  · subst hj
    exact own hd
  · rw [only d hj]
    exact hd

theorem only_dequeue (d : DoorNo) (g : Segment) : OnlyDoor d g (dequeue d g) := fun _ _ => rfl

theorem revert_only (e : Env) (d : DoorNo) (g : Segment) : OnlyDoor d g (revert e d g) :=
  (onlyDoorWork e d g).revert rfl (.refl d g)

theorem consider_owes {e : Env} {d : DoorNo} {g : Segment} (h : (g.door d).eng.owes = none) :
    ((consider e g).door d).eng.owes = none := by
  refine consider_keeps (P := fun g => (g.door d).eng.owes = none) (fun {g} q _ hg => ?_) (fun {g} q _ hg => ?_) h
  · refine owes_none_of_only ((onlyDoorWork e q.door g).grant rfl (.refl _ g)) (fun hq => ?_) hg
    rw [(grant_made e q.door g).read fun x => x.eng.owes, granted_owes, hq]
  · refine owes_none_of_only ((onlyDoorWork e q.door g).refuse rfl (.refl _ g)) (fun hq => ?_) hg
    obtain ⟨b, made⟩ := refuse_made e q.door g
    rw [made.read fun x => x.eng.owes, reverted_owes, budgeted_owes hq]

/-! ## One door aborted -/

/-- The step that a door's pending target carries. -/
def Engine.carried (x : Engine) : Option Nat := x.pendingTarget.bind (fun q => q.owed)

/-- A door's record when what it owes is answered by an abort. -/
def Door.overridden (x : Door) : Door :=
  { x with eng := { x.eng with owed := none, pendingTarget := if x.eng.carried.isSome then none else x.eng.pendingTarget } }

theorem overridden_owes (x : Door) : x.overridden.eng.owes = none := by
  refine owes_none_iff.mpr ⟨rfl, ?_⟩
  unfold Door.overridden Engine.carried
  dsimp only
  split
  · rfl
  · next h => exact Option.not_isSome_iff_eq_none.mp h

/-- The outcomes answered, the pending target that carried one dropped (R151). -/
theorem overridden_put (e : Env) (d : DoorNo) (g : Segment) : dropOwingPending e d (answerOwed e d .overridden g) =
    (answer e d (g.door d).eng.carried .overridden (answer e d (g.door d).eng.owed .overridden g)).putDoor d (g.door d).overridden := by
  generalize hx : g.door d = x
  rw [← putDoor_self g d, hx, answerOwed_put, answer_putDoor]
  have hk : (answer e d x.eng.owed .overridden (g.putDoor d x)) = answer e d x.eng.owed .overridden g := by rw [← hx, putDoor_self]
  rw [hk]
  generalize answer e d x.eng.owed .overridden g = k
  unfold dropOwingPending
  rw [door_putDoor_same]
  cases hp : x.eng.pendingTarget with
  | none =>
    have hcar : x.eng.carried = none := by simp [Engine.carried, hp]
    simp only [Door.overridden, hcar, Option.isSome_none, if_false, answer, Bool.false_eq_true, hp]
  | some q =>
    have hcar : x.eng.carried = q.owed := by simp [Engine.carried, hp]
    dsimp only
    by_cases ho : q.owed.isSome = true
    · rw [if_pos ho]
      simp only [answerPending, door_putDoor_same, hp]
      rw [putDoor_upd _ rfl, answer_putDoor, dropPending, putDoor_upd _ rfl]
      simp only [Door.overridden, hcar, if_pos ho]
    · rw [if_neg ho]
      have hno : q.owed = none := Option.not_isSome_iff_eq_none.mp ho
      simp only [Door.overridden, hcar, hno, Option.isSome_none, if_false, answer, Bool.false_eq_true, hp]

theorem overridden_eq (e : Env) (d : DoorNo) (g : Segment) : dropOwingPending e d (answerOwed e d .overridden g) =
    { g.putDoor d (g.door d).overridden with
      seqr := (answer e d (g.door d).eng.carried .overridden (answer e d (g.door d).eng.owed .overridden g)).seqr } := by
  rw [overridden_put]
  obtain ⟨q, hq⟩ : ∃ q, answer e d (g.door d).eng.owed .overridden g = { g with seqr := q } := ⟨_, answer_eq e d _ _ g⟩
  rw [hq]
  conv_lhs => rw [answer_eq e d (g.door d).eng.carried .overridden { g with seqr := q }]
  rfl

theorem overridden_door (d : DoorNo) (g : Segment) (q : Sequencer) :
    (Segment.door { g.putDoor d (g.door d).overridden with seqr := q } d) = (g.door d).overridden := door_putDoor_same ..

theorem abortDoor_eq (e : Env) (d : DoorNo) (g : Segment) : abortDoor e d g =
    let h := { g.putDoor d (g.door d).overridden with
      seqr := (answer e d (g.door d).eng.carried .overridden (answer e d (g.door d).eng.owed .overridden g)).seqr }
    if (g.door d).eng.state ∈ [DoorState.quietWait, .warning, .awaitGrant] then consider e (revert e d h) else h := by
  unfold abortDoor
  dsimp only
  rw [overridden_eq]
  generalize (answer e d (g.door d).eng.carried .overridden (answer e d (g.door d).eng.owed .overridden g)).seqr = q
  have hst : (Segment.door { g.putDoor d (g.door d).overridden with seqr := q } d).eng.state = (g.door d).eng.state :=
    (congrArg (fun x : Door => x.eng.state) (overridden_door d g q)).trans rfl
  rw [hst]
  cases (g.door d).eng.state <;> rfl

/-- An aborted door owes nothing, and no other door comes to owe anything. -/
theorem abortDoor_owes (e : Env) (d j : DoorNo) (g : Segment) (h : j = d ∨ (g.door d).eng.owes = none) :
    ((abortDoor e j g).door d).eng.owes = none := by
  rw [abortDoor_eq]
  dsimp only
  generalize (answer e j (g.door j).eng.carried .overridden (answer e j (g.door j).eng.owed .overridden g)).seqr = q
  have dropped : (Segment.door { g.putDoor j (g.door j).overridden with seqr := q } d).eng.owes = none := by
    by_cases hj : j = d
    · subst hj
      rw [overridden_door, overridden_owes]
    · exact (congrArg (fun x : Door => x.eng.owes) (door_putDoor_ne g j d _ (Ne.symm hj))).trans (h.resolve_left hj)
  split
  · refine consider_owes (owes_none_of_only (revert_only e j _) (fun hj => ?_) dropped)
    rw [(revert_made e j _).read fun x => x.eng.owes, reverted_owes, hj]
  · exact dropped

theorem abortDoor_aside {e : Env} {d j : DoorNo} {g0 g : Segment} (hj : j ≠ d) (h : Aside d g0 g) : Aside d g0 (abortDoor e j g) :=
  (asideWork e d g0).abortDoor hj h

/-! ## The run aborted -/

theorem abortDoors_owes (e : Env) (ds : List DoorNo) (g : Segment) (d : DoorNo) (h : d ∈ ds ∨ (g.door d).eng.owes = none) :
    ((forDoors ds (abortDoor e) g).door d).eng.owes = none := by
  induction ds generalizing g with
  | nil => exact h.resolve_left List.not_mem_nil
  | cons j js ih =>
    rcases h with h | h
    · rcases List.mem_cons.mp h with rfl | h
      · exact ih _ (.inr (abortDoor_owes e d d g (.inl rfl)))
      · exact ih _ (.inl h)
    · exact ih _ (.inr (abortDoor_owes e d j g (.inr h)))

/-- The doors that owe an outcome, aborted in order. -/
def abortOwing (e : Env) (g : Segment) : Segment := forDoors (owingDoors g) (abortDoor e) g

theorem mem_owingDoors {d : DoorNo} {g : Segment} : d ∈ owingDoors g ↔ (g.door d).eng.owes.isSome = true := by
  simp [owingDoors, mem_allDoors]

theorem abortOwing_owes (e : Env) (g : Segment) (d : DoorNo) : ((abortOwing e g).door d).eng.owes = none := by
  refine abortDoors_owes e _ g d ?_
  rw [mem_owingDoors]
  cases h : (g.door d).eng.owes with
  | none => exact .inr rfl
  | some k => exact .inl rfl

theorem abortOwing_door (e : Env) {g : Segment} {d : DoorNo} (ho : (g.door d).eng.owes = none) (hq : Unqueued d g) :
    (abortOwing e g).door d = g.door d := by
  have hne : ∀ j ∈ owingDoors g, j ≠ d := fun j hj hd => by
    subst hd
    rw [mem_owingDoors, ho] at hj
    exact Bool.noConfusion hj
  exact (EngineWork.forDoors (P := Aside d g) (fun j hj _ h => abortDoor_aside (hne j hj) h) (.refl hq)).door

theorem abortOwing_sameRun (e : Env) (g : Segment) : SameRun g.seqr (abortOwing e g).seqr :=
  EngineWork.forDoors (P := fun h => SameRun g.seqr h.seqr) (fun _ _ _ h => (sameRunWork e g.seqr).abortDoor trivial h) (.refl _)

theorem abortActive_run (e : Env) {g : Segment} {r : Run} (hr : g.seqr.run = some r) : ∃ r', (abortOwing e g).seqr.run = some r'
    ∧ r'.program = r.program ∧ r'.startMinute = r.startMinute
    ∧ abortActive e g = { abortOwing e g with seqr := { (abortOwing e g).seqr with
        summary := some (r'.summarise e .aborted), run := none, queue := [] } } := by
  obtain ⟨r', hr', hp, hm, -⟩ := (abortOwing_sameRun e g).runs r hr
  refine ⟨r', hr', hp, hm, ?_⟩
  unfold abortActive
  rw [hr, if_pos (by rfl)]
  show endRun e .aborted (abortOwing e g) = _
  unfold endRun
  rw [hr']

theorem abortActive_idle (e : Env) {g : Segment} (hr : g.seqr.run = none) :
    abortActive e g = { g with seqr := { g.seqr with queue := [] } } := by
  have ended : endRun e .aborted g = { g with seqr := { g.seqr with run := none, queue := [] } } := by
    unfold endRun
    rw [hr]
  unfold abortActive
  rw [if_neg (by simp [hr]), ended, ← hr]

theorem decodeCommand_abort_group (k : Fin 16) (v : BitVec 12) (e : Env) (g : Segment) :
    decodeCommand .abortRun (.localGroup k) v e g = (false, g) := rfl

theorem decodeCommand_abort (v : BitVec 12) (e : Env) (g : Segment) : decodeCommand .abortRun .segment v e g = (true, abortActive e g) := rfl

end Sys2Proof.Machine

namespace Sys2Proof

open Machine

/-- Settles O39: what the aborted doors owe is gone after each of them and comes back at none; the summary is of the run that is left. -/
theorem abortEndsRun : Obligations.AbortEndsRun := by
  refine ⟨fun x sc s h => ⟨fun hsc => ?_, fun hsc hr => ?_, fun hsc r hr => ?_⟩, abortDoor_eq⟩
  · cases sc with
    | segment => exact absurd rfl hsc
    | localGroup k => exact exec_untaken rfl h (decodeCommand_abort_group k _ _ _)
  · subst hsc
    rw [exec_taken rfl h (decodeCommand_abort _ _ _), abortActive_idle s.env hr]
    exact congrArg (fun t => Host.Outcome.next (passing _ t)) (settled_of_no_run _ hr)
  · subst hsc
    obtain ⟨r', hr', hp, hm, heq⟩ := abortActive_run s.env hr
    have hdoors (d : DoorNo) : (abortActive s.env s.seg).door d = (abortOwing s.env s.seg).door d := by rw [heq]; rfl
    have hsides : KeepsSides s.seg (abortActive s.env s.seg) := by
      obtain ⟨hx, hf, hb, hw, hfl⟩ : KeepsSides s.seg (abortOwing s.env s.seg) :=
        ((Kept.refl s.seg).forDoors fun _ _ h => h.abortDoor).sides
      rw [heq]
      exact ⟨hx, hf, hb, hw, hfl⟩
    have hidle : (abortActive s.env s.seg).seqr.run = none := by rw [heq]
    have hs : settled { s with seg := abortActive s.env s.seg } = { s with seg := abortActive s.env s.seg } :=
      settled_of_no_run _ hidle
    refine ⟨passing (acknowledge s.addressNo (commandRecord 8 x)) { s with seg := abortActive s.env s.seg }, r'.summarise s.env .aborted,
      (exec_taken rfl h (decodeCommand_abort _ _ _)).trans (congrArg (fun t => Host.Outcome.next (passing _ t)) hs), rfl, rfl, rfl, ⟨rfl, rfl, rfl⟩, hsides,
      hidle, ?_, ?_, hp, rfl, hm, rfl, fun d => ?_, fun d ho hq => ?_, fun d => hdoors d, r', hr', rfl⟩
    · show (abortActive s.env s.seg).seqr.queue = []
      rw [heq]
    · show (abortActive s.env s.seg).seqr.summary = _
      rw [heq]
    · exact (congrArg (fun y : Door => y.eng.owes) (hdoors d)).trans (abortOwing_owes s.env s.seg d)
    · exact (hdoors d).trans (abortOwing_door s.env ho hq)

end Sys2Proof
end

section
/-! FIRE_RESTORE (R156, R166, R167): the latch clears, and the doors in EGRESS return one after another. -/

namespace Sys2Proof.Machine

section
variable {e : Env} {d j : DoorNo} {g : Segment}

/-! ## The held level off -/

theorem clearBit_getLsbD (h : BitVec 6) (k : Fin 6) : (h &&& ~~~(1#6 <<< k.val)).getLsbD k.val = false := by
  have hk := k.isLt
  simp [hk]

/-- After its LOCK_DRIVE level is taken off, a door's held levels drive nothing (R166). -/
theorem heldOff_heldDrive (p : ProfileEntry) (x : Door) (y : Engine) :
    ({ x with eng := y, drop := x.drop.heldOff p } : Door).heldDrive p = false := by
  unfold Door.heldDrive Drop.heldOff
  cases p.terminalOf .lockDrive with
  | none => rfl
  | some k => exact clearBit_getLsbD _ k

/-! ## One door -/

/-- A door's record when it comes back from EGRESS. -/
def Door.restored (p : ProfileEntry) (x : Door) : Door :=
  { x with eng := { x.eng.enter .holding with target := none }, drop := x.drop.heldOff p }

theorem restored_lockLevel (p : ProfileEntry) (x : Door) (latch : Bool) : (x.restored p).lockLevel latch p = false := by
  cases latch with
  | true => rfl
  | false => exact heldOff_heldDrive p x _

theorem restored_sensedOutside (p : ProfileEntry) (x : Door) : (x.restored p).sensedOutside p = x.sensedOutside p := rfl

theorem restoreDoor_egress (hs : (g.door d).eng.state = .egress) :
    restoreDoor e d g = giveExpected e d (g.upd e d (fun x => x.restored (e.profile d))) := if_pos hs

theorem restoreDoor_else (hs : (g.door d).eng.state ≠ .egress) : restoreDoor e d g = g := if_neg hs

/-- A door in EGRESS comes back with its record restored, its supervision counts at 0 where LOCK_DRIVE was on. -/
theorem restored_upd (hl : g.fire.latch = false) (hs : (g.door d).eng.state = .egress) :
    g.upd e d (fun x => x.restored (e.profile d)) = g.putDoor d { (g.door d).restored (e.profile d) with
      sup := if (g.door d).eng.drive = true then ⟨0, 0⟩ else (g.door d).sup } := by
  have hon : (g.door d).lockLevel g.fire.latch (e.profile d) = (g.door d).eng.drive := by
    unfold Door.lockLevel
    rw [hl, hs]
    rfl
  unfold Segment.upd
  dsimp only
  rw [restored_lockLevel, hon]
  cases (g.door d).eng.drive <;> rfl

theorem upd_only (e : Env) (d : DoorNo) (f : Door → Door) (g : Segment) : OnlyDoor d g (g.upd e d f) := by
  unfold Segment.upd
  dsimp only
  split <;> exact fun i hi => door_putDoor_ne _ _ _ _ hi

theorem restoreDoor_aside {g0 : Segment} (hj : j ≠ d) (h : Aside d g0 g) : Aside d g0 (restoreDoor e j g) := by
  unfold restoreDoor
  split
  · refine (asideWork e d g0).giveExpected hj ⟨?_, ?_⟩
    · exact (upd_only e j _ g d hj.symm).trans h.door
    · exact fun q hq => h.unqueued q (by rwa [upd_queue] at hq)
  · exact h

/-! ## What the others leave -/

theorem restoreDoor_kept (e : Env) (d : DoorNo) (g : Segment) : Kept g (restoreDoor e d g) := (Kept.refl g).restoreDoor

theorem restoreDoors_aside {g0 : Segment} {ds : List DoorNo} (hd : d ∉ ds) (h : Aside d g0 g) :
    Aside d g0 (forDoors ds (restoreDoor e) g) :=
  EngineWork.forDoors (P := Aside d g0) (fun _ hj _ h => restoreDoor_aside (fun hjd => hd (hjd ▸ hj)) h) h

/-- A door that stands in no queue is restored where its turn comes, and is left alone before and after it. -/
theorem restoreDoors_door {Q : Segment → Prop} (hu : Unqueued d g)
    (turn : ∀ h, Aside d g h → Kept g h → Unqueued d (restoreDoor e d h) ∧ Q (restoreDoor e d h))
    (stays : ∀ h k, Aside d h k → Q h → Q k) : Q (forDoors allDoors (restoreDoor e) g) := by
  obtain ⟨before, after, hsplit⟩ := List.append_of_mem (mem_allDoors d)
  have hnodup : (before ++ d :: after).Nodup := hsplit ▸ List.nodup_finRange 64
  have hbefore : d ∉ before := fun hm => (List.disjoint_of_nodup_append hnodup) hm List.mem_cons_self
  have hafter : d ∉ after := (List.nodup_cons.mp (List.nodup_append.mp hnodup).2.1).1
  have heq : forDoors allDoors (restoreDoor e) g
      = forDoors after (restoreDoor e) (restoreDoor e d (forDoors before (restoreDoor e) g)) := by
    rw [hsplit]
    exact List.foldl_append
  obtain ⟨hout, hQ⟩ := turn _ (restoreDoors_aside hbefore (.refl hu)) ((Kept.refl g).forDoors fun _ _ h => h.restoreDoor)
  rw [heq]
  exact stays _ _ (restoreDoors_aside hafter (.refl hout)) hQ

/-! ## The latch clears -/

/-- The segment with the latch cleared. -/
def Segment.unlatched (g : Segment) : Segment := { g with fire := { g.fire with latch := false, cause := none } }

theorem clearLatch_eq (e : Env) (g : Segment) : clearLatch e g = forDoors allDoors (restoreDoor e) (consider e g.unlatched) := rfl

theorem clearLatch_kept (e : Env) (g : Segment) : Kept g.unlatched (clearLatch e g) :=
  ((Kept.refl g.unlatched).consider (e := e)).forDoors fun _ _ h => h.restoreDoor

/-- One door's turn, written out. -/
theorem restoreDoor_eq (e : Env) (d : DoorNo) (g : Segment) : restoreDoor e d g =
    if (g.door d).eng.state = .egress then
      let h := g.upd e d (fun x => { x with
        eng := { x.eng.enter .holding with target := none }, drop := x.drop.heldOff (e.profile d) })
      match expectedPosture e g.exemptions d with
      | some p => targetSet e d p e.catchUp none h
      | none => h
    else g := by
  unfold restoreDoor giveExpected
  rw [upd_exemptions] <;> rfl

/-- A door in EGRESS that reads its expected posture is in it when its turn is over (R167). -/
theorem clearLatch_found {p : Posture} (hs : (g.door d).eng.state = .egress) (hu : Unqueued d g)
    (hp : expectedPosture e g.exemptions d = some p) (hsense : (g.door d).sensedOutside (e.profile d) = some p) :
    ((clearLatch e g).door d).eng.state = p.state ∧ ((clearLatch e g).door d).eng.target = some p
    ∧ ((clearLatch e g).door d).eng.params = e.catchUp := by
  have haside : Aside d g.unlatched (consider e g.unlatched) := consider_aside hu
  rw [clearLatch_eq]
  refine restoreDoors_door (Q := fun h => (h.door d).eng.state = p.state ∧ (h.door d).eng.target = some p
    ∧ (h.door d).eng.params = e.catchUp) haside.unqueued (fun h ha hk => ?_) (fun h k ha hQ => by rwa [ha.door])
  have hdoor : h.door d = g.door d := ha.door.trans haside.door
  have hexp : h.exemptions = g.exemptions := hk.sides.exemptions.trans ((Kept.refl g.unlatched).consider (e := e)).sides.exemptions
  have hlatch : h.fire.latch = false :=
    congrArg Fire.latch (hk.sides.fire.trans ((Kept.refl g.unlatched).consider (e := e)).sides.fire)
  have hs' : (h.door d).eng.state = .egress := by rw [hdoor, hs]
  rw [restoreDoor_egress hs', restored_upd hlatch hs', hdoor]
  generalize hy : ({ (g.door d).restored (e.profile d) with
    sup := if (g.door d).eng.drive = true then ⟨0, 0⟩ else (g.door d).sup } : Door) = y
  have hgiven : giveExpected e d (h.putDoor d y) = targetSet e d p e.catchUp none (h.putDoor d y) := by
    unfold giveExpected
    rw [putDoor_exemptions, hexp, hp]
  have hstate : ((h.putDoor d y).door d).eng.state = .holding := by rw [door_putDoor_same, ← hy]; rfl
  have hsense' : ((h.putDoor d y).door d).sensedOutside (e.profile d) = some p := by rw [door_putDoor_same, ← hy]; exact hsense
  obtain ⟨tm, free, made⟩ := targetSet_settles (e := e) (d := d) (g := h.putDoor d y) (p := p) (ps := e.catchUp) (owed := none)
    (.inr (.inl hstate)) (.inr ha.unqueued) (.inl hsense')
  rw [hgiven]
  obtain ⟨h1, h2, -⟩ := settled_already made
  exact ⟨made.unqueued, h1, h2.1, h2.2.1⟩

/-- With the clock unknown and no door waiting, the doors in EGRESS enter HOLDING, and the others stay. -/
theorem clearLatch_unknown (hc : e.clock.second = none) (hq : g.queue = []) (d : DoorNo) :
    ((g.door d).eng.state ≠ .egress → (clearLatch e g).door d = g.door d)
    ∧ ((g.door d).eng.state = .egress → ((clearLatch e g).door d).eng.state = .holding
      ∧ ((clearLatch e g).door d).eng.target = none ∧ ((clearLatch e g).door d).lockLevel false (e.profile d) = false) := by
  have hnone (xs : List Exemption) (i : DoorNo) : expectedPosture e xs i = none := by
    unfold expectedPosture
    rw [hc]
  rw [clearLatch_eq, consider_idle (g := g.unlatched) (.inr (.inr hq))]
  obtain ⟨-, hdoor⟩ := forDoors_all (J := fun h => h.fire.latch = false) (f := restoreDoor e)
    (F := fun i x => if x.eng.state = .egress then { x.restored (e.profile i) with
      sup := if x.eng.drive = true then ⟨0, 0⟩ else x.sup } else x)
    (fun i h hl => by
      by_cases hs : (h.door i).eng.state = .egress
      · have hgiven (k : Segment) : giveExpected e i k = k := by
          unfold giveExpected
          rw [hnone]
        rw [restoreDoor_egress hs, restored_upd hl hs, hgiven, if_pos hs]
        exact ⟨hl, door_putDoor_same .., fun j hj => door_putDoor_ne _ _ _ _ hj⟩
      · rw [restoreDoor_else hs, if_neg hs]
        exact ⟨hl, rfl, .refl i h⟩) (g := g.unlatched) rfl
  rw [hdoor d]
  refine ⟨fun hs => if_neg hs, fun hs => ?_⟩
  rw [if_pos (by exact hs)]
  exact ⟨rfl, rfl, restored_lockLevel (e.profile d) (g.door d) false⟩

theorem decodeCommand_restore_untaken {sc : Scope} (h : sc ≠ .segment ∨ g.fire.reading = true ∨ g.fire.lastEmergency = true)
    (v : BitVec 12) : decodeCommand .fireRestore sc v e g = (false, g) := by
  show fireRestore e sc g = _
  cases sc with
  | localGroup k => rfl
  | segment =>
    refine if_pos ?_
    rcases h with h | h | h
    · exact absurd rfl h
    · rw [h, Bool.true_or]
    · rw [h, Bool.or_true]

theorem decodeCommand_restore (hr : g.fire.reading = false) (he : g.fire.lastEmergency = false) (v : BitVec 12) :
    decodeCommand .fireRestore .segment v e g = (true, if g.fire.latch then clearLatch e g else g) := by
  show fireRestore e .segment g = _
  unfold fireRestore
  dsimp only
  rw [hr, he, if_neg (by decide)]
  split <;> rfl

end

end Sys2Proof.Machine

namespace Sys2Proof

open Machine

/-- Settles O40: the doors' turns one after another, each of a door that the others have left alone. -/
theorem fireRestoreClearsLatch : Obligations.FireRestoreClearsLatch := by
  refine fun x sc s h => ⟨fun hn => exec_untaken rfl h (decodeCommand_restore_untaken hn _), fun hsc hr he => ?_⟩
  subst hsc
  have taken := exec_taken (c := .fireRestore x) rfl h (decodeCommand_restore (e := s.env) hr he x.argument)
  refine ⟨fun hl => ?_, fun hl => ⟨clearLatch s.env s.seg, ?_, (clearLatch_kept s.env s.seg).sides.fire, ?_, fun d hs hq p hp hsense =>
    clearLatch_found hs hq hp hsense, fun hc hq d => clearLatch_unknown (e := s.env) hc hq d⟩⟩
  · rw [hl, if_neg Bool.false_ne_true] at taken
    exact taken
  · rw [hl, if_pos rfl] at taken
    exact taken
  · rw [clearLatch_eq]
    refine congrArg (fun f => List.foldl f (consider s.env s.seg.unlatched) allDoors) (funext₂ fun g d => ?_)
    exact restoreDoor_eq s.env d g

end Sys2Proof
end

section
/-! A door leaves service (R133), and its monitor's enable is evaluated outside QUIET_WAIT (R46): exact, door by door. -/

namespace Sys2Proof.Machine

/-! ## The enable, outside QUIET_WAIT -/

/-- The record of a door whose watch is evaluated: gone where it is quiet (R82). -/
def Door.unwatched (p : ProfileEntry) (x : Door) : Door :=
  match x.mon.watch with
  | some w => if x.quiet p w then { x with mon := { x.mon with watch := none } } else x
  | none => x

/-- The record of a door whose monitor's enable goes off (R46, R78). -/
def Door.unmonitored (x : Door) : Door := { x with
  mon := { x.mon with enable := false, propped := false, lastOpen := if x.mon.isOpen then x.mon.dwell else x.mon.lastOpen }
  eng := if x.mon.propped = true ∧ x.eng.state ≠ .absent then { x.eng with live := { x.eng.live with propped := false } } else x.eng }

/-- The record of a door whose enable is found to be `now`. -/
def Door.reenabled (now : Bool) (p : ProfileEntry) (x : Door) : Door :=
  if now = x.mon.enable then x
  else if now then ({ x with mon := x.mon.enabled p x.inputs.position } : Door).unwatched p
  else x.unmonitored.unwatched p

theorem unwatched_eq (p : ProfileEntry) (x : Door) : x.unwatched p = { x with mon := { x.mon with watch := (x.unwatched p).mon.watch } } := by
  unfold Door.unwatched
  split
  · split <;> rfl
  · rfl

theorem unwatched_none {p : ProfileEntry} {x : Door} (h : x.mon.watch = none) : x.unwatched p = x := by
  unfold Door.unwatched
  rw [h]

section
variable {e : Env} {d : DoorNo} {g : Segment}

theorem evaluateWatch_put (h : (g.door d).eng.state ≠ .quietWait) :
    evaluateWatch e d g = g.putDoor d ((g.door d).unwatched (e.profile d)) := by
  unfold Door.unwatched
  cases hw : (g.door d).mon.watch with
  | none => exact (evaluateWatch_unquiet fun w h => by simp [hw] at h).trans (putDoor_self g d).symm
  | some w =>
    dsimp only
    by_cases hq : (g.door d).quiet (e.profile d) w = true
    · rw [evaluateWatch_found hw hq, if_pos hq]
      exact quietNotice_elsewhere (by rw [door_putDoor_same]; exact h)
    · rw [if_neg hq, putDoor_self]
      refine evaluateWatch_unquiet fun v hv => ?_
      obtain rfl : w = v := Option.some.inj (hw.symm.trans hv)
      exact Bool.eq_false_iff.mpr hq

theorem unmonitored_state (x : Door) : x.unmonitored.eng.state = x.eng.state := by
  unfold Door.unmonitored
  dsimp only
  split <;> rfl

theorem reenable_put (h : (g.door d).eng.state ≠ .quietWait) :
    reenable e d g = g.putDoor d ((g.door d).reenabled (shouldMonitor e d g) (e.profile d)) := by
  rw [reenable_eq]
  unfold Door.reenabled
  split
  · rw [putDoor_self]
  · split
    · rw [enableOn_eq, evaluateWatch_put (by rw [door_putDoor_same]; exact h), door_putDoor_same, putDoor_putDoor]
    · rw [enableOff_eq]
      refine (evaluateWatch_put (by rw [door_putDoor_same]; exact (unmonitored_state _).trans_ne h)).trans ?_
      rw [door_putDoor_same, putDoor_putDoor]
      rfl

/-! ### What a change of the enable leaves -/

theorem reenabled_eq (now : Bool) (p : ProfileEntry) (x : Door) : x.reenabled now p = { x with
    mon := (x.reenabled now p).mon, eng := { x.eng with live := (x.reenabled now p).eng.live } } := by
  unfold Door.reenabled
  split
  · rfl
  · split
    · rw [unwatched_eq]
    · rw [unwatched_eq]
      unfold Door.unmonitored
      dsimp only
      split <;> rfl

theorem enabled_enable (p : ProfileEntry) (pos : Option Bool) (m : Monitor) : (m.enabled p pos).enable = true := by
  unfold Monitor.enabled
  split
  · rfl
  · split <;> rfl

theorem reenabled_enable (now : Bool) (p : ProfileEntry) (x : Door) : (x.reenabled now p).mon.enable = now := by
  unfold Door.reenabled
  split
  · next h => exact h.symm
  · split
    · next h => rw [unwatched_eq, h]; exact enabled_enable ..
    · next h => rw [unwatched_eq, Bool.eq_false_iff.mpr h]; rfl

/-- The live flags are as they were but for PROPPED, which is as it was where the monitor was not enabled. -/
theorem reenabled_live (now : Bool) (p : ProfileEntry) (x : Door) :
    (x.reenabled now p).eng.live = { x.eng.live with propped := (x.reenabled now p).eng.live.propped }
    ∧ (x.mon.enable = false → (x.reenabled now p).eng.live = x.eng.live) := by
  unfold Door.reenabled
  split
  · exact ⟨rfl, fun _ => rfl⟩
  · next hne =>
    split
    · rw [unwatched_eq]
      exact ⟨rfl, fun _ => rfl⟩
    · next hnow =>
      rw [unwatched_eq]
      refine ⟨?_, fun he => absurd ((Bool.eq_false_iff.mpr hnow).trans he.symm) hne⟩
      unfold Door.unmonitored
      dsimp only
      split <;> rfl

theorem reenabled_unwatched {now : Bool} {p : ProfileEntry} {x : Door} (h : x.mon.watch = none) : (x.reenabled now p).mon.watch = none := by
  have enabled (pos : Option Bool) : (x.mon.enabled p pos).watch = none := by
    unfold Monitor.enabled
    split
    · exact h
    · split <;> exact h
  unfold Door.reenabled
  split
  · exact h
  · split
    · rw [unwatched_none (by exact enabled _)]
      exact enabled _
    · rw [unwatched_none (by exact h)]
      exact h

/-! ## Leaving service -/

/-- A door taken out of the queue, where it stands in it. -/
theorem withdraw_made (e : Env) (d : DoorNo) (g : Segment) : ∃ b, Made False d (g.door d) b (withdraw e d g) := by
  unfold withdraw
  split
  · exact ⟨_, (made_dequeue d g).consider⟩
  · next h =>
    refine ⟨g, .refl (fun q hq hd => h ?_) False.elim⟩
    exact List.any_eq_true.mpr ⟨q, hq, beq_iff_eq.mpr hd⟩

theorem Made.put {A : Prop} {x : Door} {b : Segment} (h : Made A d x b g) (f : Door → Door)
    (hf : ∀ x s, (f { x with sup := s }).core = (f x).core) : Made A d (f x) b (g.putDoor d (f (g.door d))) := by
  refine ⟨?_, h.unqueued, h.alone⟩
  rw [door_putDoor_same]
  exact (hf _ _).symm.trans ((congrArg (fun y => (f y).core) h.door).trans (hf _ _))

theorem reenabled_core (now : Bool) (p : ProfileEntry) (x : Door) (s : Supervision) :
    (({ x with sup := s } : Door).reenabled now p).core = (x.reenabled now p).core := by
  have unwatched (y : Door) : (({ y with sup := s } : Door).unwatched p).core = (y.unwatched p).core := by
    unfold Door.unwatched
    cases y.mon.watch with
    | none => rfl
    | some w =>
      dsimp only
      have hquiet : ({ y with sup := s } : Door).quiet p w = y.quiet p w := rfl
      rw [hquiet]
      split <;> rfl
  unfold Door.reenabled
  dsimp only
  split
  · rfl
  · split
    · exact unwatched { x with mon := x.mon.enabled p x.inputs.position }
    · exact unwatched x.unmonitored

theorem Made.reenable {A : Prop} {x : Door} {b : Segment} (h : Made A d x b g) (hs : x.eng.state ≠ .quietWait) :
    Made A d (x.reenabled (shouldMonitor e d g) (e.profile d)) b (reenable e d g) := by
  rw [reenable_put (by rw [h.eng]; exact hs)]
  exact h.put (fun x => x.reenabled (shouldMonitor e d g) (e.profile d)) fun x s => reenabled_core _ _ x s

/-- The engine that an out-of-service request stops (R133). -/
def Engine.outed (x : Engine) : Engine :=
  let stopped := { x with
    owed := none, pendingTarget := none, drive := false, live := faultKinds.foldl (fun l k => l.put k false) x.live }
  { stopped.enter .outOfService with target := none, retry := 0, deferral := .none, deferralSub := 0 }

/-- The record of a door that an out-of-service request stops, before its enable is evaluated (R133). -/
def Door.outed (p : ProfileEntry) (x : Door) : Door := { x with
  charge := x.afterDriveOff p
  drop := { x.drop with pulse := x.drop.pulse.cancel }
  mon := { x.mon with watch := none }
  eng := x.eng.outed }

theorem answered_absent (e : Env) (d : DoorNo) (g : Segment) :
    (dropPending e d (answerPending e d .absent (answerOwed e d .absent g))).door d
      = { g.door d with eng := { (g.door d).eng with owed := none, pendingTarget := none } } := by
  have howed : (answerOwed e d .absent g).door d = { g.door d with eng := { (g.door d).eng with owed := none } } := by
    unfold answerOwed
    dsimp only
    rw [answer_door, upd_same_level _ _ _ _ rfl, door_putDoor_same]
  rw [dropPending_eq, door_putDoor_same]
  unfold answerPending
  rw [howed]
  cases (g.door d).eng.pendingTarget with
  | none => dsimp only; rw [howed]
  | some q =>
    dsimp only
    rw [answer_door, upd_same_level _ _ _ _ rfl, door_putDoor_same, howed]

/-- A door out of service is not monitored (R68). -/
theorem shouldMonitor_out (h : (g.door d).eng.state = .outOfService) : shouldMonitor e d g = false := by
  unfold shouldMonitor
  simp [h]

/-- The door's record when it has left service, in no queue. -/
theorem takeOut_made (hs : (g.door d).eng.state ≠ .absent) : ∃ b,
    Made False d (((g.door d).outed (e.profile d)).reenabled false (e.profile d)) b (takeOutOfService e d g) := by
  obtain ⟨b, withdrawn⟩ := withdraw_made e d (dropPending e d (answerPending e d .absent (answerOwed e d .absent g)))
  rw [answered_absent] at withdrawn
  have stopped := (((withdrawn.clearWatch (e := e)).cancelPulse (e := e)).forceDriveOff (e := e)).clearLive (e := e) faultKinds
  have left := stopped.updEng (e := e) fun x =>
    { x.enter .outOfService with target := none, retry := 0, deferral := .none, deferralSub := 0 }
  have reenabled := left.reenable (e := e) fun h => DoorState.noConfusion h
  rw [shouldMonitor_out (congrArg Engine.state left.eng)] at reenabled
  unfold takeOutOfService
  rw [if_neg hs]
  exact ⟨b, reenabled⟩

/-- What the out-of-service request leaves of a door's record (R133). -/
structure LeftService (p : ProfileEntry) (x y : Door) : Prop where
  eng : y.eng = { (x.outed p).eng with live := y.eng.live }
  live : y.eng.live = { (x.outed p).eng.live with propped := y.eng.live.propped }
  drop : y.drop = { x.drop with pulse := x.drop.pulse.cancel }
  charge : y.charge = x.afterDriveOff p
  watch : y.mon.watch = none
  enable : y.mon.enable = false
  inputs : y.inputs = x.inputs

theorem takeOut_leaves (hs : (g.door d).eng.state ≠ .absent) :
    LeftService (e.profile d) (g.door d) ((takeOutOfService e d g).door d) ∧ Unqueued d (takeOutOfService e d g) := by
  obtain ⟨b, made⟩ := takeOut_made (e := e) hs
  have heq := reenabled_eq false (e.profile d) ((g.door d).outed (e.profile d))
  refine ⟨⟨?_, ?_, ?_, ?_, ?_, ?_, ?_⟩, made.unqueued⟩
  · rw [made.eng]
    exact congrArg Door.eng heq
  · rw [made.eng]
    exact (reenabled_live false (e.profile d) ((g.door d).outed (e.profile d))).1
  · rw [made.drop, heq]
    rfl
  · rw [made.charge, heq]
    rfl
  · rw [made.mon]
    exact reenabled_unwatched rfl
  · rw [made.mon]
    exact reenabled_enable ..
  · rw [made.inputs, heq]
    rfl

theorem LeftService.faults {p : ProfileEntry} {x y : Door} (h : LeftService p x y) (k : Kind) (hk : k ∈ faultKinds) :
    y.eng.live.get k = false := by
  rw [h.live]
  simp only [faultKinds, List.mem_cons, List.not_mem_nil, or_false] at hk
  rcases hk with rfl | rfl | rfl | rfl <;> rfl

theorem LeftService.lost {p : ProfileEntry} {x y : Door} (h : LeftService p x y) : y.eng.live.lost = x.eng.live.lost := by
  rw [h.live]
  rfl

end

end Sys2Proof.Machine
end

section
/-! The return to service (R133), and DOOR_SERVICE. -/

namespace Sys2Proof.Machine

section
variable {e : Env} {d : DoorNo} {g : Segment}

/-! ## Returning -/

/-- A change of a door whose LOCK_DRIVE is off clears no count (R104). -/
theorem upd_of_off (f : Door → Door) (h : (g.door d).lockLevel g.fire.latch (e.profile d) = false) :
    g.upd e d f = g.putDoor d (f (g.door d)) := by
  unfold Segment.upd
  dsimp only
  rw [h, Bool.false_and, if_neg Bool.false_ne_true]

theorem lockLevel_out (latch : Bool) (p : ProfileEntry) {x : Door} (h : x.eng.state = .outOfService) : x.lockLevel latch p = false := by
  unfold Door.lockLevel
  rw [h]
  cases latch <;> rfl

/-- The record of a door that enters HOLDING with no target. -/
def Door.held (x : Door) : Door := { x with eng := { x.eng.enter .holding with target := none } }

/-- The segment with a door that has returned to HOLDING, its enable evaluated (R133). -/
def returned (e : Env) (d : DoorNo) (g : Segment) : Segment :=
  reenable e d (updEng e d (fun x => { x.enter .holding with target := none }) g)

theorem returnToService_latched (hs : (g.door d).eng.state = .outOfService) (hf : e.fitted d = true) (hp : e.profileDefective d = false)
    (hl : g.fire.latch = true) : returnToService e d g = reenable e d (enterEgress e d g) := by
  unfold returnToService
  rw [if_pos ⟨hs, hf, by rw [hp]; rfl⟩, if_pos hl]

theorem returnToService_expected (hs : (g.door d).eng.state = .outOfService) (hf : e.fitted d = true) (hp : e.profileDefective d = false)
    (hl : g.fire.latch = false) : returnToService e d g = giveExpected e d (returned e d g) := by
  unfold returnToService
  rw [if_pos ⟨hs, hf, by rw [hp]; rfl⟩, if_neg (by simp [hl])]
  rfl

theorem returnToService_else (h : ¬ ((g.door d).eng.state = .outOfService ∧ e.fitted d = true ∧ e.profileDefective d = false)) :
    returnToService e d g = g := if_neg fun ⟨hs, hf, hp⟩ => h ⟨hs, hf, by simpa using hp⟩

theorem returned_eq (hs : (g.door d).eng.state = .outOfService) : ∃ now,
    returned e d g = g.putDoor d ((g.door d).held.reenabled now (e.profile d)) := by
  have entered : updEng e d (fun x => { x.enter .holding with target := none }) g = g.putDoor d (g.door d).held :=
    upd_of_off _ (lockLevel_out _ _ hs)
  unfold returned
  rw [entered, reenable_put (by rw [door_putDoor_same]; exact fun h => DoorState.noConfusion h), door_putDoor_same, putDoor_putDoor]
  exact ⟨_, rfl⟩

/-- What a returned door's record is, the live flag of PROPPED apart, and what stays. -/
theorem returned_door (hs : (g.door d).eng.state = .outOfService) :
    let h := returned e d g
    (h.door d).eng = { (g.door d).eng.enter .holding with target := none, live := (h.door d).eng.live }
    ∧ ((g.door d).mon.enable = false → (h.door d).eng.live = (g.door d).eng.live) ∧ OnlyDoor d g h
    ∧ h.queue = g.queue ∧ h.seqr = g.seqr ∧ (h.door d).charge = (g.door d).charge ∧ (h.door d).sup = (g.door d).sup
    ∧ (h.door d).drop = (g.door d).drop ∧ (h.door d).inputs = (g.door d).inputs ∧ h.exemptions = g.exemptions := by
  obtain ⟨now, heq⟩ := returned_eq (e := e) hs
  have hdoor := reenabled_eq now (e.profile d) (g.door d).held
  dsimp only
  rw [heq, door_putDoor_same]
  refine ⟨?_, fun he => (reenabled_live now (e.profile d) (g.door d).held).2 he, fun j hj => door_putDoor_ne _ _ _ _ hj, rfl, rfl,
    ?_, ?_, ?_, ?_, rfl⟩
  · exact congrArg Door.eng hdoor
  · exact (congrArg Door.charge hdoor).trans rfl
  · exact (congrArg Door.sup hdoor).trans rfl
  · exact (congrArg Door.drop hdoor).trans rfl
  · exact (congrArg Door.inputs hdoor).trans rfl

/-- The expected posture is not known while the clock is not (R30). -/
theorem expectedPosture_unknown (h : e.clock.second = none) (xs : List Exemption) (d : DoorNo) : expectedPosture e xs d = none := by
  unfold expectedPosture
  rw [h]

theorem giveExpected_none (h : expectedPosture e g.exemptions d = none) : giveExpected e d g = g := by
  unfold giveExpected
  rw [h]

theorem giveExpected_some {p : Posture} (h : expectedPosture e g.exemptions d = some p) :
    giveExpected e d g = targetSet e d p e.catchUp none g := by
  unfold giveExpected
  rw [h]

/-- Under the latch a returned door stands in EGRESS with no target (R133, R134). -/
theorem egressed_door (hl : g.fire.latch = true) :
    let h := reenable e d (enterEgress e d g)
    (h.door d).eng.state = .egress ∧ (h.door d).eng.target = none ∧ (h.door d).eng.inService = (g.door d).eng.inService := by
  obtain ⟨y, hy, hs, ht, hi⟩ : ∃ y, enterEgress e d g = g.putDoor d y ∧ y.eng.state = .egress ∧ y.eng.target = none
      ∧ y.eng.inService = (g.door d).eng.inService := by
    have change (x : Door) (f : Door → Door) : (g.putDoor d x).upd e d f = g.putDoor d (f x) := by
      rw [upd_latched _ (by exact hl), door_putDoor_same, putDoor_putDoor]
    have considered (x : Door) : consider e (g.putDoor d x) = g.putDoor d x := consider_latched hl
    unfold enterEgress forceDriveOff setCharge updEng
    rw [dropPending_eq]
    simp only [putDoor_putDoor, change, considered, door_putDoor_same]
    exact ⟨_, rfl, rfl, rfl, rfl⟩
  dsimp only
  rw [hy, reenable_put (by rw [door_putDoor_same, hs]; exact fun h => DoorState.noConfusion h), door_putDoor_same, door_putDoor_same,
    reenabled_eq]
  exact ⟨hs, ht, hi⟩

/-- The service mark set. -/
theorem setServiceMark_eq (on : Bool) : setServiceMark e d on g =
    g.putDoor d { g.door d with eng := { (g.door d).eng with inService := on } } := updEng_eq fun x => { x with inService := on }

end

/-! ## DOOR_SERVICE -/

section
variable {s : State} {d : DoorNo}

/-- A served change of the segment is answered with the state that the door comes to (R172). -/
theorem exec_served_door {q : Request} {c : Instr} (hc : c.asRequest = some q) (ha : Addressed q.head s) (f : Env → Segment → Segment)
    (h : serve q s = answerDone (stateCode d (settled (s.seg! f))) (settled (s.seg! f))) :
    exec c s = .next (passing (replyTo q .done ((settled { s with seg := f s.env s.seg }).seg.door d).eng.state.code s)
      (settled { s with seg := f s.env s.seg })) := exec_served hc ha h

/-- The request's bit of DOOR_SERVICE. -/
def serviceRequest (back : Bool) (h : ReqHead) (index : Byte) : Instr × Request :=
  if back then (.doorServiceReturn h index, indexRequest .doorService h index 1)
  else (.doorServiceOut h index, indexRequest .doorService h index 0)

theorem serve_doorService (back : Bool) (h : ReqHead) (index : Byte) (s : State) : serve (serviceRequest back h index).2 s =
    serveDoorService index.toNat (if back then 1 else 0) s := by
  cases back <;> rfl

theorem serviceRequest_asRequest (back : Bool) (h : ReqHead) (index : Byte) :
    (serviceRequest back h index).1.asRequest = some (serviceRequest back h index).2 := by
  cases back <;> rfl

theorem serviceRequest_head (back : Bool) (h : ReqHead) (index : Byte) : (serviceRequest back h index).2.head = h := by
  cases back <;> rfl

theorem serveDoorService_door (back : Bool) {i : Nat} (hd : d.val = i) (s : State) :
    serveDoorService i (if back then 1 else 0) s = if (s.seg.door d).eng.inService = back then answerDone (stateCode d s) s
      else answerDone (stateCode d (settled (s.seg! (if back then serviceReturn d else serviceOut d))))
        (settled (s.seg! (if back then serviceReturn d else serviceOut d))) := by
  have hfin : finOfCode 64 i = some d := (finOfCode_lt (hd ▸ d.isLt)).trans (congrArg some (Fin.ext hd.symm))
  have hflag : flagOfCode (if back then 1 else 0) = some back := by cases back <;> rfl
  unfold serveDoorService
  rw [hfin, hflag]

theorem serveDoorService_badIndex (back : Bool) {i : Nat} (h : 64 ≤ i) (s : State) :
    serveDoorService i (if back then 1 else 0) s = refuseWith .badIndex s := by
  unfold serveDoorService
  rw [finOfCode_ge (by omega)]

/-- The two requests of DOOR_SERVICE, for a door. -/
theorem doorService_door (back : Bool) {h : ReqHead} {index : Byte} (ha : Addressed h s) (hd : d.val = index.toNat) :
    let q := (serviceRequest back h index).2
    let c := (serviceRequest back h index).1
    ((s.seg.door d).eng.inService = back → exec c s = .next (passing (replyTo q .done (s.seg.door d).eng.state.code s) s))
    ∧ ((s.seg.door d).eng.inService ≠ back →
      let g := (if back then serviceReturn d else serviceOut d) s.env s.seg
      exec c s = .next (passing (replyTo q .done ((settled { s with seg := g }).seg.door d).eng.state.code s)
        (settled { s with seg := g }))) := by
  have hserve := (serve_doorService back h index s).trans (serveDoorService_door back hd s)
  have ha' : Addressed (serviceRequest back h index).2.head s := by rw [serviceRequest_head]; exact ha
  refine ⟨fun hm => exec_served (serviceRequest_asRequest back h index) ha' (hserve.trans (if_pos hm)), fun hm => ?_⟩
  have := exec_served_door (serviceRequest_asRequest back h index) ha' (if back then serviceReturn d else serviceOut d)
    (hserve.trans (if_neg hm))
  exact this

end

end Sys2Proof.Machine
end

section
/-! DOOR_SERVICE (R33, R133, R172), as the obligation has it. -/

namespace Sys2Proof.Machine

section
variable {e : Env} {d : DoorNo} {g : Segment}

theorem serviceOut_absent (hs : (g.door d).eng.state = .absent) : serviceOut d e g =
    g.putDoor d { g.door d with eng := { (g.door d).eng with inService := false } } := by
  unfold serviceOut takeOutOfService
  rw [setServiceMark_eq, if_pos (by rw [door_putDoor_same]; exact hs)]

theorem serviceOut_leaves (hs : (g.door d).eng.state ≠ .absent) :
    LeftService (e.profile d) { g.door d with eng := { (g.door d).eng with inService := false } } ((serviceOut d e g).door d)
    ∧ Unqueued d (serviceOut d e g) := by
  have left := takeOut_leaves (e := e) (d := d) (g := g.putDoor d { g.door d with eng := { (g.door d).eng with inService := false } })
    (by rw [door_putDoor_same]; exact hs)
  rw [door_putDoor_same] at left
  unfold serviceOut
  rw [setServiceMark_eq]
  exact left

theorem serviceOut_kept (e : Env) (d : DoorNo) (g : Segment) : Kept g (serviceOut d e g) :=
  (Kept.refl g).setServiceMark.takeOutOfService

theorem serviceReturn_kept (e : Env) (d : DoorNo) (g : Segment) : Kept g (serviceReturn d e g) :=
  (Kept.refl g).setServiceMark.returnToService

theorem serviceReturn_else (h : ¬ ((g.door d).eng.state = .outOfService ∧ e.fitted d = true ∧ e.profileDefective d = false)) :
    serviceReturn d e g = g.putDoor d { g.door d with eng := { (g.door d).eng with inService := true } } := by
  unfold serviceReturn
  rw [setServiceMark_eq, returnToService_else (by rw [door_putDoor_same]; exact h)]

/-- The segment with the door's mark IN_SERVICE. -/
def Segment.marked (d : DoorNo) (g : Segment) : Segment :=
  g.putDoor d { g.door d with eng := { (g.door d).eng with inService := true } }

theorem serviceReturn_eq : serviceReturn d e g = returnToService e d (g.marked d) :=
  congrArg (returnToService e d) (setServiceMark_eq true)

theorem marked_state (hs : (g.door d).eng.state = .outOfService) : ((g.marked d).door d).eng.state = .outOfService := by
  rw [Segment.marked, door_putDoor_same]
  exact hs

theorem serviceReturn_latched (hs : (g.door d).eng.state = .outOfService) (hf : e.fitted d = true) (hp : e.profileDefective d = false)
    (hl : g.fire.latch = true) : let h := serviceReturn d e g
    (h.door d).eng.state = .egress ∧ (h.door d).eng.inService = true ∧ (h.door d).eng.target = none := by
  obtain ⟨hst, ht, hi⟩ := egressed_door (e := e) (d := d) (g := g.marked d) hl
  dsimp only
  rw [serviceReturn_eq, returnToService_latched (marked_state hs) hf hp hl]
  refine ⟨hst, hi.trans ?_, ht⟩
  rw [Segment.marked, door_putDoor_same]

theorem serviceReturn_expected (hs : (g.door d).eng.state = .outOfService) (hf : e.fitted d = true) (hp : e.profileDefective d = false)
    (hl : g.fire.latch = false) : serviceReturn d e g = giveExpected e d (returned e d (g.marked d)) := by
  rw [serviceReturn_eq, returnToService_expected (marked_state hs) hf hp hl]

/-- The door that has returned, against the door that the request found. -/
theorem marked_returned (hs : (g.door d).eng.state = .outOfService) :
    let h := returned e d (g.marked d)
    (h.door d).eng = { (g.door d).eng.enter .holding with target := none, inService := true, live := (h.door d).eng.live }
    ∧ ((g.door d).mon.enable = false → (h.door d).eng.live = (g.door d).eng.live) ∧ OnlyDoor d g h
    ∧ h.queue = g.queue ∧ h.seqr = g.seqr ∧ (h.door d).charge = (g.door d).charge ∧ (h.door d).sup = (g.door d).sup
    ∧ (h.door d).drop = (g.door d).drop ∧ (h.door d).inputs = (g.door d).inputs ∧ h.exemptions = g.exemptions := by
  obtain ⟨heng, hlive, honly, hqueue, hseqr, hcharge, hsup, hdrop, hinputs, hexemptions⟩ := returned_door (e := e) (marked_state hs)
  have hm : (g.marked d).door d = { g.door d with eng := { (g.door d).eng with inService := true } } := door_putDoor_same ..
  rw [hm] at heng hlive hcharge hsup hdrop hinputs
  refine ⟨heng, hlive, fun j hj => (honly j hj).trans (door_putDoor_ne _ _ _ _ hj), hqueue, hseqr, hcharge, hsup, hdrop, hinputs,
    hexemptions⟩

end

end Sys2Proof.Machine

namespace Sys2Proof

open Machine

/-- Settles O31: the two requests by the mark that they find; out of service by what leaving leaves, back by the latch and the clock. -/
theorem doorService : Obligations.DoorService := by
  intro h index s ha c q hcq
  obtain ⟨back, rfl, rfl, hback⟩ : ∃ back, (serviceRequest back h index).1 = c ∧ (serviceRequest back h index).2 = q
      ∧ decide (c = .doorServiceReturn h index) = back := by
    simp only [List.mem_cons, Prod.mk.injEq, List.not_mem_nil, or_false] at hcq
    rcases hcq with ⟨rfl, rfl⟩ | ⟨rfl, rfl⟩
    · exact ⟨false, rfl, rfl, by simp⟩
    · exact ⟨true, rfl, rfl, by simp⟩
  refine ⟨fun hi => exec_refused (serviceRequest_asRequest back h index) (by rw [serviceRequest_head]; exact ha)
    ((serve_doorService back h index s).trans (serveDoorService_badIndex back hi s)), fun d hd => ?_⟩
  dsimp only
  rw [hback]
  obtain ⟨hsame, hserves⟩ := doorService_door back ha hd
  refine ⟨hsame, fun hm => ?_⟩
  have serves := hserves hm
  refine ⟨fun hb hs => ?_, fun hb hs => ?_, fun hb hn => ?_, fun hb hs hf hp => ⟨fun hl => ?_, fun hl hc => ?_, fun hl p hpost => ?_⟩⟩
  all_goals subst hb
  · rw [if_neg Bool.false_ne_true, serviceOut_absent hs] at serves
    exact serves
  · obtain ⟨left, hout⟩ := serviceOut_leaves (e := s.env) hs
    rw [if_neg Bool.false_ne_true] at serves
    refine ⟨_, serves, ?_⟩
    rw [left.eng]
    refine ⟨rfl, rfl, rfl, rfl, rfl, rfl, rfl, rfl, rfl, left.watch, congrArg Drop.pulse left.drop, hout, left.faults, ?_, rfl,
      (serviceOut_kept s.env d s.seg).sides⟩
    rw [left.charge]
    exact afterDriveOff_eq _ _
  · rw [if_pos rfl, serviceReturn_else hn] at serves
    exact serves
  · rw [if_pos rfl] at serves
    obtain ⟨hst, hi, ht⟩ := serviceReturn_latched hs hf hp hl
    exact ⟨_, serves, hst, hi, ht, (serviceReturn_kept s.env d s.seg).sides⟩
  · rw [if_pos rfl] at serves
    have heq := serviceReturn_expected hs hf hp hl
    rw [giveExpected_none (expectedPosture_unknown hc _ d)] at heq
    have heng := (marked_returned (e := s.env) hs).1
    refine ⟨_, serves, ?_⟩
    have hkept := (serviceReturn_kept s.env d s.seg).sides
    rw [heq] at hkept ⊢
    rw [heng]
    exact ⟨rfl, rfl, rfl, hkept⟩
  · rw [if_pos rfl] at serves
    have heq := serviceReturn_expected hs hf hp hl
    obtain ⟨heng, hlive, honly, hqueue, hseqr, hcharge, hsup, hdrop, hinputs, hexemptions⟩ := marked_returned (e := s.env) hs
    rw [giveExpected_some (by rw [hexemptions]; exact hpost)] at heq
    rw [heq] at serves
    exact ⟨_, heng, hlive, honly, hqueue, hseqr, hcharge, hsup, hdrop, hinputs, serves⟩

end Sys2Proof
end

section
/-! CLEAR_DOOR_EVENTS, CLEAR_EXCEPTION (R172, R174) and RESET_FAULT (R130). -/

namespace Sys2Proof.Machine

/-! ## RESET_FAULT -/

/-- The record of a door whose fault flags are cleared. -/
def Door.unfaulted (x : Door) : Door := { x with eng := { x.eng with live := { x.eng.live with
  notSecured := false, notReleased := false, overcurrent := false, openCircuit := false } } }

/-- The record of a door that takes up its target again after RESET_FAULT (R130). -/
def Door.retaken (p : Posture) (x : Door) : Door := { x.unfaulted with eng := { x.unfaulted.eng with
  beforeAttempt := some p, retry := 0, force := false, fallback := if p = .secured then .secured else .released } }

section
variable {e : Env} {d : DoorNo} {g : Segment} {p : Posture}

theorem clearFaults_eq : clearLive e d faultKinds g = g.putDoor d (g.door d).unfaulted := upd_same_level _ _ _ _ rfl

theorem resetFault_else (h : (g.door d).eng.state ≠ .faulted) : resetFaultDoor e d g = g.putDoor d (g.door d).unfaulted := by
  unfold resetFaultDoor
  dsimp only
  rw [clearFaults_eq, if_neg h]

theorem resetFault_idle (h : (g.door d).eng.state = .faulted) (ht : (g.door d).eng.target = none) : resetFaultDoor e d g =
    enterState e d .holding (updEng e d (fun x => { x with retry := 0 }) (g.putDoor d (g.door d).unfaulted)) := by
  unfold resetFaultDoor
  dsimp only
  rw [clearFaults_eq, if_pos h, ht]

/-- With no target the door enters HOLDING. -/
theorem resetFault_holds (h : (g.door d).eng.state = .faulted) (ht : (g.door d).eng.target = none) :
    let t := resetFaultDoor e d g
    OnlyDoor d g t ∧ (t.door d).eng.state = .holding ∧ (t.door d).eng.retry = 0 ∧ (t.door d).eng.live = (g.door d).unfaulted.eng.live := by
  have hretry : updEng e d (fun x => { x with retry := 0 }) (g.putDoor d (g.door d).unfaulted)
      = g.putDoor d { (g.door d).unfaulted with eng := { (g.door d).unfaulted.eng with retry := 0 } } :=
    updEng_put fun x => { x with retry := 0 }
  dsimp only
  rw [resetFault_idle h ht, hretry]
  unfold enterState
  simp only [upd_door_eng, door_putDoor_same]
  exact ⟨fun j hj => (upd_only e d _ _ j hj).trans (door_putDoor_ne _ _ _ _ hj), rfl, rfl, rfl⟩

theorem resetFault_goes (h : (g.door d).eng.state = .faulted) (ht : (g.door d).eng.target = some p) :
    resetFaultDoor e d g = takeToward e d p .already (g.putDoor d ((g.door d).retaken p)) := by
  have begun : beginAttempt e d (.ofTarget (some p)) (some p) (g.putDoor d (g.door d).unfaulted) = g.putDoor d ((g.door d).retaken p) := by
    unfold beginAttempt
    rw [updEng_put fun y => { y with
      fallback := .ofTarget (some p), beforeAttempt := some p, retry := 0, force := false
      pulseInAttempt := y.pulseInAttempt && y.state != .released }]
    have hpulse : ((g.door d).unfaulted.eng.pulseInAttempt && (g.door d).unfaulted.eng.state != .released)
        = (g.door d).unfaulted.eng.pulseInAttempt := by
      rw [show (g.door d).unfaulted.eng.state = .faulted from h]
      exact Bool.and_true _
    have hfall : Fallback.ofTarget (some p) = if p = .secured then .secured else .released := by cases p <;> rfl
    rw [hpulse, hfall]
    rfl
  unfold resetFaultDoor
  dsimp only
  rw [clearFaults_eq, if_pos h, ht]
  exact congrArg (takeToward e d p .already) begun

/-- Where its posture is found, the door is in it (R115, R116). -/
theorem resetFault_found (h : (g.door d).eng.state = .faulted) (hu : Unqueued d g) (ht : (g.door d).eng.target = some p)
    (hs : (g.door d).sensedOutside (e.profile d) = some p) :
    let t := resetFaultDoor e d g
    (t.door d).eng.state = p.state ∧ (t.door d).eng.target = some p ∧ (t.door d).eng.retry = 0
    ∧ (t.door d).eng.owed = none ∧ (t.door d).eng.live = (g.door d).unfaulted.eng.live := by
  have begun : Made False d ((g.door d).retaken p) (g.putDoor d ((g.door d).retaken p)) (g.putDoor d ((g.door d).retaken p)) :=
    ⟨by rw [door_putDoor_same], hu, False.elim⟩
  obtain ⟨b, made⟩ : ∃ b, Made False d (((g.door d).retaken p).settledAt (e.profile d) p) b
      (takeToward e d p .already (g.putDoor d ((g.door d).retaken p))) := by
    have hnot (free : Bool) : ((g.door d).retaken p).leaving (e.profile d) free = (g.door d).retaken p :=
      Door.leaving_not fun hh => DoorState.noConfusion (h.symm.trans hh)
    cases p with
    | secured =>
      obtain ⟨free, made⟩ := begun.takeSecured_settles (e := e) .already hs
      exact ⟨_, hnot free ▸ made⟩
    | released =>
      obtain ⟨free, made⟩ := begun.takeReleased_settles (e := e) .already (.inl hs)
      exact ⟨_, hnot free ▸ made⟩
  dsimp only
  rw [resetFault_goes h ht, made.eng, Door.settledAt_eq]
  exact ⟨rfl, rfl, rfl, rfl, rfl⟩

end

section
variable {s : State} {h : ReqHead} {index : Byte} {d : DoorNo}

theorem finOfCode_door (hd : d.val = index.toNat) : finOfCode 64 index.toNat = some d :=
  (finOfCode_lt (hd ▸ d.isLt)).trans (congrArg some (Fin.ext hd.symm))

theorem exec_resetFault (ha : Addressed h s) (hd : d.val = index.toNat) :
    let g := resetFaultDoor s.env d s.seg
    exec (.resetFault h index) s = .next (passing (replyTo (indexRequest .resetFault h index 0) .done
      ((settled { s with seg := g }).seg.door d).eng.state.code s) (settled { s with seg := g })) :=
  exec_served_door (q := indexRequest .resetFault h index 0) rfl ha (fun e g => resetFaultDoor e d g) (by
    show serveResetFault index.toNat s = _
    unfold serveResetFault
    rw [finOfCode_door hd])

theorem exec_clearDoorEvents (ha : Addressed h s) (hd : d.val = index.toNat) : ∃ (v : Value) (n : Nat),
    exec (.clearDoorEvents h index) s = .next
      (passing (responseRecord s.addressNo (indexRequest .clearDoorEvents h index 0) .done v)
        { s with seg := { s.seg.putDoor d { s.seg.door d with eng := { (s.seg.door d).eng with sticky := .clear } } with free := n } }) := by
  have hput : updEng s.env d (fun x => { x with sticky := .clear }) s.seg
      = s.seg.putDoor d { s.seg.door d with eng := { (s.seg.door d).eng with sticky := .clear } } :=
    updEng_eq fun x => { x with sticky := .clear }
  have hserve : serve (indexRequest .clearDoorEvents h index 0) s = answerOpen { s with
      seg := s.seg.putDoor d { s.seg.door d with eng := { (s.seg.door d).eng with sticky := .clear } } } := by
    show serveClearEvents index.toNat s = _
    unfold serveClearEvents
    rw [finOfCode_door hd]
    exact congrArg (fun g => answerOpen { s with seg := g }) hput
  refine ⟨Config.openResponse s.seg.free, s.seg.free + 1, (exec_addressed (q := indexRequest .clearDoorEvents h index 0) rfl ha).trans ?_⟩
  rw [hserve]
  rfl

/-! ## CLEAR_EXCEPTION -/

theorem serve_clearException (h : ReqHead) (index : Byte) (value : Value) (s : State) :
    serve (indexRequest .clearException h index value) s = serveClearException index.toNat value.toNat s := rfl

theorem kind_ofCode_code (k : Kind) : Kind.ofCode k.code = some k := by cases k <;> rfl

theorem kind_ofCode_ge {n : Nat} (hn : 13 ≤ n) : Kind.ofCode n = none := List.getElem?_eq_none hn

theorem serveClearException_listed {i n : Nat} (hi : i ≤ 64) {k : Kind} (hk : k.code = n) (s : State) :
    serveClearException i n s = clearEntry (finOfCode 64 i) k s := by
  unfold serveClearException
  rw [if_neg (by omega), ← hk, kind_ofCode_code]

theorem listed_iff (door : Option DoorNo) (k : Kind) (xs : List ExceptionEntry) :
    xs.any (fun x => x.isFor door k) = true ↔ ∃ x ∈ xs, x.door = door ∧ x.kind = k := by
  simp [List.any_eq_true, ExceptionEntry.isFor]

end

end Sys2Proof.Machine

namespace Sys2Proof

open Machine

/-- Settles O32: RESET_FAULT by the door's state and target, CLEAR_EXCEPTION by its tests in their order. -/
theorem clearRequests : Obligations.ClearRequests := by
  refine fun h index s ha => ⟨fun hi c q hcq => ?_, fun d hd => ⟨exec_clearDoorEvents ha hd, fun hs => ?_, fun hs ht => ?_,
    fun hs hu p ht hsense => ?_, fun hs p ht => ?_⟩, fun value => ⟨fun hi => ?_, fun hi hv => ?_, fun hi k hk => ?_⟩⟩
  · simp only [List.mem_cons, Prod.mk.injEq, List.not_mem_nil, or_false] at hcq
    rcases hcq with ⟨rfl, rfl⟩ | ⟨rfl, rfl⟩
    · refine exec_refused rfl ha ?_
      show serveClearEvents index.toNat s = _
      unfold serveClearEvents
      rw [finOfCode_ge (by omega)]
    · refine exec_refused rfl ha ?_
      show serveResetFault index.toNat s = _
      unfold serveResetFault
      rw [finOfCode_ge (by omega)]
  · have served := exec_resetFault ha hd
    rw [resetFault_else hs] at served
    exact served
  · obtain ⟨honly, hst, hr, hl⟩ := resetFault_holds (e := s.env) hs ht
    exact ⟨_, exec_resetFault ha hd, honly, hst, hr, hl⟩
  · obtain ⟨hst, htarget, hr, ho, hl⟩ := resetFault_found (e := s.env) hs hu ht hsense
    exact ⟨_, exec_resetFault ha hd, hst, htarget, hr, ho, hl⟩
  · have served := exec_resetFault ha hd
    rw [resetFault_goes hs ht] at served
    cases p <;> exact served
  · refine exec_refused rfl ha ((serve_clearException h index value s).trans ?_)
    exact if_pos (by omega)
  · refine exec_refused rfl ha ((serve_clearException h index value s).trans ?_)
    unfold serveClearException
    rw [if_neg (by omega), kind_ofCode_ge hv]
  · have hserve := (serve_clearException h index value s).trans (serveClearException_listed hi hk s)
    refine ⟨fun hl => ?_, fun hn => ?_⟩
    · refine exec_served rfl ha (hserve.trans ?_)
      unfold clearEntry
      rw [(listed_iff (finOfCode 64 index.toNat) k _).mpr hl]
      rfl
    · refine exec_served rfl ha (hserve.trans ?_)
      unfold clearEntry
      rw [Bool.eq_false_iff.mpr fun hc => hn ((listed_iff (finOfCode 64 index.toNat) k _).mp hc)]
      rfl

end Sys2Proof
end

section
/-! What a load makes of the stored tables (R175): entries, duplicates, the placing of the group map, the corrected marks. -/

namespace Sys2Proof.Machine

/-! ## Entries -/

/-- The load of an entry, case by case. -/
theorem load_eq {α : Type} (default : α) (x : Stored α) : x.load default = match x with
    | .erased => ⟨default, false⟩
    | .readable a => ⟨a, false⟩
    | .correctable a => ⟨a, false⟩
    | .uncorrectable => ⟨default, true⟩ := by
  cases x <;> rfl

theorem loadAll_get {α : Type} {n : Nat} (default : α) (v : Vector (Stored α) n) (i : Fin n) :
    (loadAll default v)[i] = v[i].load default := vmap_get _ _ _

/-- An unreadable entry loads unused. -/
theorem load_used {α : Type} (x : Stored (Option α)) : (x.load none).used = (x.load none).value := by
  cases x <;> rfl

theorem load_defective {α : Type} (default : α) (x : Stored α) : (x.load default).defective = true ↔ x = .uncorrectable := by
  cases x <;> simp [Stored.load]

/-! ## Duplicates -/

section
variable {α : Type} {n : Nat} (key : α → Nat)

/-- A used entry before position i holds the key that the entry at i holds. -/
def Twice (v : Vector (Working (Option α)) n) (i : Fin n) : Prop :=
  ∃ y, v[i].used = some y ∧ ∃ j : Fin n, j < i ∧ ∃ z, v[j].used = some z ∧ key z = key y

theorem mem_usedBefore (v : Vector (Working (Option α)) n) (i : Fin n) (z : α) :
    z ∈ (v.toList.take i.val).filterMap Working.used ↔ ∃ j : Fin n, j < i ∧ v[j].used = some z := by
  rw [List.mem_filterMap]
  constructor
  · rintro ⟨w, hw, hz⟩
    obtain ⟨k, hk, rfl⟩ := List.mem_iff_getElem.mp hw
    have hlen : k < i.val := by
      rw [List.length_take] at hk
      omega
    refine ⟨⟨k, by omega⟩, hlen, ?_⟩
    simpa using hz
  · rintro ⟨j, hj, hz⟩
    refine ⟨v[j], List.mem_iff_getElem.mpr ⟨j.val, ?_, ?_⟩, hz⟩
    · have hi := i.isLt
      simp only [List.length_take, Vector.length_toList]
      exact Nat.lt_min.mpr ⟨hj, j.isLt⟩
    · simp

theorem markDuplicates_twice {v : Vector (Working (Option α)) n} {i : Fin n} (h : Twice key v i) :
    (markDuplicates key v)[i] = ⟨none, true⟩ := by
  obtain ⟨y, hy, j, hj, z, hz, hk⟩ := h
  unfold markDuplicates
  rw [vgen_get, hy]
  exact if_pos (List.any_eq_true.mpr ⟨z, (mem_usedBefore v i z).mpr ⟨j, hj, hz⟩, by exact beq_iff_eq.mpr hk⟩)

theorem markDuplicates_once {v : Vector (Working (Option α)) n} {i : Fin n} (h : ¬ Twice key v i) :
    (markDuplicates key v)[i] = v[i] := by
  unfold markDuplicates
  rw [vgen_get]
  cases hy : v[i].used with
  | none => rfl
  | some y =>
    refine if_neg fun ha => h ?_
    obtain ⟨z, hz, hk⟩ := List.any_eq_true.mp ha
    obtain ⟨j, hj, hz⟩ := (mem_usedBefore v i z).mp hz
    exact ⟨y, hy, j, hj, z, hz, beq_iff_eq.mp hk⟩

theorem markDuplicates_used_iff {v : Vector (Working (Option α)) n} {i : Fin n} {y : α} :
    (markDuplicates key v)[i].used = some y ↔ v[i].used = some y ∧ ¬ Twice key v i := by
  by_cases h : Twice key v i
  · rw [markDuplicates_twice key h]
    exact ⟨fun hy => by simp [Working.used] at hy, fun ⟨_, hn⟩ => absurd h hn⟩
  · rw [markDuplicates_once key h]
    exact ⟨fun hy => ⟨hy, h⟩, And.left⟩

/-- No key stands twice where the duplicates are marked. -/
theorem markDuplicates_distinct (v : Vector (Working (Option α)) n) :
    (usedEntries (markDuplicates key v)).Pairwise (fun a b => key a ≠ key b) := by
  unfold usedEntries
  rw [List.pairwise_filterMap, List.pairwise_iff_getElem]
  intro i j hi hj hij a ha b hb hab
  rw [Vector.length_toList] at hi hj
  have hai : (markDuplicates key v)[(⟨i, hi⟩ : Fin n)].used = some a := by simpa using ha
  have hbj : (markDuplicates key v)[(⟨j, hj⟩ : Fin n)].used = some b := by simpa using hb
  obtain ⟨hai, -⟩ := (markDuplicates_used_iff key).mp hai
  obtain ⟨hbj, hnot⟩ := (markDuplicates_used_iff key).mp hbj
  exact hnot ⟨b, hbj, ⟨i, hi⟩, hij, a, hai, hab⟩

end

/-- Duplicates among loaded entries. -/
theorem twice_load {α : Type} {n : Nat} (key : α → Nat) (v : Vector (Stored (Option α)) n) (i : Fin n) :
    Twice key (loadAll none v) i ↔ ∃ y, (v[i].load none).value = some y
      ∧ ∃ j : Fin n, j < i ∧ ∃ z, (v[j].load none).value = some z ∧ key z = key y := by
  unfold Twice
  simp only [loadAll_get, load_used]

/-! ## The group map -/

theorem loadGroupmap_defective (v : Vector (Stored (Option GroupMapEntry)) 32) (i : Fin 32) :
    (loadGroupmap v)[i].defective = true ↔ v[i] = .uncorrectable ∨ Twice (fun x => x.site) (loadAll none v) i := by
  unfold loadGroupmap
  rw [placeGroupMap_defective]
  by_cases h : Twice (fun x : GroupMapEntry => x.site) (loadAll none v) i
  · rw [markDuplicates_twice _ h]
    exact ⟨fun _ => .inr h, fun _ => rfl⟩
  · rw [markDuplicates_once _ h, loadAll_get, load_defective]
    exact ⟨.inl, fun hu => hu.resolve_right h⟩

theorem loadGroupmap_defective_unused {v : Vector (Stored (Option GroupMapEntry)) 32} {i : Fin 32}
    (h : (loadGroupmap v)[i].defective = true) : (loadGroupmap v)[i].value = none := by
  unfold loadGroupmap at h ⊢
  rw [placeGroupMap_defective] at h
  rw [placeGroupMap_get, if_pos h]
  by_cases ht : Twice (fun x : GroupMapEntry => x.site) (loadAll none v) i
  · rw [markDuplicates_twice _ ht]
  · rw [markDuplicates_once _ ht, loadAll_get] at h ⊢
    rw [(load_defective _ _).mp h]
    rfl

theorem loadGroupmap_used (v : Vector (Stored (Option GroupMapEntry)) 32) (y : GroupMapEntry) :
    y ∈ usedEntries (loadGroupmap v) ↔ ∃ i : Fin 32, (v[i].load none).value = some y ∧ ¬ Twice (fun x => x.site) (loadAll none v) i := by
  unfold loadGroupmap
  rw [usedEntries_placeGroupMap, (sortSites_perm _).mem_iff, mem_usedEntries]
  simp only [markDuplicates_used_iff, loadAll_get, load_used]

theorem loadGroupmap_sorted (v : Vector (Stored (Option GroupMapEntry)) 32) :
    (usedEntries (loadGroupmap v)).Pairwise (fun a b => a.site < b.site) := by
  unfold loadGroupmap
  rw [usedEntries_placeGroupMap]
  have distinct := (markDuplicates_distinct (fun x : GroupMapEntry => x.site) (loadAll none v)).perm
    (sortSites_perm _).symm fun h => h.symm
  exact ((sortSites_sorted _).and distinct).imp fun ⟨hle, hne⟩ => lt_of_le_of_ne hle hne

/-! ## The corrected marks -/

theorem corrected_iff {α : Type} (x : Stored α) : x.corrected = true ↔ ∃ a, x = .correctable a := by
  cases x <;> simp [Stored.corrected]

theorem anyCorrected_iff {α : Type} {n : Nat} (v : Vector (Stored α) n) :
    v.toList.any (fun x => x.corrected) = true ↔ ∃ (i : Fin n) (a : α), v[i] = .correctable a := by
  rw [List.any_eq_true]
  constructor
  · rintro ⟨x, hx, hc⟩
    obtain ⟨a, rfl⟩ := (corrected_iff x).mp hc
    obtain ⟨i, hi, ha⟩ := List.mem_iff_getElem.mp hx
    rw [Vector.length_toList] at hi
    exact ⟨⟨i, hi⟩, a, by simpa using ha⟩
  · rintro ⟨i, a, ha⟩
    exact ⟨v[i], by simp, (corrected_iff _).mpr ⟨a, ha⟩⟩

theorem loadTables_corrected (st : StoredTables) (t : TableName) : (loadTables st).corrected[t.ix] = st.correctedMark t := by
  refine (vgen_get 7 _ t.ix).trans ?_
  cases t <;> rfl

theorem loadTables_corrected_iff {st : StoredTables} {t : TableName} {P : Prop} (h : st.correctedMark t = true ↔ P) :
    (loadTables st).corrected[t.ix] = true ↔ P := by
  rw [loadTables_corrected]
  exact h

end Sys2Proof.Machine
end

section
/-! RESTORE (R28, R175, R178): the request, the load, and what another lock kind makes of a drive request (log 48). -/

namespace Sys2Proof.Machine

/-! ## Another lock kind -/

section
variable {old e : Env} {d : DoorNo} {g : Segment}

theorem driveUnder_eq (k : LockKind) (x : Engine) : x.driveUnder k = match k, x.state with
    | .motor, _ => false
    | .magnetic, .secured => true
    | .magnetic, .released => false
    | .strike, .secured => false
    | .strike, .released => true
    | _, _ => x.drive := by
  unfold Engine.driveUnder
  cases k <;> cases x.state <;> rfl

/-- The states and the latch under which LOCK_DRIVE is not the drive request (R104). -/
def Door.levelStands (latch : Bool) (x : Door) : Prop := latch = true ∨ x.eng.state = .outOfService ∨ x.eng.state = .holding

theorem lockLevel_requested {latch : Bool} {p : ProfileEntry} {x : Door} (h : ¬ x.levelStands latch) :
    x.lockLevel latch p = x.eng.drive := by
  obtain ⟨hl, h⟩ := not_or.mp h
  obtain ⟨ho, hh⟩ := not_or.mp h
  unfold Door.lockLevel
  rw [if_neg hl]
  split
  · next hs => exact absurd hs ho
  · next hs => exact absurd hs hh
  · rfl

/-- Where LOCK_DRIVE is not the drive request, a change of the request leaves it. -/
theorem lockLevel_stands {latch : Bool} {p : ProfileEntry} {x : Door} (h : x.levelStands latch) (on : Bool) (c : Charge) :
    ({ x with charge := c, eng := { x.eng with drive := on } } : Door).lockLevel latch p = x.lockLevel latch p := by
  unfold Door.lockLevel
  rcases h with h | h | h
  · simp only [h, if_true]
  · simp only [h]
  · simp only [h]
    rfl


theorem rekind_same (h : (old.profile d).lockKind = (e.profile d).lockKind
    ∨ (g.door d).eng.driveUnder (e.profile d).lockKind = (g.door d).eng.drive) : rekindDoor old e d g = g :=
  if_pos (h.imp id Eq.symm)

theorem rekind_on (hk : (old.profile d).lockKind ≠ (e.profile d).lockKind)
    (hon : (g.door d).eng.driveUnder (e.profile d).lockKind = true) (hd : (g.door d).eng.drive = false) :
    rekindDoor old e d g = g.putDoor d { g.door d with eng := { (g.door d).eng with drive := true } } := by
  have hne : ¬ ((old.profile d).lockKind = (e.profile d).lockKind
      ∨ (g.door d).eng.drive = (g.door d).eng.driveUnder (e.profile d).lockKind) := by
    rw [hon, hd]
    simp [hk]
  unfold rekindDoor
  dsimp only
  rw [if_neg hne, if_pos hon]
  unfold updEng
  by_cases hs : (g.door d).levelStands g.fire.latch
  · exact upd_same_level _ _ _ _ (lockLevel_stands hs true (g.door d).charge)
  · exact upd_of_off _ ((lockLevel_requested hs).trans hd)

theorem rekind_off (hk : (old.profile d).lockKind ≠ (e.profile d).lockKind)
    (hoff : (g.door d).eng.driveUnder (e.profile d).lockKind = false) (hd : (g.door d).eng.drive = true) :
    rekindDoor old e d g = consider e (updEng e d (fun x => { x with drive := false })
      (g.putDoor d { g.door d with charge := (g.door d).afterDriveOff (old.profile d) })) := by
  have hne : ¬ ((old.profile d).lockKind = (e.profile d).lockKind
      ∨ (g.door d).eng.drive = (g.door d).eng.driveUnder (e.profile d).lockKind) := by
    rw [hoff, hd]
    simp [hk]
  unfold rekindDoor
  dsimp only
  rw [if_neg hne, if_neg (by simp [hoff])]
  rfl

/-- A drive request that goes off clears the counts where it drove LOCK_DRIVE (R104). -/
theorem updEng_off (x : Door) (hd : x.eng.drive = true) [Decidable (x.levelStands g.fire.latch)] :
    updEng e d (fun x => { x with drive := false }) (g.putDoor d x) = g.putDoor d { x with
      eng := { x.eng with drive := false }, sup := if x.levelStands g.fire.latch then x.sup else ⟨0, 0⟩ } := by
  by_cases hs : x.levelStands g.fire.latch
  · rw [if_pos hs]
    exact updEng_put _ (lockLevel_stands hs false x.charge)
  · have hon : x.lockLevel g.fire.latch (e.profile d) = true := (lockLevel_requested hs).trans hd
    have hoff : ({ x with eng := { x.eng with drive := false } } : Door).lockLevel g.fire.latch (e.profile d) = false :=
      lockLevel_requested (x := { x with eng := { x.eng with drive := false } }) hs
    rw [if_neg hs]
    unfold updEng Segment.upd
    dsimp only
    rw [door_putDoor_same, putDoor_fire, hon, hoff, putDoor_putDoor, putDoor_putDoor]
    rfl

theorem profileChanged_eq : profileChanged old e d g = reconcileProfile e d
    (if (old.profile d).functions = (e.profile d).functions ∧ (old.profile d).inverted = (e.profile d).inverted
      then rekindDoor old e d g else remapDoor old e d (rekindDoor old e d g)) := by
  unfold profileChanged ProfileEntry.remapped
  dsimp only
  by_cases h : (old.profile d).functions = (e.profile d).functions ∧ (old.profile d).inverted = (e.profile d).inverted
  · rw [if_pos h, if_neg (by simp [h.1, h.2])]
  · rw [if_neg h, if_pos (by simpa [imp_iff_not_or] using not_and_or.mp h)]

end

/-! ## The request -/

section
variable {s : State} {tb : TableName}

theorem restoreRefused_iff (tb : TableName) (s : State) : restoreRefused tb s = true ↔
    s.seg.seqr.run.isSome = true ∨ s.seg.seqr.queue ≠ []
      ∨ ((tb = .door ∨ tb = .profile) ∧ ∃ d, (s.seg.door d).eng.state.settled = false) := by
  unfold restoreRefused
  simp [List.any_eq_true, mem_allDoors, or_assoc]

theorem listMany_seqr (e : Env) (k : Kind) (n : Nat) (g : Segment) : (listMany e k n g).seqr = g.seqr := by
  induction n generalizing g with
  | zero => rfl
  | succ n ih => exact ih _

theorem restoredFired_get (old new : Tables) (fired : Vector Bool 48) (i : Fin 48) :
    (restoredFired old new fired)[i] = (fired[i] && old.dayplan[i].value == new.dayplan[i].value) := vgen_get _ _ i

/-- What a restored table leaves of the marks of the day plan (R28). -/
theorem restoreTable_fired (tb : TableName) (s : State) (i : Fin 48) : (restoreTable tb s).clock.fired[i] = (s.clock.fired[i]
    && (tb != .dayplan || s.work.dayplan[i].value == (restoreTable tb s).work.dayplan[i].value)) := by
  have hfired : (restoreTable tb s).clock.fired = if tb = .dayplan
      then restoredFired s.work (s.work.replace (loadTables s.stored) tb) s.clock.fired else s.clock.fired := rfl
  have hwork : (restoreTable tb s).work = s.work.replace (loadTables s.stored) tb := rfl
  rw [hfired, hwork]
  by_cases h : tb = .dayplan
  · rw [if_pos h, restoredFired_get]
    simp [h]
  · rw [if_neg h]
    simp [h]

theorem restoreTable_seg (tb : TableName) (s : State) : (restoreTable tb s).seg = settle (restoreTable tb s).env
    (restoredEffect s.fireInHigh tb s.env (restoreTable tb s).env
      (listMany (restoreTable tb s).env .storeDefect ((restoreTable tb s).work.defects tb) s.seg)) := by
  cases tb <;> rfl

end

end Sys2Proof.Machine

namespace Sys2Proof

open Machine

/-- Settles O34: the request by its tests, the segment by the table's effect, the load by the lemmas about it. -/
theorem restoreReloads : Obligations.RestoreReloads := by
  refine ⟨fun h table s ha => ?_, fun st => ?_, fun old e d g => ?_⟩
  · have hserve : serve (tableRequest .restore h table) s = serveRestore table.toNat s := rfl
    refine ⟨fun ht => exec_refused rfl ha (hserve.trans ?_), fun tb htb => ⟨fun hw => exec_refused rfl ha (hserve.trans ?_),
      fun hw hr => exec_refused rfl ha (hserve.trans ?_), fun hw hr hq hd => ?_⟩⟩
    · rw [serveRestore, tableName_ofCode_ge ht]
    · rw [serveRestore, tableName_ofCode htb]
      exact if_pos hw
    · rw [serveRestore, tableName_ofCode htb]
      exact (if_neg (by simp [hw])).trans (if_pos ((restoreRefused_iff tb s).mpr hr))
    · have hnot : ¬ restoreRefused tb s = true := fun hc => by
        rcases (restoreRefused_iff tb s).mp hc with hrun | hqueue | ⟨htab, d, hset⟩
        · simp [hr] at hrun
        · exact hqueue hq
        · exact Bool.false_ne_true (hset.symm.trans (hd htab d))
      have served : exec (.restore h table) s = .next (passing (replyTo (tableRequest .restore h table) .done
          ((s.work.replace (loadTables s.stored) tb).defects tb) s) (restoreTable tb s)) :=
        exec_served rfl ha (hserve.trans (by
          rw [serveRestore, tableName_ofCode htb]
          exact (if_neg (by simp [hw])).trans (if_neg hnot)))
      refine ⟨_, served, rfl, rfl, rfl, rfl, rfl, restoreTable_fired tb s, rfl, fun h1 h2 h3 => ?_, fun h1 => ?_, fun h1 => ?_, fun h1 => ?_⟩
      · refine (restoreTable_seg tb s).trans ?_
        have hnone : (listMany (restoreTable tb s).env .storeDefect ((restoreTable tb s).work.defects tb) s.seg).seqr.run = none := by
          rw [listMany_seqr, hr]
        cases tb with
        | segment => exact absurd rfl h1
        | door => exact absurd rfl h2
        | profile => exact absurd rfl h3
        | _ => exact settle_of_no_run _ _ hnone
      · subst h1
        refine (restoreTable_seg .segment s).trans ?_
        exact congrArg (settle _) ((judgeFireIn_eq _ _).trans (ite_not ..))
      · subst h1
        exact restoreTable_seg .door s
      · subst h1
        exact restoreTable_seg .profile s
  · refine ⟨load_eq _ _, fun d => (loadAll_get _ _ d).trans (load_eq _ _), fun d => (loadAll_get _ _ d).trans (load_eq _ _),
      fun d => (loadAll_get _ _ d).trans (load_eq _ _), fun d => (loadAll_get _ _ d).trans (load_eq _ _), fun i => ⟨fun ht => ?_, fun ht => ?_⟩,
      fun i => ?_, fun i => loadGroupmap_defective_unused, fun y => ?_, loadGroupmap_sorted _, fun j k => placeGroupMap_front, ?_, ?_, ?_, ?_,
      ?_, ?_, ?_⟩
    · exact markDuplicates_twice _ ((twice_load _ _ _).mpr ht)
    · exact ((markDuplicates_once _ fun hc => ht ((twice_load _ _ _).mp hc)).trans (loadAll_get _ _ i)).trans (load_eq _ _)
    · exact (loadGroupmap_defective _ i).trans (or_congr_right (twice_load _ _ _))
    · exact (loadGroupmap_used _ y).trans (exists_congr fun i => and_congr_right fun _ => not_congr (twice_load _ _ _))
    · exact loadTables_corrected_iff (t := .segment) (corrected_iff _)
    · exact loadTables_corrected_iff (t := .slotmap) (anyCorrected_iff _)
    · exact loadTables_corrected_iff (t := .groupmap) (anyCorrected_iff _)
    · exact loadTables_corrected_iff (t := .door) (anyCorrected_iff _)
    · exact loadTables_corrected_iff (t := .profile) (anyCorrected_iff _)
    · exact loadTables_corrected_iff (t := .program) (anyCorrected_iff _)
    · exact loadTables_corrected_iff (t := .dayplan) (anyCorrected_iff _)
  · have hdrive := driveUnder_eq (e.profile d).lockKind (g.door d).eng
    refine ⟨fun h => rekind_same (h.imp id fun h => hdrive.trans h), fun hk hon hd => rekind_on hk (hdrive.trans hon) hd,
      fun hk hoff hd => (rekind_off hk (hdrive.trans hoff) hd).trans ?_, profileChanged_eq⟩
    let _ : Decidable (Door.levelStands g.fire.latch { g.door d with charge := (g.door d).afterDriveOff (old.profile d) }) :=
      inferInstanceAs (Decidable (_ ∨ _ ∨ _))
    rw [updEng_off { g.door d with charge := (g.door d).afterDriveOff (old.profile d) } hd, afterDriveOff_eq]
    rfl

end Sys2Proof
end

section
/-! The end of the load (R15, R45, R76, R98, R113, R175): the doors' entry states, the pollers, the exceptions that have waited. -/

namespace Sys2Proof.Machine

/-! ## Exceptions of one kind, several times -/

section
variable {e : Env} {k : Kind} {xs : List ExceptionEntry} {g : Segment}

/-- The entry that n exceptions of one kind without a door leave, where they are the first (R173). -/
def listedOnce (e : Env) (k : Kind) (n : Nat) : List ExceptionEntry :=
  if n = 0 then [] else [⟨none, k, none, e.minute, e.minute, min 255 n⟩]

theorem listMany_eq (e : Env) (k : Kind) (n : Nat) (g : Segment) :
    listMany e k n g = { g with exceptions := (listMany e k n g).exceptions } := by
  induction n generalizing g with
  | zero => rfl
  | succ n ih => exact ih _

theorem listMany_succ (n : Nat) (g : Segment) : listMany e k (n + 1) g = listException e none k none (listMany e k n g) := by
  induction n generalizing g with
  | zero => rfl
  | succ n ih => exact ih _

/-- The exceptions of a kind that the list does not hold, where it has room. -/
theorem listMany_exceptions (hx : ∀ x ∈ xs, x.kind ≠ k) (hl : xs.length < 32) (hg : g.exceptions = xs) (n : Nat) :
    (listMany e k n g).exceptions = xs ++ listedOnce e k n := by
  have hnone : ¬ ∃ x ∈ xs, x.door = none ∧ x.kind = k := fun ⟨x, hm, _, hk⟩ => hx x hm hk
  induction n with
  | zero => rw [show listMany e k 0 g = g from rfl, hg]; simp [listedOnce]
  | succ n ih =>
    rw [listMany_succ]
    show handException _ none k none e.minute (listMany e k n g).exceptions = _
    rw [ih]
    by_cases hn : n = 0
    · subst hn
      rw [show listedOnce e k 0 = [] from rfl, List.append_nil, handException_new hnone, if_pos hl]
      rfl
    · rw [handException_recurs ⟨⟨none, k, none, e.minute, e.minute, min 255 n⟩, by simp [listedOnce, hn], rfl, rfl⟩]
      have hsame : xs.map (fun x => if x.door = none ∧ x.kind = k then x.recur e.minute none else x) = xs :=
        (List.map_congr_left fun x hm => if_neg fun h => hx x hm h.2).trans (List.map_id _)
      rw [List.map_append, hsame]
      simp only [listedOnce, if_neg hn, if_neg (Nat.succ_ne_zero n), List.map_cons, List.map_nil, true_and, if_true, ExceptionEntry.recur]
      refine congrArg (fun c => xs ++ [⟨none, k, none, e.minute, e.minute, c⟩]) ?_
      omega

end

/-! ## The doors' entry states -/

section
variable {e : Env} {g : Segment}

/-- The segment before the load has ended: every door as at power-on. -/
def Fresh (p : Params) (g : Segment) : Prop := ∀ d, g.door d = Door.initial p

theorem lockLevel_undriven {latch : Bool} {p : ProfileEntry} {x : Door} (hd : x.eng.drive = false) (hh : x.drop.held = none) :
    x.lockLevel latch p = false := by
  have hheld : x.heldDrive p = false := by
    unfold Door.heldDrive
    rw [hh]
  unfold Door.lockLevel
  cases latch with
  | true => rfl
  | false =>
    rw [if_neg Bool.false_ne_true]
    split
    · rfl
    · exact hheld
    · exact hd

theorem entered_of_undriven {d : DoorNo} (st : DoorState) (hd : (g.door d).eng.drive = false) (hh : (g.door d).drop.held = none) :
    enterState e d st g = g.putDoor d { g.door d with eng := (g.door d).eng.enter st } :=
  upd_of_off _ (lockLevel_undriven hd hh)

/-- The doors of a fresh segment, each in its entry state; nothing else of the segment changes but the queue. -/
theorem enterDoors_fresh {p : Params} (h : Fresh p g) :
    (∀ d, (enterDoors e g).door d = { Door.initial p with eng := (Engine.initial p).enter (entryState e (.initial p) d) })
    ∧ enterDoors e g = { g with queue := [], doors := (enterDoors e g).doors } := by
  obtain ⟨⟨-, hrest⟩, hdoors⟩ := forDoors_all
    (J := fun k => (∀ d, (k.door d).eng.drive = false ∧ (k.door d).drop.held = none) ∧ k = { g with queue := [], doors := k.doors })
    (f := fun d g => enterState e d (entryState e (g.door d).eng d) g)
    (F := fun d x => { x with eng := x.eng.enter (entryState e x.eng d) })
    (fun d k hk => by
      obtain ⟨hdrive, hrest⟩ := hk
      rw [entered_of_undriven _ (hdrive d).1 (hdrive d).2]
      refine ⟨⟨fun j => ?_, ?_⟩, door_putDoor_same .., fun j hj => door_putDoor_ne _ _ _ _ hj⟩
      · rw [door_putDoor]
        split
        · exact hdrive d
        · exact hdrive j
      · conv_lhs => rw [hrest]
        rfl)
    (g := { g with queue := [] }) ⟨fun d => by rw [show Segment.door { g with queue := [] } d = Door.initial p from h d]; exact ⟨rfl, rfl⟩, rfl⟩
  refine ⟨fun d => (hdoors d).trans ?_, hrest⟩
  dsimp only
  rw [show Segment.door { g with queue := [] } d = Door.initial p from h d]
  rfl

/-! ## The end of the load -/

/-- The segment at the end of the load, before learning is tested. -/
def loaded (high : Bool) (e : Env) (g : Segment) : Segment :=
  listWaiting e (judgeFireIn (fireReading e high) (startClocks e (startPollers e (enterDoors e g))))

theorem loadEnds_eq (high : Bool) (e : Env) (g : Segment) : loadEnds high e g = tryInitial e (testLearning e (loaded high e g)) := rfl

/-- The FIRE_IN reader that takes a reading: a change begins its persistence anew. -/
def Fire.taking (active : Bool) (f : Fire) : Fire :=
  { f with reading := active, persistence := if active = f.reading then f.persistence else 0 }

theorem judgeFireIn_rest (active : Bool) (g : Segment) : judgeFireIn active g = { g with fire := g.fire.taking active } := by
  unfold Fire.taking
  rw [judgeFireIn_eq]
  by_cases h : active = g.fire.reading
  · rw [if_neg (not_not.mpr h), if_pos h, h]
  · rw [if_pos h, if_neg h]

/-- The segment with the pollers and the clocks started. -/
def polling (e : Env) (g : Segment) : Segment := startClocks e (startPollers e (enterDoors e g))

/-- The segment with FIRE_IN judged too. -/
def started (high : Bool) (e : Env) (g : Segment) : Segment :=
  { polling e g with fire := (polling e g).fire.taking (fireReading e high) }

theorem started_exceptions (high : Bool) (e : Env) (g : Segment) :
    (started high e g).exceptions = (enterDoors e g).exceptions ∧ (started high e g).seqr = (enterDoors e g).seqr := by
  unfold started polling
  generalize enterDoors e g = k
  exact ⟨rfl, rfl⟩

theorem loaded_started (high : Bool) (e : Env) (g : Segment) : loaded high e g = listWaiting e (started high e g) :=
  congrArg (listWaiting e) (judgeFireIn_rest _ (polling e g))

theorem listWaiting_eq (e : Env) (g : Segment) :
    listWaiting e g = { g with seqr := { g.seqr with unlistedDrops := 0 }, exceptions := (listWaiting e g).exceptions } := by
  unfold listWaiting
  generalize e.work.allDefects = n
  dsimp only
  rw [listMany_eq e .runDropped, listMany_eq e .storeDefect]

theorem listMany_seqr_irrelevant (e : Env) (k : Kind) (n : Nat) (q : Sequencer) (g : Segment) :
    (listMany e k n { g with seqr := q }).exceptions = (listMany e k n g).exceptions := by
  induction n generalizing g with
  | zero => rfl
  | succ n ih => exact ih (listException e none k none g)

theorem listWaiting_exceptions (e : Env) (g : Segment) : (listWaiting e g).exceptions =
    (listMany e .runDropped g.seqr.unlistedDrops (listMany e .storeDefect e.work.allDefects g)).exceptions := by
  unfold listWaiting
  generalize e.work.allDefects = n
  dsimp only
  rw [listMany_seqr_irrelevant, listMany_seqr]

/-- The exceptions that have waited, on an empty list: the defective entries, then the dropped requests (log 15). -/
theorem loaded_exceptions (high : Bool) (hx : (enterDoors e g).exceptions = []) : (loaded high e g).exceptions =
    listedOnce e .storeDefect e.work.allDefects ++ listedOnce e .runDropped (enterDoors e g).seqr.unlistedDrops := by
  have hdefects := listMany_exceptions (e := e) (k := .storeDefect) (xs := []) (g := started high e g) (by simp) (by decide)
    ((started_exceptions ..).1.trans hx) e.work.allDefects
  rw [List.nil_append] at hdefects
  rw [loaded_started, listWaiting_exceptions, (started_exceptions ..).2]
  refine listMany_exceptions (fun x hm => ?_) ?_ hdefects _
  · unfold listedOnce at hm
    split at hm
    · simp at hm
    · obtain rfl := List.mem_singleton.mp hm
      exact Kind.noConfusion
  · unfold listedOnce
    split
    · decide
    · exact (by decide : 1 < 32)

/-- Each branch before its first slot: none under way, the lowest polled drop next (R50). -/
def polledBranches (e : Env) (g : Segment) : Vector Branch 4 := vgen 4 fun b => { g.branch b with visiting := none, next := lowestDrop e b g }

/-- The segment at the end of the load, block by block. -/
theorem loaded_eq (high : Bool) (hrest : enterDoors e g = { g with queue := [], doors := (enterDoors e g).doors }) :
    loaded high e g = { g with
      queue := [], doors := (enterDoors e g).doors, branches := polledBranches e (enterDoors e g)
      window := ⟨e.work.segment.value.windowLength, 0⟩, flash := ⟨false, 0⟩, fire := g.fire.taking (fireReading e high)
      seqr := { g.seqr with unlistedDrops := 0 }, exceptions := (loaded high e g).exceptions } := by
  have hwaits : loaded high e g = { started high e g with
      seqr := { (started high e g).seqr with unlistedDrops := 0 }, exceptions := (loaded high e g).exceptions } := by
    rw [loaded_started]
    exact listWaiting_eq ..
  refine hwaits.trans ?_
  generalize (loaded high e g).exceptions = xs
  unfold started polling
  generalize enterDoors e g = k at hrest
  rw [hrest]
  rfl

theorem loaded_doors (high : Bool) (hrest : enterDoors e g = { g with queue := [], doors := (enterDoors e g).doors }) :
    (loaded high e g).doors = (enterDoors e g).doors := by
  have hdoors := congrArg Segment.doors (loaded_eq high hrest)
  generalize (enterDoors e g).doors = v at hdoors ⊢
  exact hdoors

theorem loaded_branches (high : Bool) (hrest : enterDoors e g = { g with queue := [], doors := (enterDoors e g).doors }) :
    (loaded high e g).branches = polledBranches e (enterDoors e g) := by
  have hbranches := congrArg Segment.branches (loaded_eq high hrest)
  generalize polledBranches e (enterDoors e g) = v at hbranches ⊢
  exact hbranches

/-! ### Learning -/

theorem tryInitial_learning (h : g.learning = true) : tryInitial e g = g := by
  unfold tryInitial
  rw [h]
  simp

/-- With no door in HOLDING the initial application hands nothing. -/
theorem tryInitial_none (h : holdingDoors g = []) : ∃ b, tryInitial e g = { g with initialDone := b } := by
  unfold tryInitial
  split
  · rw [h]
    exact ⟨true, rfl⟩
  · exact ⟨g.initialDone, rfl⟩

/-- The end of the load tests learning (R98): it goes on where a door is fitted, and ends at once where none is. -/
theorem tested_fresh (hl : g.learning = true) (hload : e.loaded = true) (hq : g.queue = [])
    (hd : ∀ d, (g.door d).drop.firstReply = false ∧ (g.door d).drop.lost = false)
    (hs : ∀ d, e.fitted d = false → (g.door d).eng.state ≠ .holding) :
    ∃ l b, tryInitial e (testLearning e g) = { g with learning := l, initialDone := b } ∧ (l = true ↔ ∃ d, e.fitted d = true) := by
  have hlearned : learned e g = true ↔ ∀ d, e.fitted d = false := by
    unfold learned
    simp [hload, mem_allDoors, hd]
  unfold testLearning
  by_cases h : learned e g = true
  · have hnone := hlearned.mp h
    rw [if_pos (by simp [hl, h]), consider_no_queue (g := { g with learning := false }) hq]
    have hholding : ∀ b, holdingDoors { g with learning := false, initialDone := b } = [] := fun b => by
      unfold holdingDoors
      rw [List.filter_eq_nil_iff]
      exact fun d _ => by
        rw [beq_iff_eq]
        exact hs d (hnone d)
    obtain ⟨b, hb⟩ := tryInitial_none (e := e) (g := { g with learning := false }) (hholding g.initialDone)
    obtain ⟨b', hb'⟩ := tryInitial_none (e := e) (g := { g with learning := false, initialDone := b }) (hholding b)
    rw [hb, hb']
    exact ⟨false, b', rfl, by simp [hnone]⟩
  · rw [if_neg (by simp [h]), tryInitial_learning hl]
    refine ⟨true, g.initialDone, by rw [← hl], ?_⟩
    simp only [true_iff]
    by_contra hn
    exact h (hlearned.mpr fun d => by
      by_contra hf
      exact hn ⟨d, by simpa using hf⟩)

theorem door_of_doors {g h : Segment} (d : DoorNo) (heq : g.doors = h.doors) : g.door d = h.door d := congrArg (fun v => v[d]) heq

theorem loadEnds_learning {p : Params} (high : Bool) (h : Fresh p g) (hload : e.loaded = true) (hl : g.learning = true) :
    ∃ l b, loadEnds high e g = { loaded high e g with learning := l, initialDone := b } ∧ (l = true ↔ ∃ d, e.fitted d = true) := by
  obtain ⟨hdoors, hrest⟩ := enterDoors_fresh (e := e) h
  have heq := loaded_eq high hrest
  have hdoor : ∀ d, (loaded high e g).door d = (enterDoors e g).door d := fun d => door_of_doors d (loaded_doors high hrest)
  rw [loadEnds_eq]
  refine tested_fresh ((congrArg Segment.learning heq).trans hl) hload (congrArg Segment.queue heq) (fun d => ?_) fun d hf => ?_
  · rw [hdoor, hdoors]
    exact ⟨rfl, rfl⟩
  · rw [hdoor, hdoors]
    show entryState e (.initial p) d ≠ .holding
    unfold entryState
    rw [hf]
    exact DoorState.noConfusion

theorem branch_polledBranches (b : BranchNo) (g h : Segment) (hb : h.branches = polledBranches e g) :
    h.branch b = { g.branch b with visiting := none, next := lowestDrop e b g } := by
  unfold Segment.branch
  rw [hb]
  exact vgen_get _ _ b

/-- With no drop leaving, the drops polled are those of the fitted doors. -/
theorem lowestDrop_of_none_leaving (b : BranchNo) (hd : ∀ d, (g.door d).drop.leaving = .no) :
    lowestDrop e b g = allDrops.find? fun k => e.fitted (doorAt b k) := by
  unfold lowestDrop polled
  simp [hd]

theorem entryState_loaded {p : Params} {d : DoorNo} (hload : e.loaded = true) : entryState e (.initial p) d =
    if e.work.door[d].defective || !e.work.door[d].value.fitted then .absent
    else if e.work.profile[e.work.door[d].value.profile].defective then .outOfService else .holding := by
  have hfit : (!e.fitted d) = (e.work.door[d].defective || !e.work.door[d].value.fitted) := by
    unfold Env.fitted Env.doorEntry
    rw [hload, Bool.true_and, Bool.not_and, Bool.not_not]
  have hdef : (e.profileDefective d || !(Engine.initial p).inService) = e.work.profile[e.work.door[d].value.profile].defective :=
    Bool.or_false _
  unfold entryState
  rw [hfit, hdef]

/-- Segment k is fresh segment g at the end of the load (R113, R50, R45, R76, R98, R164, R175). -/
structure LoadEnded (high : Bool) (e : Env) (p : Params) (g k : Segment) : Prop where
  door : ∀ d, k.door d = { Door.initial p with eng := (Engine.initial p).enter (entryState e (.initial p) d) }
  learning : k.learning = true ↔ ∃ d, e.fitted d = true
  branch : ∀ b, (k.branch b).visiting = none ∧ (k.branch b).next = allDrops.find? fun j => e.fitted (doorAt b j)
  window : k.window = ⟨e.work.segment.value.windowLength, 0⟩
  flash : k.flash.on = false
  fire : k.fire = g.fire.taking (fireReading e high)
  exceptions : g.exceptions = [] → k.exceptions =
    listedOnce e .storeDefect e.work.allDefects ++ listedOnce e .runDropped g.seqr.unlistedDrops
  run : k.seqr.run = g.seqr.run

theorem loadEnds_fresh {p : Params} (high : Bool) (h : Fresh p g) (hload : e.loaded = true) (hl : g.learning = true) :
    LoadEnded high e p g (loadEnds high e g) := by
  obtain ⟨hdoors, hrest⟩ := enterDoors_fresh (e := e) h
  obtain ⟨l, b, hends, hlearn⟩ := loadEnds_learning high h hload hl
  have heq := loaded_eq high hrest
  have hbranch := fun b => branch_polledBranches b (enterDoors e g) (loaded high e g) (loaded_branches high hrest)
  have hdoor := fun d => (door_of_doors d (loaded_doors high hrest)).trans (hdoors d)
  have hxs : g.exceptions = [] → (loaded high e g).exceptions =
      listedOnce e .storeDefect e.work.allDefects ++ listedOnce e .runDropped g.seqr.unlistedDrops := fun hx => by
    have hseqr : (enterDoors e g).seqr = g.seqr := by rw [hrest]
    have hlist : (enterDoors e g).exceptions = g.exceptions := by rw [hrest]
    rw [← hseqr]
    exact loaded_exceptions high (hlist.trans hx)
  have hpolled := fun b => lowestDrop_of_none_leaving (e := e) (g := enterDoors e g) b fun d => by rw [hdoors]; rfl
  rw [hends]
  generalize loaded high e g = k at heq hbranch hdoor hxs ⊢
  generalize enterDoors e g = m at heq hbranch hpolled
  exact {
    door := hdoor
    learning := hlearn
    branch := fun b => ⟨congrArg Branch.visiting (hbranch b), (congrArg Branch.next (hbranch b)).trans (hpolled b)⟩
    window := congrArg Segment.window heq
    flash := congrArg (fun k => k.flash.on) heq
    fire := congrArg Segment.fire heq
    exceptions := hxs
    run := congrArg (fun k => k.seqr.run) heq }

theorem countMarks_eq {α : Type} {n : Nat} (v : Vector (Working α) n) : countMarks v = v.toList.countP fun x => x.defective :=
  List.countP_eq_length_filter.symm

theorem allDefects_eq (w : Tables) : w.allDefects =
    (if w.segment.defective then 1 else 0) + w.slotmap.toList.countP (fun x => x.defective)
      + w.groupmap.toList.countP (fun x => x.defective) + w.door.toList.countP (fun x => x.defective)
      + w.profile.toList.countP (fun x => x.defective) + w.program.toList.countP (fun x => x.defective)
      + w.dayplan.toList.countP (fun x => x.defective) := by
  simp only [← countMarks_eq, Tables.allDefects, TableName.all, List.map_cons, List.map_nil, List.sum_cons, List.sum_nil,
    Tables.defects]
  omega

end

end Sys2Proof.Machine

namespace Sys2Proof
open Machine

/-- Settles O10: at the end of the load every door of a fresh segment takes its entry state, the pollers and clocks start, the
exceptions that have waited are listed, and learning goes on where a door is fitted; with no load under way nothing happens. -/
theorem loadCompletes : Obligations.LoadCompletes := by
  intro s
  refine ⟨fun hs => ?_, fun hpow => ?_⟩
  · obtain ⟨p, hdoors⟩ := hs.doors
    have hloading : s.power.isLoading = true := by rcases hs.loading with h | h <;> rw [h] <;> rfl
    let s' : State := { s with power := .running, trunk := { s.trunk with inserted := true } }
    have hended : LoadEnded s.fireInHigh s'.env p s.seg (loadEnds s.fireInHigh s'.env s.seg) :=
      loadEnds_fresh s.fireInHigh hdoors rfl hs.learning
    have hexec : exec .tableLoadComplete s = .next { s' with seg := loadEnds s.fireInHigh s'.env s.seg } :=
      congrArg Host.Outcome.next ((if_pos hloading).trans (settled_of_no_run _ (hended.run.trans hs.run)))
    refine ⟨_, hexec, rfl, rfl, rfl, ⟨rfl, rfl, rfl⟩, ?_⟩
    clear hexec
    generalize loadEnds s.fireInHigh s'.env s.seg = k at hended ⊢
    refine ⟨fun d => ?_, fun d => ?_, hended.learning, hended.branch, hended.window, hended.flash, hended.fire, fun hx => ?_⟩
    · exact (congrArg (fun x => x.eng.state) (hended.door d)).trans (entryState_loaded rfl)
    · exact ⟨congrArg (fun x => x.eng.target) (hended.door d), congrArg (fun x => x.eng.drive) (hended.door d)⟩
    · dsimp only
      rw [← allDefects_eq]
      exact hended.exceptions hx
  · refine congrArg Host.Outcome.next (if_neg ?_)
    rcases hpow with h | h <;> rw [h] <;> exact Bool.noConfusion

end Sys2Proof
end

section
/-! A door is held against its profile's mark (R38). -/

namespace Sys2Proof.Machine

section
variable {e : Env} {d : DoorNo} {g : Segment}

theorem reconcileProfile_returns (hf : e.fitted d = true) (hp : e.profileDefective d = false) (hs : (g.door d).eng.state = .outOfService)
    (hi : (g.door d).eng.inService = true) : reconcileProfile e d g = returnToService e d g := by
  unfold reconcileProfile
  simp [hf, hp, hs, hi]

theorem reconcileProfile_leaves (hf : e.fitted d = true) (hp : e.profileDefective d = true) (hs : (g.door d).eng.state ≠ .outOfService) :
    reconcileProfile e d g = takeOutOfService e d g := by
  unfold reconcileProfile
  simp [hf, hp, hs]

theorem takeOut_absent (hs : (g.door d).eng.state = .absent) : takeOutOfService e d g = g := if_pos hs

theorem reconcileProfile_stays
    (hr : ¬ (e.fitted d = true ∧ e.profileDefective d = false ∧ (g.door d).eng.state = .outOfService ∧ (g.door d).eng.inService = true))
    (hl : ¬ (e.fitted d = true ∧ e.profileDefective d = true ∧ (g.door d).eng.state ≠ .outOfService ∧ (g.door d).eng.state ≠ .absent)) :
    reconcileProfile e d g = g := by
  unfold reconcileProfile
  dsimp only
  cases hf : e.fitted d with
  | false => rfl
  | true =>
    cases hp : e.profileDefective d with
    | true =>
      by_cases hs : (g.door d).eng.state = .outOfService
      · simp [hs]
      · have habsent : (g.door d).eng.state = .absent := by
          by_contra ha
          exact hl ⟨hf, hp, hs, ha⟩
        simp [habsent, takeOut_absent]
    | false =>
      have hstay : ¬ ((g.door d).eng.state = .outOfService ∧ (g.door d).eng.inService = true) := fun ⟨hs, hi⟩ => hr ⟨hf, hp, hs, hi⟩
      simp [hstay]

end

end Sys2Proof.Machine
end

section
/-! WRITE of a function code that names no function (R35, R40): `TermFn.ofCode` reads every code from 8 on as NONE. -/

namespace Sys2Proof.Machine

/-- A profile whose terminal 1 serves POSITION. -/
def positioned : ProfileEntry :=
  { State.reset.work.profile[(0 : Fin 8)].value with functions := State.reset.work.profile[(0 : Fin 8)].value.functions.set 0 .position }

/-- The state after a reset, in slot 0 of a frame for address 5, with that profile for profile 0. -/
def framed : State := { State.reset with
  power := .running
  work := { State.reset.work with profile := State.reset.work.profile.set 0 ⟨positioned, false⟩ }
  trunk := { State.reset.trunk with inserted := true, address := some 5, headerValid := true, phase := .slots 0, state := .tracking } }

theorem framed_addressed : Addressed ⟨5, 9⟩ framed := ⟨⟨rfl, rfl, rfl, rfl⟩, rfl, rfl⟩

theorem framed_unstored (t : TableName) : Unstored t framed := fun _ hx => by cases hx

theorem framed_absent (d : DoorNo) : (framed.seg.door d).eng.state = .absent := by
  have hd : State.reset.seg.door d = .initial .default := initial_door _ _ d
  exact congrArg (fun x : Door => x.eng.state) hd

/-- A code that names no function is read as NONE. -/
theorem writeProfileField_nine (x : ProfileEntry) : writeProfileField x 1 9 = .ok (claimFunction x 0 .none) := rfl

/-- The WRITE of function code 9 to terminal 1 of profile 0 is carried out: the terminal serves NONE afterwards. -/
theorem framed_nine : ∃ t, exec (.writeProfile ⟨5, 9⟩ 0 1 9) framed = .next t
    ∧ t.work.profile[(0 : Fin 8)].value.functions[(0 : Fin 6)] = .none := by
  have hserve : serve (fullRequest .write ⟨5, 9⟩ 4 0 1 9) framed = serveWriteProfile (0 : Fin 8).val 1 9 framed :=
    (serveWrite_stored (t := .profile) (i := 0) (field := 1) (v := 9) (by decide) (by decide) rfl).trans (if_neg (not_underStore (framed_unstored _)))
  have hserved := hserve.trans (serveWriteProfile_ok (profileWriteRefusal_none fun d _ => .inl (framed_absent d)) (writeProfileField_nine _))
  refine ⟨_, exec_served rfl framed_addressed hserved, ?_⟩
  exact (congrArg (fun w : Working ProfileEntry => w.value.functions[(0 : Fin 6)]) (Vector.getElem_set_self _)).trans (claimFunction_get _ 0 0 .none)

/-- Refutes O26: the WRITE of function code 9 to a terminal of a profile that no door uses is carried out and stores NONE, where
BAD_VALUE is stated. -/
theorem not_writeProfile : ¬ Obligations.WriteProfile := by
  intro hall
  obtain ⟨-, -, -, hfree, -⟩ := hall.1 ⟨5, 9⟩ 0 1 9 framed 0 framed_addressed rfl (framed_unstored _)
  have hunused : ¬ ∃ d, framed.work.door[d].value.profile = 0 ∧ (framed.seg.door d).eng.state ∈
      [DoorState.warning, .awaitGrant, .driving, .verifying, .cooling, .exitShunt] := fun ⟨d, _, hd⟩ => by
    rw [framed_absent] at hd
    exact absurd hd (by decide)
  have hout : ¬ ∃ d, framed.work.door[d].value.profile = 0
      ∧ (framed.seg.door d).eng.state ≠ .absent ∧ (framed.seg.door d).eng.state ≠ .outOfService := fun ⟨d, _, hd, _⟩ =>
    hd (framed_absent d)
  obtain ⟨-, -, -, hfunction, -⟩ := (hfree hunused).1 hout
  obtain ⟨t, ht, hstored⟩ := framed_nine
  obtain rfl := Host.Outcome.next.inj (ht.symm.trans (hfunction (by decide) (by decide) (by decide)))
  have hsame : framed.work.profile[(0 : Fin 8)].value.functions[(0 : Fin 6)] = .none := hstored
  exact absurd hsame (by decide +kernel)

end Sys2Proof.Machine
end

section
/-! A door whose drop has not been heard (R33, R47, R133): with no sensed posture it settles nowhere on the way to its expected posture. -/

namespace Sys2Proof.Machine

/-- The record of a door that was never heard and has settled at no posture: not monitored, its counts 0, its drive request, if it has
one, no MOTOR's, and nothing to fall back to. -/
structure Door.Unheard (p : ProfileEntry) (x : Door) : Prop where
  reply : x.drop.firstReply = false
  lost : x.drop.lost = false
  enable : x.mon.enable = false
  sup : x.sup = ⟨0, 0⟩
  motor : p.lockKind = .motor → x.eng.drive = false
  state : x.eng.state ∉ [DoorState.secured, .released]
  lastSettled : x.eng.lastSettled ≠ .released
  fallback : x.eng.fallback = .none

/-- What that record turns on. -/
def Door.heardOf (x : Door) := (x.drop.firstReply, x.drop.lost, x.mon.enable, x.sup, x.eng.drive, x.eng.state, x.eng.lastSettled, x.eng.fallback)

namespace Door.Unheard

variable {p : ProfileEntry} {x y : Door}

theorem same (h : x.Unheard p) (hs : y.heardOf = x.heardOf) : y.Unheard p := by
  simp only [Door.heardOf, Prod.mk.injEq] at hs
  obtain ⟨hreply, hlost, henable, hsup, hdrive, hstate, hlast, hfall⟩ := hs
  exact ⟨hreply.trans h.reply, hlost.trans h.lost, henable.trans h.enable, hsup.trans h.sup, fun hm => hdrive.trans (h.motor hm), hstate ▸ h.state,
    hlast ▸ h.lastSettled, hfall.trans h.fallback⟩

theorem enter {st : DoorState} (hst : st ∉ [DoorState.secured, .released]) (h : x.Unheard p) :
    ({ x with eng := x.eng.enter st } : Door).Unheard p where
  reply := h.reply
  lost := h.lost
  enable := h.enable
  sup := h.sup
  motor := h.motor
  state := hst
  lastSettled := by
    show (if st.settled && st != .lost then st else x.eng.lastSettled) ≠ .released
    split
    · exact fun hr => hst (by simp [hr])
    · exact h.lastSettled
  fallback := h.fallback

theorem drive {on : Bool} (hon : p.lockKind = .motor → on = false) (h : x.Unheard p) :
    ({ x with eng := { x.eng with drive := on } } : Door).Unheard p :=
  ⟨h.reply, h.lost, h.enable, h.sup, hon, h.state, h.lastSettled, h.fallback⟩

theorem sensedAs (h : x.Unheard p) (v : Option Posture) : x.sensedAs v p = none := by
  unfold Door.sensedAs
  rw [h.reply, Bool.not_false, Bool.or_true, if_pos rfl]

theorem sensed (h : x.Unheard p) : x.sensed p = none := by
  unfold Door.sensed
  split <;> exact h.sensedAs _

end Door.Unheard

/-- The record of door d is so. -/
def Unheard (e : Env) (d : DoorNo) (g : Segment) : Prop := (g.door d).Unheard (e.profile d)

namespace Unheard

section
variable {e : Env} {d : DoorNo} {g : Segment}

/-! ### Changes of the record -/

theorem put {x : Door} (h : x.Unheard (e.profile d)) : Unheard e d (g.putDoor d x) := by
  unfold Unheard
  rwa [door_putDoor_same]

theorem upd {f : Door → Door} (h : (f (g.door d)).Unheard (e.profile d)) : Unheard e d (g.upd e d f) := by
  unfold Segment.upd
  dsimp only
  split
  · exact put ⟨h.reply, h.lost, h.enable, rfl, h.motor, h.state, h.lastSettled, h.fallback⟩
  · exact put h

theorem still {f : Door → Door} (hf : (f (g.door d)).heardOf = (g.door d).heardOf) (h : Unheard e d g) : Unheard e d (g.upd e d f) :=
  upd (h.same hf)

theorem enterState {st : DoorState} (hst : st ∉ [DoorState.secured, .released]) (h : Unheard e d g) : Unheard e d (enterState e d st g) :=
  upd (Door.Unheard.enter hst h)

theorem setCharge {c : Charge} (h : Unheard e d g) : Unheard e d (setCharge d c g) := put (Door.Unheard.same h rfl)

theorem answer {owed : Option Nat} {o : DoorOutcome} (h : Unheard e d g) : Unheard e d (answer e d owed o g) := by
  unfold Unheard
  rwa [answer_door]

theorem answerOwed {o : DoorOutcome} (h : Unheard e d g) : Unheard e d (answerOwed e d o g) := answer (still rfl h)

theorem raiseKind {k : Kind} {sub : Option SubReason} (h : Unheard e d g) : Unheard e d (raiseKind e d k sub g) := still rfl h

theorem startTimer {n : Nat} (h : Unheard e d g) : Unheard e d (startTimer e d n g) := still rfl h

theorem clearWatch (h : Unheard e d g) : Unheard e d (clearWatch e d g) := still rfl h

theorem startDeferral (h : Unheard e d g) : Unheard e d (startDeferral e d g) :=
  still (f := fun x => { x with eng := { x.eng with deferral := .ofLimit x.eng.params.deferralLimit, deferralSub := 0 } }) rfl h

/-! ### The arbiter -/

theorem driveTo {on : Bool} (hon : (e.profile d).lockKind = .motor → on = false) (h : Unheard e d g) :
    Unheard e d (updEng e d (fun x => { x with drive := on }) g) := upd (Door.Unheard.drive hon h)

theorem grant (h : Unheard e d g) : Unheard e d (grant e d g) := by
  have driving : Unheard e d (Machine.enterState e d .driving (Machine.setCharge d ⟨(e.profile d).runUnits, .run, 0, 0⟩ (dequeue d g))) :=
    enterState (by decide) (setCharge h)
  unfold Machine.grant
  dsimp only
  split
  · split
    · exact still rfl driving
    · exact still rfl driving
  · next hm => exact upd ((Door.Unheard.drive (fun hk => absurd hk hm) driving).same rfl)

theorem revert (h : Unheard e d g) : Unheard e d (revert e d g) := by
  have stopped : Unheard e d (stopWaiting e d g) := still (g := dequeue d g) rfl h
  have hback : ((stopWaiting e d g).door d).revertTo (e.profile d) = (.holding, none) := by
    unfold Door.revertTo
    rw [stopped.fallback]
  unfold Machine.revert
  dsimp only
  rw [hback]
  exact upd (f := fun x => { x with eng := { x.eng.enter .holding with target := none } })
    ((Door.Unheard.enter (st := .holding) (by decide) stopped).same rfl)

theorem refuse (h : Unheard e d g) : Unheard e d (refuse e d g) := revert (raiseKind (answerOwed (g := dequeue d g) h))

theorem consider (h : Unheard e d g) : Unheard e d (consider e g) := by
  have other {f : Segment → Segment} {j : DoorNo} {k : Segment} (hj : j ≠ d) (hf : OnlyDoor j k (f k)) (hk : Unheard e d k) :
      Unheard e d (f k) := by
    unfold Unheard
    rwa [hf d hj.symm]
  refine consider_keeps (fun {k} q _ hk => ?_) (fun {k} q _ hk => ?_) h
  · by_cases hq : q.door = d
    · rw [hq]; exact hk.grant
    · exact other hq ((onlyDoorWork e q.door k).grant rfl (.refl _ _)) hk
  · by_cases hq : q.door = d
    · rw [hq]; exact hk.refuse
    · exact other hq ((onlyDoorWork e q.door k).refuse rfl (.refl _ _)) hk

theorem forceDriveOff (h : Unheard e d g) : Unheard e d (forceDriveOff e d g) := consider (driveTo (fun _ => rfl) (setCharge h))

theorem turnDriveOff (h : Unheard e d g) : Unheard e d (turnDriveOff e d g) := by
  unfold Machine.turnDriveOff
  split <;> [exact h.forceDriveOff; exact h]

theorem setDrive {on : Bool} (hon : (e.profile d).lockKind = .motor → on = false) (h : Unheard e d g) :
    Unheard e d (setDrive e d on g) := by
  unfold Machine.setDrive
  split
  · next ht => exact driveTo (fun hm => ht ▸ hon hm) h
  · exact h.turnDriveOff

theorem leaveHolding (h : Unheard e d g) : Unheard e d (leaveHolding e d g) := by
  unfold Machine.leaveHolding
  dsimp only
  split
  · exact h
  · split
    · exact setDrive (fun _ => rfl) h
    · next hm =>
      split
      · exact setDrive (fun hk => absurd hk hm) h
      · exact setDrive (g := { g with free := g.free + 1 }) (fun hk => absurd hk hm) h

theorem awaitGrant (h : Unheard e d g) : Unheard e d (awaitGrant e d g) := consider (enterState (g := g) (by decide) h)

/-! ### Toward a posture -/

theorem enterFaulted {k : Kind} (h : Unheard e d g) : Unheard e d (enterFaulted e d k g) :=
  answerOwed (raiseKind (upd ((Door.Unheard.enter (st := .faulted) (by decide) h).same rfl)))

theorem enterVerifying (h : Unheard e d g) : Unheard e d (enterVerifying e d g) := by
  have started : Unheard e d (Machine.startTimer e d (e.profile d).verifyTime (Machine.enterState e d .verifying g)) :=
    startTimer (enterState (by decide) h)
  unfold Machine.enterVerifying
  dsimp only
  split
  · rw [Door.Unheard.sensed started, if_neg (by simp)]
    exact started
  · exact started

theorem proceed (h : Unheard e d g) : Unheard e d (proceed e d g) := by
  unfold Machine.proceed whenWired
  split
  · split <;> [exact h.turnDriveOff.enterVerifying; exact h.awaitGrant]
  · exact h.enterFaulted

theorem quietNotice (h : Unheard e d g) : Unheard e d (quietNotice e d g) := by
  unfold Machine.quietNotice
  dsimp only
  split
  · split <;> [exact startTimer (enterState (by decide) h); exact h.proceed]
  · exact h

theorem evaluateWatch (h : Unheard e d g) : Unheard e d (evaluateWatch e d g) := by
  unfold Machine.evaluateWatch
  dsimp only
  split
  · split <;> [exact quietNotice h.clearWatch; exact h]
  · exact h

theorem setWatch (h : Unheard e d g) : Unheard e d (setWatch e d g) := evaluateWatch (still rfl h)

theorem takeReleased {o : DoorOutcome} (h : Unheard e d g) : Unheard e d (takeReleased e d o g) := by
  have left := h.leaveHolding
  have hsensed : ((Machine.leaveHolding e d g).door d).sensedOutside (e.profile d) = none := Door.Unheard.sensedAs left none
  unfold Machine.takeReleased
  dsimp only
  rw [hsensed, if_neg (by simp), if_neg fun hr => left.lastSettled hr.2.2.1]
  split
  · exact left.enterFaulted
  · split <;> [exact left.turnDriveOff.enterVerifying; exact left.awaitGrant]

theorem actOnExpiry (h : Unheard e d g) : Unheard e d (actOnExpiry e d g) := by
  have ended : Unheard e d (updEng e d (fun x => { x with deferral := .none, deferralSub := 0 }) g) := still rfl h
  unfold Machine.actOnExpiry
  dsimp only
  split
  · exact (raiseKind (answerOwed (still rfl ended))).clearWatch.takeReleased
  · have watched := setWatch (still (f := fun x => { x with eng := { x.eng with force := true } }) rfl ended)
    split <;> [exact answerOwed watched; exact watched]

theorem enterQuietWait (h : Unheard e d g) : Unheard e d (enterQuietWait e d g) := by
  have waits : Unheard e d (Machine.setWatch e d (Machine.enterState e d .quietWait g)) := setWatch (enterState (by decide) h)
  unfold Machine.enterQuietWait
  dsimp only
  split <;> [exact waits.actOnExpiry; exact waits]

theorem takeSecured {o : DoorOutcome} (h : Unheard e d g) : Unheard e d (takeSecured e d o g) := by
  have left := h.leaveHolding
  have hsensed : ((Machine.leaveHolding e d g).door d).sensedOutside (e.profile d) = none := Door.Unheard.sensedAs left none
  unfold Machine.takeSecured
  dsimp only
  rw [hsensed, if_neg (by simp)]
  split
  · exact left.enterFaulted
  · exact left.startDeferral.enterQuietWait

/-- The expected posture given to a HOLDING door with no target (R30). -/
theorem giveExpected (h : Unheard e d g) (hs : (g.door d).eng.state = .holding) (ht : (g.door d).eng.target = none) :
    Unheard e d (giveExpected e d g) := by
  unfold Machine.giveExpected
  split
  · next p _ =>
    have begun : Unheard e d (beginAttempt e d (.ofTarget (g.door d).eng.target) (g.door d).eng.target
        (adopt e d p e.catchUp none g)) := by
      have adopted : Unheard e d (adopt e d p e.catchUp none g) := still rfl h.answerOwed
      rw [ht]
      exact upd ⟨adopted.reply, adopted.lost, adopted.enable, adopted.sup, adopted.motor, adopted.state, adopted.lastSettled, rfl⟩
    unfold targetSet
    dsimp only
    rw [hs]
    unfold newAttempt
    cases p with
    | secured => exact begun.takeSecured
    | released => exact begun.takeReleased
  · exact h

theorem enterEgress (h : Unheard e d g) : Unheard e d (enterEgress e d g) :=
  upd ((Door.Unheard.enter (st := .egress) (by decide) (forceDriveOff (still rfl h))).same rfl)

/-- An unheard door is not monitored, so its enable stands. -/
theorem reenable (h : Unheard e d g) : reenable e d g = g := by
  have hnow : shouldMonitor e d g = (g.door d).mon.enable := by
    unfold shouldMonitor
    rw [h.enable]
    simp [h.reply]
  exact (reenable_eq ..).trans (if_pos hnow)

theorem returnToService (h : Unheard e d g) : Unheard e d (returnToService e d g) := by
  have held : Unheard e d (updEng e d (fun x => { x.enter .holding with target := none }) g) :=
    upd ((Door.Unheard.enter (st := .holding) (by decide) h).same rfl)
  unfold Machine.returnToService
  split
  · split
    · rw [h.enterEgress.reenable]
      exact h.enterEgress
    · rw [held.reenable]
      exact held.giveExpected (congrArg Engine.state (upd_door_eng ..)) (congrArg Engine.target (upd_door_eng ..))
  · exact h

/-- Under another profile's lock kind an unheard door's drive request stands. -/
theorem rekind {old : Env} (h : Unheard e d g) : rekindDoor old e d g = g := by
  refine rekind_same (.inr ?_)
  obtain ⟨hsecured, hreleased⟩ : (g.door d).eng.state ≠ .secured ∧ (g.door d).eng.state ≠ .released := by
    simpa [not_or] using h.state
  have hmotor := h.motor
  unfold Engine.driveUnder
  split
  · next hk => exact (hmotor hk).symm
  · next hs _ => exact absurd hs hsecured
  · next hs _ => exact absurd hs hreleased
  · rfl

end

end Unheard

end Sys2Proof.Machine
end

section
/-! A changed entry of the door table: the door becomes fitted, ceases to be, or reads another profile (R33, R34, R38). -/

namespace Sys2Proof.Machine

section
variable {old e : Env} {d : DoorNo} {g : Segment}

/-- What another profile makes of a door (R34, R68). -/
def reprofiled (old e : Env) (d : DoorNo) (g : Segment) : Segment := reenable e d (rekindDoor old e d (clearSupervision d g))

theorem doorChanged_eq : doorChanged old e d g = reconcileProfile e d
    (if (old.doorEntry d).profile = (e.doorEntry d).profile then syncFitted e (old.fitted d) d g
      else reprofiled old e d (syncFitted e (old.fitted d) d g)) := by
  unfold doorChanged
  dsimp only
  by_cases h : (old.doorEntry d).profile = (e.doorEntry d).profile
  · rw [if_pos h, if_pos (beq_iff_eq.mpr h)]
  · rw [if_neg h, if_neg (by simpa using h)]
    rfl

theorem syncFitted_same {was : Bool} (h : was = e.fitted d) : syncFitted e was d g = g := by
  unfold syncFitted
  subst h
  cases e.fitted d <;> rfl

/-! ## A door becomes fitted -/

/-- The record of a door that has become fitted, out of service (R33). -/
def Door.newcome (p : Params) (inService : Bool) : Door := { Door.initial p with
  eng := { Engine.initial p with inService := inService, state := .outOfService, lastSettled := .outOfService } }

/-- The segment with that record for the door, in no queue. -/
def newcomer (e : Env) (d : DoorNo) (g : Segment) : Segment :=
  (dequeue d g).putDoor d (.newcome e.catchUp (g.door d).eng.inService)

theorem newcomer_unheard : Unheard e d (newcomer e d g) := .put ⟨rfl, rfl, rfl, rfl, fun _ => rfl, by simp [Door.newcome], by simp [Door.newcome], rfl⟩

/-- A fitted door that was not heard keeps the learning flag (R98). -/
theorem testLearning_unheard (hf : e.fitted d = true) (h : Unheard e d g) :
    testLearning e g = g := by
  have hnot : learned e g = false := by
    unfold learned
    have hall : allDoors.all (fun d => !e.fitted d || (g.door d).drop.firstReply || (g.door d).drop.lost) = false := by
      rw [List.all_eq_false]
      exact ⟨d, mem_allDoors d, by simp [hf, h.reply, h.lost]⟩
    rw [hall, Bool.and_false]
  unfold testLearning
  rw [hnot, Bool.and_false, if_neg Bool.false_ne_true]

theorem becomeFitted_eq (hf : e.fitted d = true) : becomeFitted e d g =
    if (g.door d).eng.inService then returnToService e d (newcomer e d g) else newcomer e d g := by
  let y : Door := { Door.initial e.catchUp with eng := { Engine.initial e.catchUp with inService := (g.door d).eng.inService } }
  have entered : enterState e d .outOfService ((dequeue d g).putDoor d y) = newcomer e d g := by
    refine (upd_of_off _ ?_).trans ?_
    · rw [door_putDoor_same]
      exact lockLevel_undriven rfl rfl
    · rw [door_putDoor_same, putDoor_putDoor]
      rfl
  have hmark : ((newcomer e d g).door d).eng.inService = (g.door d).eng.inService := by
    unfold newcomer
    rw [door_putDoor_same]
    rfl
  have hfitted : becomeFitted e d g = testLearning e (if ((enterState e d .outOfService ((dequeue d g).putDoor d y)).door d).eng.inService
      then returnToService e d (enterState e d .outOfService ((dequeue d g).putDoor d y))
      else enterState e d .outOfService ((dequeue d g).putDoor d y)) := rfl
  rw [hfitted, entered, hmark]
  split
  · exact testLearning_unheard hf newcomer_unheard.returnToService
  · exact testLearning_unheard hf newcomer_unheard

theorem newcomer_door : (newcomer e d g).door d = .newcome e.catchUp (g.door d).eng.inService := door_putDoor_same ..

/-- A door that has returned to service is in service. -/
theorem returned_inService (hs : (g.door d).eng.state = .outOfService) (hf : e.fitted d = true) (hp : e.profileDefective d = false) :
    ((returnToService e d g).door d).eng.state ≠ .outOfService := by
  by_cases hl : g.fire.latch = true
  · rw [returnToService_latched hs hf hp hl, (egressed_door hl).1]
    exact fun h => DoorState.noConfusion h
  · rw [returnToService_expected hs hf hp (by simpa using hl)]
    have hcalm := (calmWork e d ((returned e d g).door d)).giveExpected (d := d) trivial (.refl _)
    have hholding : ((returned e d g).door d).eng.state = .holding := by
      rw [(returned_door hs).1]
      rfl
    exact fun h => hcalm.fit (by rw [hholding]; decide) (by simp [h])

theorem clearSupervision_zero (h : (g.door d).sup = ⟨0, 0⟩) : clearSupervision d g = g := by
  unfold clearSupervision
  rw [← h]
  exact putDoor_self g d

/-- Another profile changes nothing at a door that was not heard. -/
theorem reprofiled_unheard (h : Unheard e d g) : reprofiled old e d g = g := by
  unfold reprofiled
  rw [clearSupervision_zero h.sup, h.rekind, h.reenable]

theorem doorChanged_becomes (ho : old.fitted d = false) (hf : e.fitted d = true) :
    doorChanged old e d g = reconcileProfile e d (newcomer e d g) := by
  have hsync : syncFitted e (old.fitted d) d g = becomeFitted e d g := if_pos (by rw [ho, hf]; rfl)
  have hunheard : Unheard e d (becomeFitted e d g) := by
    rw [becomeFitted_eq hf]
    split <;> [exact newcomer_unheard.returnToService; exact newcomer_unheard]
  have hmark : ((newcomer e d g).door d).eng.inService = (g.door d).eng.inService := congrArg (fun x => x.eng.inService) newcomer_door
  have hout : ((newcomer e d g).door d).eng.state = .outOfService := congrArg (fun x => x.eng.state) newcomer_door
  have hreconciled : reconcileProfile e d (becomeFitted e d g) = reconcileProfile e d (newcomer e d g) := by
    rw [becomeFitted_eq hf]
    split
    · next hi =>
      cases hp : e.profileDefective d with
      | true => rw [returnToService_else (by simp [hp])]
      | false =>
        rw [reconcileProfile_returns hf hp hout (hmark.trans hi), reconcileProfile_stays]
        · exact fun h => returned_inService hout hf hp h.2.2.1
        · exact fun h => by simp [hp] at h
    · rfl
  rw [doorChanged_eq, hsync, reprofiled_unheard hunheard, ite_self, hreconciled]

/-! ## A door ceases to be fitted -/

theorem reconcileProfile_unfitted (hf : e.fitted d = false) : reconcileProfile e d g = g :=
  reconcileProfile_stays (by simp [hf]) (by simp [hf])

/-- What the others' learning leaves of a door out of service that stands in no queue. -/
theorem testLearning_aside (hs : (g.door d).eng.state ≠ .holding) (hu : Unqueued d g) : Aside d g (testLearning e g) := by
  have initial {h : Segment} (hh : Aside d g h) : Aside d g (tryInitial e h) := by
    unfold tryInitial
    split
    · have hnot : ∀ j ∈ holdingDoors h, j ≠ d := fun j hj hjd => by
        have hstate : (h.door j).eng.state = .holding := beq_iff_eq.mp (List.mem_filter.mp hj).2
        exact hs (by rw [← hh.door, ← hjd, hstate])
      have hgiven : Aside d g (forDoors (holdingDoors h) (giveExpected e) h) :=
        EngineWork.forDoors (P := Aside d g) (fun j hj k hk => (asideWork e d g).giveExpected (hnot j hj) hk) hh
      exact ⟨hgiven.door, hgiven.unqueued⟩
    · exact hh
  unfold testLearning
  split
  · exact initial ((asideWork e d g).consider (g := { g with learning := false }) ⟨rfl, hu⟩)
  · exact .refl hu

/-- The record of a door that ceases to be fitted, after it has left service (R33, R84, R99). -/
def Door.ceased (x : Door) : Door := { x with
  eng := { x.eng with live := { x.eng.live with lost := false } }
  drop := { x.drop with leaving := .awaiting }
  charge := .initial
  sup := ⟨0, 0⟩ }

theorem ceaseFitted_door (hs : (g.door d).eng.state ≠ .absent) :
    (ceaseFitted e d g).door d = ((takeOutOfService e d g).door d).ceased ∧ Unqueued d (ceaseFitted e d g) := by
  obtain ⟨left, hu⟩ := takeOut_leaves (e := e) hs
  have hout : ((takeOutOfService e d g).door d).eng.state = .outOfService := by
    rw [left.eng]
    rfl
  have hceased : ceaseFitted e d g = testLearning e (consider e
      ((takeOutOfService e d g).putDoor d ((takeOutOfService e d g).door d).ceased)) := by
    generalize htaken : takeOutOfService e d g = k at hout
    have hcleared : clearLive e d [.lost] k = k.putDoor d { k.door d with
        eng := { (k.door d).eng with live := { (k.door d).eng.live with lost := false } } } := upd_of_off _ (lockLevel_out _ _ hout)
    have hchange : (setCharge d .initial (clearLive e d [.lost] k)).upd e d (fun x =>
        { x with sup := ⟨0, 0⟩, drop := { x.drop with leaving := .awaiting } }) = k.putDoor d (k.door d).ceased := by
      rw [hcleared]
      unfold setCharge
      rw [door_putDoor_same, putDoor_putDoor, upd_of_off _ (by rw [door_putDoor_same]; exact lockLevel_out _ _ hout),
        door_putDoor_same, putDoor_putDoor]
      rfl
    unfold ceaseFitted
    rw [if_neg hs, htaken]
    exact congrArg (fun k => testLearning e (consider e k)) hchange
  rw [hceased]
  generalize takeOutOfService e d g = k at hout hu
  have considered := consider_aside (e := e) (g := k.putDoor d (k.door d).ceased) hu
  have hstate : ((consider e (k.putDoor d (k.door d).ceased)).door d).eng.state ≠ .holding := by
    rw [considered.door, door_putDoor_same]
    exact fun h => DoorState.noConfusion (hout.symm.trans h)
  have learned := testLearning_aside (e := e) hstate considered.unqueued
  exact ⟨learned.door.trans (considered.door.trans (door_putDoor_same ..)), learned.unqueued⟩

/-- What a door that ceases to be fitted is left as (R33, R84, R99). -/
structure Ceased (x y : Door) : Prop where
  state : y.eng.state = .outOfService
  inService : y.eng.inService = x.eng.inService
  target : y.eng.target = none
  drive : y.eng.drive = false
  owed : y.eng.owed = none
  lost : y.eng.live.lost = false
  leaving : y.drop.leaving = .awaiting
  pulse : y.drop.pulse = x.drop.pulse.cancel
  charge : y.charge = ⟨0, .none, 0, 0⟩
  sup : y.sup = ⟨0, 0⟩
  enable : y.mon.enable = false

theorem ceaseFitted_ceased (hs : (g.door d).eng.state ≠ .absent) :
    Ceased (g.door d) ((ceaseFitted e d g).door d) ∧ Unqueued d (ceaseFitted e d g) := by
  obtain ⟨left, -⟩ := takeOut_leaves (e := e) hs
  obtain ⟨hdoor, hu⟩ := ceaseFitted_door (e := e) hs
  refine ⟨?_, hu⟩
  rw [hdoor]
  generalize (takeOutOfService e d g).door d = y at left
  have heng (f : Engine → Bool × DoorState × Option Posture × Bool × Option Nat)
      (hf : ∀ x l, f { x with live := l } = f x) : f y.eng = f ((g.door d).outed (e.profile d)).eng := by
    rw [left.eng]
    exact hf _ _
  have hfields := heng (fun x => (x.inService, x.state, x.target, x.drive, x.owed)) fun _ _ => rfl
  simp only [Prod.mk.injEq] at hfields
  obtain ⟨hservice, hstate, htarget, hdrive, howed⟩ := hfields
  exact {
    state := hstate
    inService := hservice
    target := htarget
    drive := hdrive
    owed := howed
    lost := rfl
    leaving := rfl
    pulse := congrArg Drop.pulse left.drop
    charge := rfl
    sup := rfl
    enable := left.enable }

/-- Another profile changes nothing at a door that has ceased to be fitted. -/
theorem reprofiled_ceased {x : Door} (hf : e.fitted d = false) (h : Ceased x (g.door d)) : reprofiled old e d g = g := by
  have hrekind : rekindDoor old e d g = g := by
    refine rekind_same (.inr ?_)
    rw [driveUnder_eq, h.state, h.drive]
    cases (e.profile d).lockKind <;> rfl
  have hreenable : reenable e d g = g := by
    refine (reenable_eq ..).trans (if_pos ?_)
    unfold shouldMonitor
    rw [hf, h.enable]
    rfl
  unfold reprofiled
  rw [clearSupervision_zero h.sup, hrekind, hreenable]

theorem doorChanged_ceases (ho : old.fitted d = true) (hf : e.fitted d = false) (hs : (g.door d).eng.state ≠ .absent) :
    doorChanged old e d g = ceaseFitted e d g := by
  have hsync : syncFitted e (old.fitted d) d g = ceaseFitted e d g := by
    unfold syncFitted
    rw [ho, hf]
    rfl
  rw [doorChanged_eq, hsync, reprofiled_ceased hf (ceaseFitted_ceased hs).1, ite_self, reconcileProfile_unfitted hf]

theorem doorChanged_absent (ho : old.fitted d = true) (hf : e.fitted d = false) (hs : (g.door d).eng.state = .absent)
    (hp : (old.doorEntry d).profile = (e.doorEntry d).profile) : doorChanged old e d g = g := by
  have hsync : syncFitted e (old.fitted d) d g = g := by
    unfold syncFitted
    rw [ho, hf]
    exact if_pos hs
  rw [doorChanged_eq, hsync, if_pos hp, reconcileProfile_unfitted hf]

end

end Sys2Proof.Machine
end

section
/-! WRITE to DOOR (R32 to R34, R104, R170). -/

namespace Sys2Proof.Machine

section
variable {s : State} {d : DoorNo} {field v : Nat}

theorem serveWriteDoor_refused {r : Result} (hr : doorWriteRefusal (s.seg.door d).eng field = some r) :
    serveWriteDoor d.val field v s = refuseWith r s := by
  rw [serveWriteDoor, dif_pos d.isLt]
  simp only [Fin.eta, hr]

theorem serveWriteDoor_error {r : Result} (hr : doorWriteRefusal (s.seg.door d).eng field = none)
    (h : writeDoorField s.work.door[d].value field v = .error r) : serveWriteDoor d.val field v s = refuseWith r s := by
  rw [serveWriteDoor, dif_pos d.isLt]
  simp only [Fin.eta, hr, h]

/-- The state after an accepted WRITE of entry y. -/
def doorStored (d : DoorNo) (field : Nat) (y : DoorEntry) (s : State) : State :=
  changeTables { s.work with door := s.work.door.set d ⟨y, false⟩ } (doorWritten field d) s

theorem serveWriteDoor_ok {w : Written DoorEntry} (hr : doorWriteRefusal (s.seg.door d).eng field = none)
    (h : writeDoorField s.work.door[d].value field v = .ok w) :
    serveWriteDoor d.val field v s = ⟨w.result, toValue w.value, settled (doorStored d field w.entry s)⟩ := by
  rw [serveWriteDoor, dif_pos d.isLt]
  simp only [Fin.eta, hr, h]
  rfl

theorem doorStored_sides (y : DoorEntry) : KeepsSides s.seg (settled (doorStored d field y s)).seg :=
  ((Kept.refl s.seg).doorWritten.sides).trans (settle_sides _ _)

/-! ## The conditions (R33, R34) -/

/-- A write of the field is not refused by the door's state. -/
def DoorWritable (x : Engine) (field : Nat) : Prop := (field = 0 → x.inService = false)
  ∧ (field = 1 → x.state = .absent ∨ x.state = .outOfService) ∧ (2 ≤ field → x.state.settled = true)

theorem doorWriteRefusal_none {x : Engine} (h : DoorWritable x field) : doorWriteRefusal x field = none := by
  obtain ⟨h0, h1, h2⟩ := h
  match field with
  | 0 => exact if_neg (by simp [h0 rfl])
  | 1 => exact if_pos (h1 rfl)
  | n + 2 => exact if_pos (h2 (by omega))

/-! ## The fields (R32) -/

theorem doorField_fitted (x : DoorEntry) : (v ≤ 1 → Stores doorFields x 0 (writeDoorField x 0 v) .done v)
    ∧ (¬ v ≤ 1 → writeDoorField x 0 v = .error .badValue) :=
  ⟨fun h => stores_code (put := fun b => { x with fitted := b }) rfl (fun _ => rfl) (flagOfCode_le h),
    fun h => putCode_none _ (flagOfCode_gt h)⟩

theorem doorField_profile (x : DoorEntry) : (v < 8 → Stores doorFields x 1 (writeDoorField x 1 v) .done v)
    ∧ (¬ v < 8 → writeDoorField x 1 v = .error .badValue) :=
  ⟨fun h => stores_code (put := fun p => { x with profile := p }) (code := Fin.val) rfl (fun _ => rfl) ⟨_, finOfCode_lt h, rfl⟩,
    fun h => putCode_none _ (finOfCode_ge h)⟩

theorem doorField_groups (x : DoorEntry) (h : v < 65536) : Stores doorFields x 2 (writeDoorField x 2 v) .done v := by
  have hgroups : (BitVec.ofNat 16 v).toNat = v := Nat.mod_eq_of_lt h
  exact ⟨{ x with groups := BitVec.ofNat 16 v }, rfl, congrArg (fun n => [_, _, n, _, _]) hgroups⟩

theorem doorField_rank (x : DoorEntry) : (v ≤ 255 → Stores doorFields x 3 (writeDoorField x 3 v) .done v)
    ∧ (255 < v → Stores doorFields x 3 (writeDoorField x 3 v) .clamped 255) := by
  obtain ⟨-, within, above⟩ := stores_number (fields := doorFields) (x := x) (field := 3) (v := v) (lo := 0) (hi := 255)
    (put := fun n => { x with rank := n }) rfl (fun _ => rfl) (Nat.zero_le _)
  exact ⟨within (Nat.zero_le _), above⟩

theorem doorField_posture (x : DoorEntry) : (v ≤ 1 → Stores doorFields x 4 (writeDoorField x 4 v) .done v)
    ∧ (¬ v ≤ 1 → writeDoorField x 4 v = .error .badValue) :=
  ⟨fun h => stores_code (put := fun p => { x with defaultPosture := p }) rfl (fun _ => rfl) (posture_ofCode_le h),
    fun h => putCode_none _ (posture_ofCode_gt h)⟩

theorem writeDoorField_lt {x : DoorEntry} {w : Written DoorEntry} (h : writeDoorField x field v = .ok w) : field < 5 := by
  by_contra hn
  obtain ⟨n, rfl⟩ : ∃ n, field = n + 5 := ⟨field - 5, by omega⟩
  cases h

/-! ## What the write makes of the door -/

/-- The entry written, as every reader sees it. -/
theorem doorStored_entry (y : DoorEntry) (s : State) :
    (doorStored d field y s).work.door[d] = (⟨y, false⟩ : Working DoorEntry) := Vector.getElem_set_self _

theorem doorStored_seg (y : DoorEntry) (s : State) : (doorStored d field y s).seg = doorChanged s.env (doorStored d field y s).env d
    (if field = 1 then clearSupervision d s.seg else s.seg) := rfl

theorem doorStored_fitted (y : DoorEntry) (hp : s.power = .running) : (doorStored d field y s).env.fitted d = y.fitted := by
  have hentry := doorStored_entry (d := d) (field := field) y s
  have hfitted : (doorStored d field y s).env.fitted d
      = ((s.power == .running) && !(doorStored d field y s).work.door[d].defective && (doorStored d field y s).work.door[d].value.fitted) := rfl
  rw [hfitted, hentry, hp]
  rfl

theorem doorStored_doorEntry (y : DoorEntry) (s : State) : (doorStored d field y s).env.doorEntry d = y :=
  congrArg Working.value (doorStored_entry (field := field) y s)

theorem doorStored_seg_other {y : DoorEntry} (hf : field ≠ 1) :
    (doorStored d field y s).seg = doorChanged s.env (doorStored d field y s).env d s.seg :=
  (doorStored_seg y s).trans (congrArg _ (if_neg hf))

/-- A door out of service by its mark that stays fitted, or stays unfitted, stands (R33). -/
theorem doorStored_stands {y : DoorEntry} (hf : field ≠ 1) (hfit : (doorStored d field y s).env.fitted d = s.env.fitted d)
    (hp : y.profile = (s.env.doorEntry d).profile) (hs : (s.seg.door d).eng.state = .outOfService)
    (hi : (s.seg.door d).eng.inService = false) : (doorStored d field y s).seg = s.seg := by
  rw [doorStored_seg_other hf, doorChanged_eq, syncFitted_same hfit.symm, doorStored_doorEntry, if_pos hp.symm]
  exact reconcileProfile_stays (by simp [hi]) (by simp [hs])

/-- A door out of service by its mark that becomes fitted stays out of service (R33). -/
theorem doorStored_becomes {y : DoorEntry} (hf : field ≠ 1) (ho : s.env.fitted d = false)
    (hn : (doorStored d field y s).env.fitted d = true) (hi : (s.seg.door d).eng.inService = false) :
    (doorStored d field y s).seg = newcomer (doorStored d field y s).env d s.seg := by
  have hdoor := newcomer_door (e := (doorStored d field y s).env) (d := d) (g := s.seg)
  rw [doorStored_seg_other hf, doorChanged_becomes ho hn]
  refine reconcileProfile_stays ?_ ?_
  · rw [hdoor]
    exact fun h => Bool.false_ne_true (hi.symm.trans h.2.2.2)
  · rw [hdoor]
    exact fun h => h.2.2.1 rfl

end

end Sys2Proof.Machine

namespace Sys2Proof
open Machine

/-- Settles O25: the tests in their order, then the value by its field, and the door as the changed entry leaves it. -/
theorem writeDoor : Obligations.WriteDoor := by
  refine ⟨fun h index field value s d ha hd hu => ?_, fun old e d g => ?_, fun h index field value s ha => ?_⟩
  · have hserve : serve (fullRequest .write h 3 index field value) s
        = serveWrite TableName.door.ix.val d.val field.toNat value s := by
      rw [hd]
      rfl
    have hown (hf : field.toNat < 5) : serve (fullRequest .write h 3 index field value) s = serveWriteDoor d.val field.toNat value.toNat s :=
      hserve.trans ((serveWrite_stored (t := .door) d.isLt hf rfl).trans (if_neg (not_underStore hu)))
    have hrun : s.power = .running := ha.frame.running
    have refuse {res : Result} (hf : field.toNat < 5) (hr : doorWriteRefusal (s.seg.door d).eng field.toNat = some res) :
        exec (.writeDoor h index field value) s = .next (passing (replyTo (fullRequest .write h 3 index field value) res 0 s) s) :=
      exec_refused rfl ha ((hown hf).trans (serveWriteDoor_refused hr))
    have bad (hf : field.toNat < 5) (hw : DoorWritable (s.seg.door d).eng field.toNat)
        (hv : writeDoorField s.work.door[d].value field.toNat value.toNat = .error .badValue) :
        exec (.writeDoor h index field value) s
          = .next (passing (replyTo (fullRequest .write h 3 index field value) .badValue 0 s) s) :=
      exec_refused rfl ha ((hown hf).trans (serveWriteDoor_error (doorWriteRefusal_none hw) hv))
    have goes {w : Written DoorEntry} (hf : field.toNat < 5) (hw : DoorWritable (s.seg.door d).eng field.toNat)
        (hv : writeDoorField s.work.door[d].value field.toNat value.toNat = .ok w) :
        exec (.writeDoor h index field value) s = .next (passing (replyTo (fullRequest .write h 3 index field value) w.result w.value s)
          (settled (doorStored d field.toNat w.entry s))) :=
      exec_served rfl ha ((hown hf).trans (serveWriteDoor_ok (doorWriteRefusal_none hw) hv))
    have store {res : Result} {n : Nat} (hf : field.toNat < 5) (hw : DoorWritable (s.seg.door d).eng field.toNat)
        (hv : Stores doorFields s.work.door[d].value field.toNat (writeDoorField s.work.door[d].value field.toNat value.toNat) res n) :
        ∃ t e, exec (.writeDoor h index field value) s = .next t ∧ t.work = { s.work with door := s.work.door.set d ⟨e, false⟩ }
          ∧ doorFields e = (doorFields s.work.door[d].value).set field.toNat n
          ∧ t.trunk = s.trunk.accept (replyTo (fullRequest .write h 3 index field value) res n s)
          ∧ t.power = s.power ∧ t.clock = s.clock ∧ t.stored = s.stored ∧ t.store = s.store ∧ KeepsSides s.seg t.seg := by
      obtain ⟨y, hok, hfields⟩ := hv
      exact ⟨_, y, goes hf hw hok, rfl, hfields, rfl, rfl, rfl, rfl, rfl, doorStored_sides y⟩
    have one_iff : field.toNat = 1 ↔ field = 1 := by
      rw [← BitVec.toNat_inj]
      rfl
    have unfit (hi : (s.seg.door d).eng.inService = false) : DoorWritable (s.seg.door d).eng 0 :=
      ⟨fun _ => hi, fun h => absurd h (by decide), fun h => absurd h (by decide)⟩
    have out (ho : (s.seg.door d).eng.state = .absent ∨ (s.seg.door d).eng.state = .outOfService) : DoorWritable (s.seg.door d).eng 1 :=
      ⟨fun h => absurd h (by decide), fun _ => ho, fun h => absurd h (by decide)⟩
    have atRest (hs : (s.seg.door d).eng.state.settled = true) {f : Nat} (hf : 2 ≤ f) : DoorWritable (s.seg.door d).eng f :=
      ⟨fun h => absurd h (by omega), fun h => absurd h (by omega), fun _ => hs⟩
    refine ⟨fun hf => ?_, ?_, ?_, ?_, ?_, ?_, ?_, fun h2 h5 hs => ?_, fun hs => ⟨?_, ?_, ?_⟩, fun w hv h0 h1 h2 => ?_⟩
    · exact exec_refused rfl ha (hserve.trans (serveWrite_badField (t := .door) d.isLt (.inl hf)))
    · rintro rfl hi
      exact refuse (by decide) (if_pos hi)
    · rintro rfl hi
      split
      · next hv => exact store (by decide) (unfit hi) ((doorField_fitted _).1 hv)
      · next hv => exact bad (by decide) (unfit hi) ((doorField_fitted _).2 hv)
    · rintro rfl hi
      have written {b : Bool} (hv : flagOfCode value.toNat = some b) : ∃ t, exec (.writeDoor h index 0 value) s = .next t
          ∧ t.seg = settle t.env (doorStored d 0 { s.work.door[d].value with fitted := b } s).seg :=
        ⟨_, goes (by decide) (unfit hi) (putCode_some _ hv), rfl⟩
      have one (hv : value.toNat = 1) := written (b := true) (congrArg flagOfCode hv)
      have zero (hv : value.toNat = 0) := written (b := false) (congrArg flagOfCode hv)
      have fits (b : Bool) := doorStored_fitted (d := d) (field := 0) { s.work.door[d].value with fitted := b } hrun
      refine ⟨fun hv hf => ?_, fun hv hf hs => ?_, fun hs hv => ?_⟩
      · obtain ⟨t, ht, hseg⟩ := one hv
        refine ⟨t, _, ht, hseg, ?_⟩
        rw [doorStored_becomes (by decide) hf (fits true) hi]
        refine ⟨?_, fun q hq => not_queued_after_dequeue hq, fun _ j hj => door_putDoor_ne _ _ _ _ hj⟩
        rw [newcomer_door, hi]
        rfl
      · obtain ⟨t, ht, hseg⟩ := zero hv
        obtain ⟨hceased, hqueue⟩ := ceaseFitted_ceased (e := (doorStored d 0 { s.work.door[d].value with fitted := false } s).env) hs
        refine ⟨t, _, ht, hseg, ?_⟩
        rw [doorStored_seg_other (by decide), doorChanged_ceases hf (fits false) hs]
        exact ⟨hceased.state, hceased.inService.trans hi, hceased.target, hceased.drive, hceased.lost, hceased.leaving, hceased.pulse,
          hceased.charge, hceased.sup, hqueue⟩
      · rcases hv with ⟨hv, hf⟩ | ⟨hv, hf⟩
        · obtain ⟨t, ht, hseg⟩ := one hv
          exact ⟨t, _, ht, hseg, doorStored_stands (by decide) ((fits true).trans hf.symm) rfl hs hi⟩
        · obtain ⟨t, ht, hseg⟩ := zero hv
          exact ⟨t, _, ht, hseg, doorStored_stands (by decide) ((fits false).trans hf.symm) rfl hs hi⟩
    · rintro rfl ho
      split
      · next hv => exact store (by decide) (out ho) ((doorField_profile _).1 hv)
      · next hv => exact bad (by decide) (out ho) ((doorField_profile _).2 hv)
    · rintro rfl hs ha' ho
      exact refuse (by decide) ((if_neg (by simp [ha', ho])).trans (if_pos hs))
    · rintro rfl hs
      have hnot : ¬ ((s.seg.door d).eng.state = .absent ∨ (s.seg.door d).eng.state = .outOfService) := by
        rintro (h | h) <;> exact Bool.noConfusion (hs.symm.trans (congrArg DoorState.settled h))
      exact refuse (by decide) ((if_neg hnot).trans (if_neg (by simp [hs])))
    · refine refuse h5 ?_
      obtain ⟨n, hn⟩ : ∃ n, field.toNat = n + 2 := ⟨field.toNat - 2, by omega⟩
      rw [hn]
      exact if_neg (by simp [hs])
    · rintro rfl
      exact store (by decide) (atRest hs (by decide)) (doorField_groups _ value.isLt)
    · rintro rfl
      exact ⟨fun hv => store (by decide) (atRest hs (by decide)) ((doorField_rank _).1 hv),
        fun hv => store (by decide) (atRest hs (by decide)) ((doorField_rank _).2 hv)⟩
    · rintro rfl
      split
      · next hv => exact store (by decide) (atRest hs (by decide)) ((doorField_posture _).1 hv)
      · next hv => exact bad (by decide) (atRest hs (by decide)) ((doorField_posture _).2 hv)
    · have hwritable : DoorWritable (s.seg.door d).eng field.toNat := ⟨fun h => h0 (toNat_eq_zero_iff.mp h), fun h => h1 (one_iff.mp h), h2⟩
      refine ⟨_, goes (writeDoorField_lt hv) hwritable hv, ?_⟩
      have hseg := doorStored_seg (d := d) (field := field.toNat) w.entry s
      rw [if_congr one_iff rfl rfl] at hseg
      exact congrArg (settle _) hseg
  · refine ⟨fun hf hp => ?_, fun hf hp => ?_, fun ho hf => doorChanged_becomes ho hf, fun ho hf hs hp => doorChanged_absent ho hf hs hp,
      fun ho hf hs => ?_⟩
    · rw [doorChanged_eq, syncFitted_same hf, if_pos hp]
    · rw [doorChanged_eq, syncFitted_same hf, if_neg hp]
      rfl
    · obtain ⟨hceased, hqueue⟩ := ceaseFitted_ceased (e := e) hs
      rw [doorChanged_ceases ho hf hs]
      exact ⟨hceased.state, hceased.inService, hceased.target, hceased.drive, hceased.owed, hceased.lost, hceased.leaving, hceased.pulse,
        hceased.charge, hceased.sup, hceased.enable, hqueue⟩
  · have hserve : serve (fullRequest .write h 3 index field value) s
        = serveWrite TableName.door.ix.val index.toNat field.toNat value s := rfl
    refine ⟨fun hi => ?_, fun hi hf hst => ?_⟩
    · exact exec_refused rfl ha (hserve.trans (serveWrite_badIndex hi))
    · exact exec_refused rfl ha (hserve.trans ((serveWrite_stored (t := .door) hi hf rfl).trans (writeStored_busy hst)))

end Sys2Proof
end

section
/-! What the engines' work, the start of what is due and a change of the enable leave of a drop's record: its pulse apart, all of it. -/

namespace Sys2Proof.Machine

/-! ## What is due starts -/

namespace EngineWork

variable {e : Env} {P : Segment → Prop} (I : EngineWork e (fun _ => True) P) (hQ : ∀ {q g}, P g → P { g with seqr := q })
  {d : DoorNo} {g : Segment}

include I hQ

theorem classify {p : Fin 8} {k : Nat} (hg : P g) : P (classify e p k d g) := by
  unfold Machine.classify
  dsimp only
  split
  · exact I.outcome trivial hg
  · split
    · exact I.targetSet trivial hg
    · split
      · exact I.outcome trivial hg
      · split
        · exact I.outcome trivial hg
        · split
          · split
            · exact hQ hg
            · exact I.targetSet trivial hg
          · exact I.targetSet trivial hg

theorem beginStep {k : Nat} (hg : P g) : P (beginStep e k g) := by
  cases hr : g.seqr.run with
  | none =>
    unfold Machine.beginStep
    rw [hr]
    exact hg
  | some r =>
    rw [beginStep_eq e k hr]
    exact hQ (EngineWork.forDoors (P := P) (fun _ _ _ h => I.classify hQ h) (hQ hg))

omit I in
theorem completeRun {r : Run} (hg : P g) : P (completeRun e r g) := by
  unfold Machine.completeRun
  dsimp only
  split
  · exact hQ hg
  · exact hQ (hQ (hQ hg))

/-- What does not turn on the sequencer stands the start of what is due (R141, R146). -/
theorem settle (hg : P g) : P (settle e g) := by
  have loop (n : Nat) : ∀ g, P g → P (runDue e n g) := by
    induction n with
    | zero => exact fun _ hg => hg
    | succ n ih =>
      intro g hg
      unfold runDue
      split
      · exact hg
      · split
        · exact ih _ (I.beginStep hQ hg)
        · split <;> [exact ih _ (EngineWork.completeRun hQ hg); exact hg]
  exact loop 64 g hg

end EngineWork

/-! ## The drop's record -/

/-- A drop's record, its pulse apart. -/
def Drop.quiet (x : Drop) : Drop := { x with pulse := .none, pulseSeq := 0 }

/-- The record of the drop of door d is c, its pulse apart. -/
def DropIs (d : DoorNo) (c : Drop) (g : Segment) : Prop := (g.door d).drop.quiet = c

section
variable {e : Env} {d : DoorNo} {c : Drop} {g : Segment}

theorem DropIs.read {α : Type} (read : Drop → α) (hread : ∀ x : Drop, read x.quiet = read x) (h : DropIs d c g) :
    read (g.door d).drop = read c := (hread _).symm.trans (congrArg read h)

theorem DropIs.put {j : DoorNo} {x : Door} (hx : x.drop.quiet = (g.door j).drop.quiet) (h : DropIs d c g) : DropIs d c (g.putDoor j x) := by
  unfold DropIs
  rw [door_putDoor]
  split
  · next hj => exact hx.trans (hj ▸ h)
  · exact h

theorem dropWork (e : Env) (d : DoorNo) (c : Drop) : EngineWork e (fun _ => True) (DropIs d c) := DoorWork.all {
  door := fun _ hx hg => hg.put (congrArg (fun r => r.2.1) hx.aside)
  queue := fun _ hg => hg
  exceptions := fun hg => hg
  free := fun hg => hg
  outcome := fun _ hg => by rw [recordOutcome_eq]; exact hg }

theorem dropIs_settle (h : DropIs d c g) : DropIs d c (settle e g) := (dropWork e d c).settle (fun h => h) h

theorem dropIs_reenable {j : DoorNo} (h : DropIs d c g) : DropIs d c (reenable e j g) := by
  rw [reenable_eq]
  split
  · exact h
  · split
    · rw [enableOn_eq]
      exact (dropWork e d c).evaluateWatch trivial (h.put rfl)
    · rw [enableOff_eq]
      exact (dropWork e d c).evaluateWatch trivial (h.put rfl)

theorem dropIs_testLearning (h : DropIs d c g) : DropIs d c (testLearning e g) := by
  have I := dropWork e d c
  have initial {k : Segment} (hk : DropIs d c k) : DropIs d c (tryInitial e k) := by
    unfold tryInitial
    split
    · exact EngineWork.forDoors (P := DropIs d c) (fun j _ _ h => I.giveExpected trivial h) hk
    · exact hk
  unfold testLearning
  split
  · exact initial (I.consider (g := { g with learning := false }) h)
  · exact h

end

/-! ## One door's turn among several -/

/-- Where the turns of the other doors keep P, for every value it has, the turn of door d alone changes it. -/
theorem forDoors_turn {α : Type} {P : α → Segment → Prop} {f : DoorNo → Segment → Segment} {ds : List DoorNo} {d : DoorNo} {a b : α}
    {g : Segment} (hd : d ∈ ds) (hn : ds.Nodup) (others : ∀ x j g, j ≠ d → P x g → P x (f j g)) (turn : ∀ g, P a g → P b (f d g))
    (h : P a g) : P b (forDoors ds f g) := by
  obtain ⟨before, after, rfl⟩ := List.append_of_mem hd
  have hbefore : d ∉ before := fun hm => (List.disjoint_of_nodup_append hn) hm List.mem_cons_self
  have hafter : d ∉ after := (List.nodup_cons.mp (List.nodup_append.mp hn).2.1).1
  have keeps {x : α} {l : List DoorNo} (hl : d ∉ l) {k : Segment} (hk : P x k) : P x (forDoors l f k) :=
    EngineWork.forDoors (P := P x) (fun j hj k hk => others x j k (fun hjd => hl (hjd ▸ hj)) hk) hk
  have heq : forDoors (before ++ d :: after) f g = forDoors after f (f d (forDoors before f g)) := List.foldl_append
  rw [heq]
  exact keeps hafter (turn _ (keeps hbefore h))

end Sys2Proof.Machine
end

section
/-! The LOST notice of a door (R96, R111, R131; log 82). -/

namespace Sys2Proof.Machine

section
variable {e : Env} {d : DoorNo} {g : Segment}

/-- A door withdrawn from the queue; where every waiting door is this one, none waits any more and the sequencer is untold. -/
theorem withdraw_alone (e : Env) (d : DoorNo) (g : Segment) :
    ∃ b, b.seqr = g.seqr ∧ Made (∀ q ∈ g.queue, q.door = d) d (g.door d) b (withdraw e d g) := by
  have emptied (h : ∀ q ∈ g.queue, q.door = d) : (dequeue d g).queue = [] := by
    unfold dequeue
    rw [List.filter_eq_nil_iff]
    exact fun q hq => by simp [h q hq]
  unfold withdraw
  split
  · exact ⟨dequeue d g, rfl, (Made.refl (g := dequeue d g) (unqueued_dequeue d g) emptied).consider⟩
  · next h =>
    have hu : Unqueued d g := fun q hq hd => h (List.any_eq_true.mpr ⟨q, hq, beq_iff_eq.mpr hd⟩)
    exact ⟨g, rfl, .refl hu fun ha => List.eq_nil_iff_forall_not_mem.mpr fun q hq => hu q hq (ha q hq)⟩

/-- The record with the LOST flag and event raised. -/
def Door.lostRaised (x : Door) : Door := { x with
  eng := { x.eng with live := x.eng.live.put .lost true, sticky := x.eng.sticky.set .lost none } }

/-- The segment with them, and the exception listed. -/
def lostRaised (e : Env) (d : DoorNo) (g : Segment) : Segment := listException e (some d) .lost none (g.putDoor d (g.door d).lostRaised)

theorem raiseLost_eq : raiseKind e d .lost none g = lostRaised e d g := by
  have := raiseKind_put (e := e) (d := d) (g := g) (x := g.door d) .lost none
  rwa [putDoor_self] at this

theorem lostRaised_door : (lostRaised e d g).door d = (g.door d).lostRaised := door_putDoor_same ..

theorem lostNotice_kept (h : (g.door d).eng.state.keptAtLoss = true) : lostNotice e d g = lostRaised e d g := by
  unfold lostNotice
  dsimp only
  rw [if_pos h, raiseLost_eq]

/-- The engine that is lost from a state (R131). -/
def Engine.lost (st : DoorState) (x : Engine) : Engine := { x with
  state := .lost, lostFrom := st, recordedWhileLost := false, abandoned := false
  timer := { x.timer with running := false }
  exitWindow := false
  pulseInAttempt := x.pulseInAttempt && st != .released
  openingMark := if st = .secured then .none else x.openingMark }

/-- The record of a door lost, after it has left HOLDING and the queue. -/
def Door.lost (st : DoorState) (x : Door) : Door := { x with
  mon := { x.mon with watch := none }
  eng := { x.eng.lost st with owed := none, pendingTarget := x.eng.pendingTarget.map fun q => { q with owed := none } } }

/-- The door's record when it is lost, in no queue. -/
theorem lostNotice_made (hk : (g.door d).eng.state.keptAtLoss = false)
    (hq : ∀ q ∈ g.queue, q.door = d → (g.door d).eng.state = .awaitGrant) : ∃ free b,
    b.seqr = g.seqr ∧ Made (∀ q ∈ g.queue, q.door = d) d
      (((g.door d).lostRaised.leaving (e.profile d) free).lost (g.door d).eng.state)
      (answer e d ((g.door d).eng.pendingTarget.bind fun q => q.owed) .lost (answer e d (g.door d).eng.owed .lost b)) (lostNotice e d g) := by
  have hraised : (lostRaised e d g).door d = (g.door d).lostRaised := lostRaised_door
  obtain ⟨free, b, hb, made⟩ : ∃ free b, b.seqr = g.seqr ∧ Made (∀ q ∈ g.queue, q.door = d) d ((g.door d).lostRaised.leaving (e.profile d) free) b
      (withdraw e d (leaveHolding e d (lostRaised e d g))) := by
    by_cases hs : (g.door d).eng.state = .holding
    · have hu : Unqueued d g := fun q hqm hd => DoorState.noConfusion (hs.symm.trans (hq q hqm hd))
      have empty (ha : ∀ q ∈ g.queue, q.door = d) : (lostRaised e d g).queue = [] :=
        List.eq_nil_iff_forall_not_mem.mpr fun q hqm => hu q hqm (ha q hqm)
      obtain ⟨free, left⟩ := (Made.refl (g := lostRaised e d g) hu empty).leaveHolding (e := e)
      rw [hraised] at left
      exact ⟨free, lostRaised e d g, rfl, left.withdraw⟩
    · have hstay : leaveHolding e d (lostRaised e d g) = lostRaised e d g := by
        unfold leaveHolding
        dsimp only
        rw [hraised]
        exact if_pos (bne_iff_ne.mpr hs)
      obtain ⟨b, hb, made⟩ := withdraw_alone e d (lostRaised e d g)
      rw [hraised] at made
      rw [hstay]
      exact ⟨false, b, hb, made.cast (Door.leaving_not (x := (g.door d).lostRaised) hs).symm⟩
  refine ⟨free, b, hb, ?_⟩
  have hpending : ((g.door d).lostRaised.leaving (e.profile d) free).eng.pendingTarget = (g.door d).eng.pendingTarget := by
    rw [Door.leaving_eq]
    rfl
  have howed : ((g.door d).lostRaised.leaving (e.profile d) free).eng.owed = (g.door d).eng.owed := by
    rw [Door.leaving_eq]
    rfl
  have lost := (((made.clearWatch (e := e)).updEng (e := e) (Engine.lost (g.door d).eng.state)).answerOwed (e := e) .lost).answerPending (e := e) .lost
  have hnotice : lostNotice e d g = consider e (answerPending e d .lost (answerOwed e d .lost (updEng e d (Engine.lost (g.door d).eng.state)
      (clearWatch e d (withdraw e d (leaveHolding e d (lostRaised e d g))))))) := by
    unfold lostNotice
    dsimp only
    rw [hk, if_neg Bool.false_ne_true, raiseLost_eq]
    rfl
  rw [hnotice, ← hpending, ← howed]
  exact lost.consider

/-! ## The drive request of a door lost from HOLDING -/

theorem driven_charge_eq (p : ProfileEntry) (on : Bool) (x : Door) :
    (x.driven p on).charge = if x.eng.drive = true ∧ on = false then x.afterDriveOff p else x.charge := by
  cases on with
  | true => exact (if_neg fun h => Bool.noConfusion h.2).symm
  | false =>
    rw [Door.driven_charge]
    simp

theorem leaving_holding {p : ProfileEntry} {free : Bool} {x : Door} (hs : x.eng.state = .holding)
    (h : p.lockKind = .motor ∨ x.drop.held ≠ none) : x.leaving p free = x.driven p (p.lockKind != .motor && x.heldDrive p) := by
  unfold Door.leaving
  rw [if_pos hs]
  rcases h with h | h
  · simp [h]
  · rw [if_pos (Option.isSome_iff_ne_none.mpr h)]

/-- The record of a door lost: what it keeps, with the drive request and the charge it left HOLDING with. -/
theorem lost_eq (p : ProfileEntry) (free : Bool) (st : DoorState) (x : Door) : (x.lostRaised.leaving p free).lost st =
    { x with
      charge := (x.lostRaised.leaving p free).charge, mon := { x.mon with watch := none }
      eng := { x.lostRaised.eng.lost st with
        drive := (x.lostRaised.leaving p free).eng.drive, owed := none
        pendingTarget := x.eng.pendingTarget.map fun q => { q with owed := none } } } := by
  rw [Door.leaving_eq]
  rfl

end

end Sys2Proof.Machine
end

section
/-! LINE_FAULT and LINE_NORMAL (R60, R61, R131; logs 53, 57, 82). -/

namespace Sys2Proof.Machine

section
variable {e : Env} {b : BranchNo} {d : DoorNo} {g : Segment} {c : Drop}

/-! ## A drop at the fault of its line -/

theorem faultDrop_unpolled (h : polled e d g = false) : faultDrop e d g = g := by
  unfold faultDrop
  rw [h, if_neg Bool.false_ne_true]

/-- The segment with a drop's good count 0 and its reference CLEAR. -/
def dropCleared (d : DoorNo) (g : Segment) : Segment :=
  g.putDoor d { g.door d with drop := { (g.door d).drop with goodCount := 0, reference := false } }

theorem faultDrop_polled (h : polled e d g = true) :
    faultDrop e d g = if (g.door d).drop.lost = true then dropCleared d g else becomeLost e d (dropCleared d g) := by
  have hcleared : g.upd e d (fun x => { x with drop := { x.drop with goodCount := 0, reference := false } }) = dropCleared d g :=
    upd_same_level _ _ _ _ rfl
  have hlost : ((dropCleared d g).door d).drop.lost = (g.door d).drop.lost := by
    unfold dropCleared
    rw [door_putDoor_same]
  unfold faultDrop
  dsimp only
  rw [if_pos h, hcleared, hlost]

/-- The segment with a drop LOST, its reference CLEAR. -/
def dropGone (d : DoorNo) (g : Segment) : Segment :=
  g.putDoor d { g.door d with drop := { (g.door d).drop with lost := true, reference := false } }

theorem becomeLost_eq : becomeLost e d g = if (g.door d).drop.firstReply = true then reenable e d (lostNotice e d (dropGone d g))
    else testLearning e (reenable e d (lostNotice e d (dropGone d g))) := by
  have hgone : g.upd e d (fun x => { x with drop := { x.drop with lost := true, reference := false } }) = dropGone d g :=
    upd_same_level _ _ _ _ rfl
  unfold becomeLost
  dsimp only
  rw [hgone]

/-! ### What it leaves of the drops' records -/

theorem dropIs_becomeLost {j : DoorNo} (h : DropIs d c (dropGone j g)) : DropIs d c (becomeLost e j g) := by
  have told := dropIs_reenable (e := e) (j := j) ((dropWork e d c).lostNotice (d := j) trivial h)
  rw [becomeLost_eq]
  split <;> [exact told; exact dropIs_testLearning told]

theorem dropIs_faultDrop {j : DoorNo} (hj : j ≠ d) (h : DropIs d c g) : DropIs d c (faultDrop e j g) := by
  have put {k : Segment} {x : Door} (hk : DropIs d c k) : DropIs d c (k.putDoor j x) := by
    unfold DropIs
    rwa [door_putDoor_ne _ _ _ _ hj.symm]
  cases hp : polled e j g with
  | false => rwa [faultDrop_unpolled hp]
  | true =>
    rw [faultDrop_polled hp]
    split
    · exact put h
    · exact dropIs_becomeLost (put (put h))

/-- A drop's record at the fault of its line (R60). -/
def Drop.faulted (x : Drop) : Drop := { x with lost := true, goodCount := 0, reference := false }

theorem faultDrop_turn (hp : (e.fitted d || c.leaving != .no) = true) (h : DropIs d c g) : DropIs d c.faulted (faultDrop e d g) := by
  subst h
  rw [faultDrop_polled hp]
  split
  · next hl =>
    unfold DropIs dropCleared Drop.faulted Drop.quiet
    rw [door_putDoor_same]
    simp [hl]
  · refine dropIs_becomeLost ?_
    unfold DropIs dropGone dropCleared
    rw [door_putDoor_same, door_putDoor_same]
    rfl

/-! ## The doors of a branch -/

theorem branchDoors_nodup (b : BranchNo) : (allDrops.map (doorAt b)).Nodup :=
  (List.nodup_finRange 16).map fun j k hjk => (dropOf_doorAt b j).symm.trans ((congrArg dropOf hjk).trans (dropOf_doorAt b k))

/-- The branch in LINE_FAULT, its slot in progress a miss (R61). -/
def Branch.faulted (x : Branch) : Branch := { x with lineFault := true, spoiled := true }

theorem lineFaults_stands (h : (g.branch b).lineFault = true) : lineFaults e b g = g := if_pos h

theorem lineFaults_begins (h : (g.branch b).lineFault = false) :
    lineFaults e b g = forDoors (allDrops.map (doorAt b)) (faultDrop e) (g.putBranch b (g.branch b).faulted) :=
  if_neg (by simp [h])

/-- Every polled drop of the branch is LOST (R60). -/
theorem lineFaults_polled {k : DropNo} (hl : (g.branch b).lineFault = false) (hp : polled e (doorAt b k) g = true) :
    DropIs (doorAt b k) (g.door (doorAt b k)).drop.quiet.faulted (lineFaults e b g) := by
  rw [lineFaults_begins hl]
  exact forDoors_turn (P := DropIs (doorAt b k)) (List.mem_map_of_mem (List.mem_finRange k)) (branchDoors_nodup b)
    (fun _ _ _ hj h => dropIs_faultDrop hj h) (fun _ h => faultDrop_turn hp h) rfl

/-- The drops of another branch stand. -/
theorem lineFaults_other (hb : branchOf d ≠ b) : DropIs d (g.door d).drop.quiet (lineFaults e b g) := by
  unfold lineFaults
  split
  · rfl
  · refine EngineWork.forDoors (P := DropIs d (g.door d).drop.quiet) (fun j hj k hk => dropIs_faultDrop (fun hjd => hb ?_) hk) rfl
    obtain ⟨i, -, rfl⟩ := List.mem_map.mp hj
    exact hjd ▸ branchOf_doorAt b i

end

end Sys2Proof.Machine
end

section
/-! LINE_FAULT and LINE_NORMAL (R60, R61), and the LOST notice (R131): the obligation. -/

namespace Sys2Proof.Machine

section
variable {e : Env} {d : DoorNo} {g : Segment} {s : State} {b : BranchNo}

theorem lineFaults_branches (h : (g.branch b).lineFault = false) :
    (lineFaults e b g).branches = g.branches.set b (g.branch b).faulted := by
  rw [lineFaults_begins h]
  exact ((Kept.refl (g.putBranch b (g.branch b).faulted)).forDoors fun _ _ h => h.faultDrop).branches

theorem exec_lineFault (hp : s.power ≠ .resetHeld) :
    exec (.lineFault b) s = .next { s with seg := settle s.env (lineFaults s.env b s.seg) } :=
  congrArg Host.Outcome.next (if_neg hp)

theorem exec_lineNormal (hp : s.power ≠ .resetHeld) : exec (.lineNormal b) s = .next { s with seg := lineReturns b s.seg } :=
  congrArg Host.Outcome.next (if_neg hp)

theorem keptAtLoss_iff (st : DoorState) : st.keptAtLoss = true ↔ st ∈ [DoorState.absent, .outOfService, .egress, .lost] := by
  cases st <;> decide

end

end Sys2Proof.Machine

namespace Sys2Proof
open Machine

/-- Settles O46: the branch and its drops by what faultDrop leaves of their records, the notice by the door's record after it. -/
theorem lineCondition : Obligations.LineCondition := by
  refine ⟨fun b s hp => ⟨exec_lineNormal hp, fun hl => ?_, fun hl => ?_⟩, fun e d g => ?_, fun e d g hq => ?_⟩
  · rw [exec_lineFault hp, lineFaults_stands hl]
    rfl
  · refine ⟨_, exec_lineFault hp, rfl, rfl, rfl, ⟨rfl, rfl, rfl⟩, ?_, fun k hk => ?_, fun d hd => ?_, ?_⟩
    · exact (settle_sides _ _).branches.trans (lineFaults_branches hl)
    · have hdrop : DropIs _ _ (settle s.env (lineFaults s.env b s.seg)) := dropIs_settle (lineFaults_polled hl hk)
      exact ⟨(hdrop.read Drop.lost fun _ => rfl :), (hdrop.read Drop.goodCount fun _ => rfl :), (hdrop.read Drop.reference fun _ => rfl :),
        (hdrop.read Drop.missCount fun _ => rfl :)⟩
    · have hdrop : DropIs _ _ (settle s.env (lineFaults s.env b s.seg)) := dropIs_settle (lineFaults_other hd)
      exact (hdrop.read Drop.lost fun _ => rfl :)
    · exact congrArg (settle s.env) (lineFaults_begins hl)
  · refine ⟨faultDrop_unpolled, fun h hl => ?_, fun h hl => ?_, becomeLost_eq⟩
    · exact (faultDrop_polled h).trans (if_pos hl)
    · exact (faultDrop_polled h).trans (if_neg (by simp [hl]))
  · dsimp only
    by_cases hk : (g.door d).eng.state.keptAtLoss = true
    · rw [lostNotice_kept hk]
      have hdoor := lostRaised_door (e := e) (d := d) (g := g)
      rw [hdoor]
      exact ⟨rfl, rfl, rfl, rfl, fun _ => ⟨rfl, rfl, fun j hj => door_putDoor_ne _ _ _ _ hj, rfl, rfl⟩,
        fun hn => absurd ((keptAtLoss_iff _).mp hk) hn⟩
    · obtain ⟨free, b, hb, made⟩ := lostNotice_made (e := e) (Bool.eq_false_iff.mpr hk) hq
      have lost := made.cast (lost_eq (e.profile d) free (g.door d).eng.state (g.door d))
      rw [lost.eng]
      refine ⟨rfl, rfl, lost.drop, lost.inputs, fun hn => absurd ((keptAtLoss_iff _).mpr hn) hk, fun _ => ?_⟩
      refine ⟨rfl, rfl, rfl, rfl, rfl, rfl, rfl, rfl, rfl, rfl, rfl, congrArg Monitor.watch lost.mon, lost.unqueued, fun hs => ?_,
        fun hs hh => ?_, fun ha => ?_⟩
      · have hleft := Door.leaving_not (p := e.profile d) (free := free) (x := (g.door d).lostRaised) hs
        have hcharge : ((g.door d).lostRaised.leaving (e.profile d) free).charge = (g.door d).charge :=
          (congrArg Door.charge hleft :)
        exact ⟨congrArg (fun x => x.eng.drive) hleft, lost.charge.trans hcharge⟩
      · have hleft := leaving_holding (p := e.profile d) (free := free) (x := (g.door d).lostRaised) hs hh
        have hdrive : ((g.door d).lostRaised.leaving (e.profile d) free).eng.drive
            = ((e.profile d).lockKind != .motor && (g.door d).heldDrive (e.profile d)) := by
          rw [hleft, Door.driven_drive]
          rfl
        refine ⟨hdrive, ?_⟩
        have hcharge := driven_charge_eq (e.profile d) ((e.profile d).lockKind != .motor && (g.door d).heldDrive (e.profile d))
          (g.door d).lostRaised
        have hlost : ((lostNotice e d g).door d).charge = ((g.door d).lostRaised.leaving (e.profile d) free).charge := lost.charge
        dsimp only
        rw [hlost, hdrive, hleft]
        exact hcharge
      · exact (lost.alone ha).2.trans (answer_seqr (answer_seqr hb))

end Sys2Proof
end

section
/-! What the small steps of a good reply leave of the segment: the condition and the TAMPER flag, the supervision counts and flags of a
sound current, the pulse (R58, R59, R64, R101, R102, R112). -/

namespace Sys2Proof.Machine

theorem upd_self {e : Env} {d : DoorNo} {g : Segment} {f : Door → Door} (h : f (g.door d) = g.door d) : g.upd e d f = g := by
  rw [upd_same_level _ _ _ _ (by rw [h]), h, putDoor_self]

/-- An acknowledgment that no door waits for changes nothing (R64, R124). -/
theorem pulseAcknowledged_elsewhere {e : Env} {d : DoorNo} {g : Segment} (hs : (g.door d).eng.state ≠ .driving)
    (hl : ¬ ((g.door d).eng.state = .lost ∧ (g.door d).eng.lostFrom = .driving)) : pulseAcknowledged e d g = g := by
  unfold pulseAcknowledged updEng
  refine upd_self ?_
  dsimp only
  rw [if_neg hs, if_neg hl]

/-- The last reported sequence taken, and the pulse settled against it (R64). -/
def pulseTaken (e : Env) (d : DoorNo) (r : Reply) (g : Segment) : Segment := g.upd e d fun x => { x with drop := { x.drop with
  lastSeq := r.seq, pulse := ((g.door d).drop.pulse.settleAgainst (r.seq == (g.door d).drop.pulseSeq)).1 } }

theorem takePulse_eq (e : Env) (d : DoorNo) (r : Reply) (g : Segment) : takePulse e d r g =
    if ((g.door d).drop.pulse.settleAgainst (r.seq == (g.door d).drop.pulseSeq)).2 = true then pulseAcknowledged e d (pulseTaken e d r g)
    else pulseTaken e d r g := rfl

/-! ## Steps that leave a reading of the door -/

/-- The door reads as in g0 by N, and of the rest of the segment the exception list alone may differ. -/
structure Heeded {α : Type} (N : Door → α) (d : DoorNo) (g0 g : Segment) : Prop where
  door : N (g.door d) = N (g0.door d)
  rest : g = { g0 with doors := g.doors, exceptions := g.exceptions }
  only : OnlyDoor d g0 g

namespace Heeded

variable {α : Type} {N : Door → α} {e : Env} {d : DoorNo} {g0 g h : Segment}

theorem refl (g : Segment) : Heeded N d g g := ⟨rfl, rfl, fun _ _ => rfl⟩

theorem trans (a : Heeded N d g0 g) (b : Heeded N d g h) : Heeded N d g0 h := by
  refine ⟨b.door.trans a.door, ?_, fun j hj => (b.only j hj).trans (a.only j hj)⟩
  have hb := b.rest
  rw [a.rest] at hb
  exact hb

theorem queue (a : Heeded N d g0 g) : g.queue = g0.queue := by rw [a.rest]
theorem seqr (a : Heeded N d g0 g) : g.seqr = g0.seqr := by rw [a.rest]
theorem fire (a : Heeded N d g0 g) : g.fire = g0.fire := by rw [a.rest]
theorem branches (a : Heeded N d g0 g) : g.branches = g0.branches := by rw [a.rest]

theorem put {x : Door} (hx : N x = N (g.door d)) : Heeded N d g (g.putDoor d x) :=
  ⟨by rwa [door_putDoor_same], rfl, fun j hj => door_putDoor_ne _ _ _ _ hj⟩

/-- A change that the level of LOCK_DRIVE does not read. -/
theorem upd {f : Door → Door} (hl : ∀ x latch p, (f x).lockLevel latch p = x.lockLevel latch p)
    (hf : N (f (g.door d)) = N (g.door d)) : Heeded N d g (g.upd e d f) := by
  rw [upd_same_level _ _ _ _ (hl ..)]
  exact put hf

theorem listException {k : Kind} {sub : Option SubReason} : Heeded N d g (listException e (some d) k sub g) :=
  ⟨rfl, rfl, fun _ _ => rfl⟩

theorem raiseKind {k : Kind} {sub : Option SubReason} (hf : N { g.door d with
      eng := { (g.door d).eng with live := (g.door d).eng.live.put k true, sticky := (g.door d).eng.sticky.set k sub } } = N (g.door d)) :
    Heeded N d g (raiseKind e d k sub g) :=
  (upd (e := e) (f := fun x => { x with
    eng := { x.eng with live := x.eng.live.put k true, sticky := x.eng.sticky.set k sub } }) (fun _ _ _ => rfl) hf).trans listException

end Heeded

/-! ## The readings -/

/-- A door's record but for what a reply's condition, TAMPER and its pulse change. -/
def Door.attended (x : Door) : Door := { x with
  drop := { x.drop with lastSeq := 0, lastLocalFault := false, pulse := .none, pulseSeq := 0 }
  eng := { x.eng with live := { x.eng.live with tamper := false }, sticky := { x.eng.sticky with tamper := false, tamperReason := none } } }

/-- And for what the supervision of a sound current changes. -/
def Door.sound (x : Door) : Door := { x.attended with
  sup := ⟨0, 0⟩, eng := { x.attended.eng with live := { x.attended.eng.live with overcurrent := false, openCircuit := false } } }

/-- A reading that these changes leave. -/
structure Attends {α : Type} (N : Door → α) : Prop where
  same : ∀ {x y : Door}, y.attended = x.attended → N y = N x

theorem attends_attended : Attends Door.attended := ⟨id⟩

theorem attends_sound : Attends Door.sound := ⟨fun {x y} h => by
  unfold Door.sound
  rw [h]⟩

section
variable {α : Type} {N : Door → α} (hN : Attends N) {e : Env} {d : DoorNo} {g : Segment}

include hN

theorem Attends.tamperBegins (sub : SubReason) : Heeded N d g (tamperBegins e d sub g) := by
  unfold Machine.tamperBegins
  split
  · exact .refl g
  · exact .raiseKind (hN.same rfl)

theorem Attends.tamperCheck : Heeded N d g (tamperCheck e d g) := by
  unfold Machine.tamperCheck
  dsimp only
  split
  · exact .upd (fun _ _ _ => rfl) (hN.same rfl)
  · exact .refl g

theorem Attends.takeCondition (r : Reply) : Heeded N d g (takeCondition e d r g) := by
  have taken : Heeded N d g (g.upd e d (fun x => { x with drop := { x.drop with lastLocalFault := r.localFault } })) :=
    .upd (fun _ _ _ => rfl) (hN.same rfl)
  unfold Machine.takeCondition
  dsimp only
  split
  · exact taken
  · split
    · exact taken.trans (hN.tamperBegins _)
    · exact taken.trans hN.tamperCheck

theorem Attends.pulseTaken (r : Reply) : Heeded N d g (pulseTaken e d r g) := .upd (fun _ _ _ => rfl) (hN.same rfl)

/-- The pulse of a door that does not wait for its acknowledgment (R64). -/
theorem Attends.takePulse {r : Reply} (hs : (g.door d).eng.state ≠ .driving)
    (hl : ¬ ((g.door d).eng.state = .lost ∧ (g.door d).eng.lostFrom = .driving)) : Heeded N d g (takePulse e d r g) := by
  have heng (read : Engine → DoorState) : read ((Machine.pulseTaken e d r g).door d).eng = read (g.door d).eng :=
    (door_upd_read e d _ g fun x => read x.eng :)
  rw [takePulse_eq]
  split
  · rw [pulseAcknowledged_elsewhere (by rwa [heng Engine.state]) (by rwa [heng Engine.state, heng Engine.lostFrom])]
    exact hN.pulseTaken r
  · exact hN.pulseTaken r

end

/-! ## A sound current (R101, R102) -/

section
variable {e : Env} {d : DoorNo} {g : Segment}

/-- No count of a sound current grows. -/
theorem sound_counts {p : ProfileEntry} {i : Nat} (hu : p.underLimit ≤ i) (ho : i ≤ p.overLimit) (a b : Nat) :
    faultArises p a (overCount p i a) = false ∧ faultArises p b (underCount p i b) = false := by
  have hover : overCount p i a ≤ a := by
    unfold overCount
    rw [if_neg (Nat.not_lt.mpr ho)]
    split <;> omega
  have hunder : underCount p i b ≤ b := by
    unfold underCount
    rw [if_neg (Nat.not_lt.mpr hu)]
    split <;> omega
  unfold faultArises
  simp [Nat.not_lt.mpr hover, Nat.not_lt.mpr hunder]

/-- The supervision of a sound current clears the two flags and changes the counts at most. -/
theorem supervise_sound_keeps {P : Segment → Prop} (hover : ∀ {h}, P h → P (clearLive e d [.overcurrent] h))
    (hunder : ∀ {h}, P h → P (clearLive e d [.openCircuit] h)) (hcount : ∀ {c h}, P h → P (setSupervision d c h))
    {ap lk : Bool} {i : Nat} (hu : (e.profile d).underLimit ≤ i) (ho : i ≤ (e.profile d).overLimit) (hg : P g) :
    P (supervise e d ap lk i g) := by
  have hfaults := sound_counts hu ho (g.door d).sup.overCount (g.door d).sup.underCount
  unfold supervise
  split
  · unfold superviseCompared
    dsimp only
    rw [hfaults.1, hfaults.2, if_neg Bool.false_ne_true, if_neg Bool.false_ne_true]
    have cleared : P (if i ≤ (e.profile d).overLimit - (e.profile d).hysteresis then clearLive e d [.overcurrent] g else g) := by
      split <;> [exact hover hg; exact hg]
    generalize (if i ≤ (e.profile d).overLimit - (e.profile d).hysteresis then clearLive e d [.overcurrent] g else g) = k at cleared
    split
    · exact hcount cleared
    · refine hcount ?_
      split <;> [exact hunder cleared; exact cleared]
  · exact hg

theorem supervise_sound {ap lk : Bool} {i : Nat} (hu : (e.profile d).underLimit ≤ i) (ho : i ≤ (e.profile d).overLimit) :
    Heeded Door.sound d g (supervise e d ap lk i g) :=
  supervise_sound_keeps (P := Heeded Door.sound d g) (fun h => h.trans (.upd (fun _ _ _ => rfl) rfl))
    (fun h => h.trans (.upd (fun _ _ _ => rfl) rfl)) (fun h => h.trans (.put rfl)) hu ho (.refl g)

end

end Sys2Proof.Machine
end

section
/-! A good reply that a PRESENT drop has sent before (R54, R58): what the end of its reply window does, in the steps of R58. -/

namespace Sys2Proof.Machine

section
variable {e : Env} {b : BranchNo} {k : DropNo} {d : DoorNo} {g : Segment} {s : State} {r : BranchRecord} {rest : List Reception}

/-! ## The slot (R50, R54) -/

theorem exec_replyWindowEnd (hp : s.power = .running) (received : List Reception) :
    exec (.replyWindowEnd b received) s = .next (settled { s with seg := replyEnd s.env b received s.seg }) :=
  congrArg Host.Outcome.next (if_pos hp)

/-- The reply of a slot taken, or its miss counted (R54). -/
def answered (e : Env) (b : BranchNo) (k : DropNo) (received : List Reception) (g : Segment) : Segment :=
  match classifySlot ((g.branch b).spoiled || (g.branch b).lineFault) k received with
  | some r => goodReply e (doorAt b k) (g.branch b).sentApply (g.branch b).sentLock r g
  | none => missReply e (doorAt b k) g

theorem replyEnd_visiting {received : List Reception} (hv : (g.branch b).visiting = some k) :
    replyEnd e b received g = endVisit e b k (answered e b k received g) := by
  unfold replyEnd
  dsimp only
  rw [hv]
  rfl

theorem GoodReply.classify (h : GoodReply b k r s) :
    classifySlot ((s.seg.branch b).spoiled || (s.seg.branch b).lineFault) k (.record r :: rest) = some (replyOf r) := by
  unfold classifySlot
  dsimp only
  rw [h.clean, h.line, h.passes, h.echo]
  simp

theorem GoodReply.answered (h : GoodReply b k r s) : answered s.env b k (.record r :: rest) s.seg =
    goodReply s.env (doorAt b k) (s.seg.branch b).sentApply (s.seg.branch b).sentLock (replyOf r) s.seg := by
  unfold Machine.answered
  rw [h.classify]

/-- The branch leaves its slot for the next drop. -/
def left (e : Env) (b : BranchNo) (k : DropNo) (g : Segment) : Segment :=
  g.putBranch b { g.branch b with visiting := none, next := dropAfter e b k g }

theorem endVisit_stays (h : (g.door (doorAt b k)).drop.leaving ≠ .lastVisit) : endVisit e b k g = left e b k g := by
  unfold endVisit
  dsimp only
  rw [if_neg h]
  rfl

/-! ## The steps of R58 -/

/-- The door as a taken reply finds it: counted, its named inputs read (R46, R56). -/
def Door.replied (p : ProfileEntry) (r : Reply) (x : Door) : Door := { x with
  inputs := namedInputs p r, drop := { x.drop with missCount := 0, goodCount := min 8 (x.drop.goodCount + 1) } }

/-- The segment with the door so, and its condition taken (R59). -/
def conditioned (e : Env) (d : DoorNo) (r : Reply) (g : Segment) : Segment :=
  takeCondition e d r (g.putDoor d ((g.door d).replied (e.profile d) r))

/-- The terminal events and the current of the reply (R59, R100). -/
def supervised (e : Env) (d : DoorNo) (apply lock : Bool) (r : Reply) (g : Segment) : Segment :=
  supervise e d apply lock r.current
    (tamperCheck e d (terminalEvents e d (g.door d).inputs (namedInputs (e.profile d) r) (conditioned e d r g)))

/-- A reply taken from a drop whose first reply has been seen, with the reference SET. -/
def heard (e : Env) (d : DoorNo) (apply lock : Bool) (r : Reply) (g : Segment) : Segment :=
  readVerifying e d (reenable e d (takePulse e d r (supervised e d apply lock r g)))

theorem conditioned_heeded {α : Type} {N : Door → α} (hN : Attends N) (r : Reply) :
    Heeded N d (g.putDoor d ((g.door d).replied (e.profile d) r)) (conditioned e d r g) := hN.takeCondition r

theorem conditioned_attended (r : Reply) :
    ((conditioned e d r g).door d).attended = ((g.door d).replied (e.profile d) r).attended :=
  (conditioned_heeded attends_attended r).door.trans (congrArg Door.attended (door_putDoor_same ..))

theorem takeReply_heard {ap lk : Bool} {r : Reply} (hf : (g.door d).drop.firstReply = true) (hr : (g.door d).drop.reference = true) :
    takeReply e d ap lk false r (g.upd e d (fun x =>
      { x with drop := { x.drop with missCount := 0, goodCount := min 8 (x.drop.goodCount + 1) } })) = heard e d ap lk r g := by
  have hcounted : g.upd e d (fun x => { x with drop := { x.drop with missCount := 0, goodCount := min 8 (x.drop.goodCount + 1) } })
      = g.putDoor d { g.door d with drop := { (g.door d).drop with missCount := 0, goodCount := min 8 ((g.door d).drop.goodCount + 1) } } :=
    upd_same_level _ _ _ _ rfl
  have hread : (g.putDoor d { g.door d with
      drop := { (g.door d).drop with missCount := 0, goodCount := min 8 ((g.door d).drop.goodCount + 1) } }).upd e d
      (fun x => { x with inputs := namedInputs (e.profile d) r }) = g.putDoor d ((g.door d).replied (e.profile d) r) := putDoor_upd _ rfl
  have hfirst : takeFirstReply e d r (g.putDoor d ((g.door d).replied (e.profile d) r))
      = g.putDoor d ((g.door d).replied (e.profile d) r) := if_pos (by rw [door_putDoor_same]; exact hf)
  have hreference : ((conditioned e d r g).door d).drop.reference = true :=
    (congrArg (fun x : Door => x.drop.reference) (conditioned_attended (e := e) r) :).trans hr
  have hevents : takeEvents e d (g.door d).inputs (namedInputs (e.profile d) r) (conditioned e d r g)
      = tamperCheck e d (terminalEvents e d (g.door d).inputs (namedInputs (e.profile d) r) (conditioned e d r g)) :=
    congrArg (tamperCheck e d) (if_pos hreference)
  let k := g.putDoor d { g.door d with
    drop := { (g.door d).drop with missCount := 0, goodCount := min 8 ((g.door d).drop.goodCount + 1) } }
  have hk : k.door d = { g.door d with
      drop := { (g.door d).drop with missCount := 0, goodCount := min 8 ((g.door d).drop.goodCount + 1) } } := door_putDoor_same ..
  have hwas : (k.door d).inputs = (g.door d).inputs := by rw [hk]
  have hwaited : (k.door d).awaitsPulse (e.profile d) = false := by
    unfold Door.awaitsPulse
    rw [hk]
    simp [hf]
  rw [hcounted]
  show takeReply e d ap lk false r k = _
  unfold takeReply
  dsimp only
  rw [hwas, hwaited, hread, hfirst]
  show readVerifying e d (reenable e d (takePulse e d r (supervise e d ap lk r.current
    (takeEvents e d (g.door d).inputs (namedInputs (e.profile d) r) (conditioned e d r g))))) = _
  rw [hevents]
  rfl

theorem Heard.exec (h : Heard b k r s) : exec (.replyWindowEnd b (.record r :: rest)) s = .next (settled { s with
    seg := endVisit s.env b k (heard s.env (doorAt b k) (s.seg.branch b).sentApply (s.seg.branch b).sentLock (replyOf r) s.seg) }) := by
  rw [exec_replyWindowEnd h.good.running, replyEnd_visiting h.good.visiting, h.good.answered]
  unfold goodReply
  dsimp only
  rw [h.present, Bool.not_false, if_pos rfl, takeReply_heard h.seen h.reference]

end

end Sys2Proof.Machine
end

section
/-! What stands every step of a good reply (R58), once for every predicate of the segment. -/

namespace Sys2Proof.Machine

/-! ## The position events apart -/

/-- The POSITION event of a reply, where there is one (R59). -/
def positionTold (e : Env) (d : DoorNo) (was now : Inputs) (g : Segment) : Segment :=
  match changedInput was.position now.position with
  | some b => positionEvent e d b g
  | none => g

/-- The events of a reply after that of POSITION (R59, R112). -/
def eventsTold (e : Env) (d : DoorNo) (was now : Inputs) (g : Segment) : Segment :=
  let g := if changedInput was.exitRequest now.exitRequest = some true then exitRequested e d g else g
  tamperCheck e d (if changedInput was.tamper now.tamper = some true then tamperBegins e d .terminal g else g)

/-- The segment after the POSITION event of a reply. -/
def replyPositioned (e : Env) (d : DoorNo) (r : Reply) (g : Segment) : Segment :=
  positionTold e d (g.door d).inputs (namedInputs (e.profile d) r) (conditioned e d r g)

/-- The segment after all its events. -/
def replyTold (e : Env) (d : DoorNo) (r : Reply) (g : Segment) : Segment :=
  eventsTold e d (g.door d).inputs (namedInputs (e.profile d) r) (replyPositioned e d r g)

theorem heard_eq (e : Env) (d : DoorNo) (ap lk : Bool) (r : Reply) (g : Segment) : heard e d ap lk r g =
    readVerifying e d (reenable e d (takePulse e d r (supervise e d ap lk r.current (replyTold e d r g)))) := rfl

theorem positionTold_unchanged {e : Env} {d : DoorNo} {was now : Inputs} {g : Segment}
    (h : changedInput was.position now.position = none) : positionTold e d was now g = g := by
  unfold positionTold
  rw [h]

theorem positionTold_changed {e : Env} {d : DoorNo} {was now : Inputs} {g : Segment} {b : Bool}
    (h : changedInput was.position now.position = some b) : positionTold e d was now g = positionEvent e d b g := by
  unfold positionTold
  rw [h]

theorem changedInput_some {a b : Option Bool} {v : Bool} (ha : a = some (!v)) (hb : b = some v) : changedInput a b = some v := by
  subst ha hb
  cases v <;> rfl

theorem changedInput_same {a b : Option Bool} (h : a = b) : changedInput a b = none := by
  subst h
  unfold changedInput
  cases a <;> simp

/-! ## The steps -/

/-- P stands the engines' work, and what the condition, the pulse and the supervision of door d's drop change of its record. -/
structure HeardWork (e : Env) (d : DoorNo) (P : Segment → Prop) : Prop extends EngineWork e (fun _ => True) P where
  attend : ∀ {x g}, x.attended = (g.door d).attended → P g → P (g.putDoor d x)
  count : ∀ {c g}, P g → P (setSupervision d c g)

namespace HeardWork

variable {e : Env} {d : DoorNo} {P : Segment → Prop} (I : HeardWork e d P) {g : Segment} {r : Reply} {was now : Inputs}

include I

theorem attended {f : Door → Door} (hl : ∀ x latch p, (f x).lockLevel latch p = x.lockLevel latch p)
    (hf : ∀ x : Door, (f x).attended = x.attended) (hg : P g) : P (g.upd e d f) := by
  rw [upd_same_level _ _ _ _ (hl ..)]
  exact I.attend (hf _) hg

theorem tamperBegins {sub : SubReason} (hg : P g) : P (tamperBegins e d sub g) := by
  unfold Machine.tamperBegins
  split
  · exact hg
  · exact I.exceptions (I.attended (f := fun x => { x with
      eng := { x.eng with live := x.eng.live.put .tamper true, sticky := x.eng.sticky.set .tamper (some sub) } }) (fun _ _ _ => rfl)
      (fun _ => rfl) hg)

theorem tamperCheck (hg : P g) : P (tamperCheck e d g) := by
  unfold Machine.tamperCheck
  dsimp only
  split
  · exact I.attended (f := fun x => { x with eng := { x.eng with live := [Kind.tamper].foldl (fun l k => l.put k false) x.eng.live } })
      (fun _ _ _ => rfl) (fun _ => rfl) hg
  · exact hg

theorem takeCondition (hg : P g) : P (takeCondition e d r g) := by
  have taken : P (g.upd e d (fun x => { x with drop := { x.drop with lastLocalFault := r.localFault } })) :=
    I.attended (fun _ _ _ => rfl) (fun _ => rfl) hg
  unfold Machine.takeCondition
  dsimp only
  split
  · exact taken
  · split <;> [exact I.tamperBegins taken; exact I.tamperCheck taken]

theorem eventsTold (hg : P g) : P (eventsTold e d was now g) := by
  unfold Machine.eventsTold
  have exits : P (if changedInput was.exitRequest now.exitRequest = some true then exitRequested e d g else g) := by
    split <;> [exact I.exitRequested trivial hg; exact hg]
  dsimp only
  refine I.tamperCheck ?_
  split <;> [exact I.tamperBegins exits; exact exits]

theorem supervise {ap lk : Bool} {i : Nat} (hg : P g) : P (supervise e d ap lk i g) := by
  unfold Machine.supervise superviseCompared
  have cleared {c : Prop} [Decidable c] {k : Kind} (hk : k.byEngine) {h : Segment} (hh : P h) :
      P (if c then clearLive e d [k] h else h) := by
    split <;> [exact I.clearLive (by simpa using hk) trivial hh; exact hh]
  dsimp only
  split
  · have overCleared := cleared (c := i ≤ (e.profile d).overLimit - (e.profile d).hysteresis) (k := .overcurrent) (by decide) hg
    split
    · exact I.supervisionFault (by decide) trivial (I.count overCleared)
    · generalize (if i ≤ (e.profile d).overLimit - (e.profile d).hysteresis then clearLive e d [.overcurrent] g else g) = h at overCleared
      split
      · exact I.count overCleared
      · have underCleared := cleared (c := (e.profile d).underLimit + (e.profile d).hysteresis ≤ i) (k := .openCircuit) (by decide) overCleared
        split
        · exact I.supervisionFault (by decide) trivial (I.count underCleared)
        · exact I.count underCleared
  · exact hg

theorem takePulse (hg : P g) : P (takePulse e d r g) := by
  have taken : P (pulseTaken e d r g) := I.attended (fun _ _ _ => rfl) (fun _ => rfl) hg
  rw [takePulse_eq]
  split
  · refine I.updEng trivial (fun x => ?_) taken
    split
    · exact ⟨rfl, rfl, id⟩
    · split <;> exact ⟨rfl, rfl, id⟩
  · exact taken

/-- The reply up to its POSITION event. -/
theorem conditioned (hg : P (g.putDoor d ((g.door d).replied (e.profile d) r))) : P (conditioned e d r g) := I.takeCondition hg

/-- What stands the evaluation of the enable stands what follows the POSITION event. -/
theorem heard {ap lk : Bool} (hre : ∀ {g}, P g → P (reenable e d g)) (hg : P (replyPositioned e d r g)) :
    P (heard e d ap lk r g) := by
  rw [heard_eq]
  exact I.readVerifying trivial (hre (I.takePulse (I.supervise (I.eventsTold hg))))

end HeardWork

/-! ## The last visit (R33, R51) -/

/-- Door d is at the stage c of leaving. -/
def Leaving.At (d : DoorNo) (c : Leaving) (g : Segment) : Prop := (g.door d).drop.leaving = c

section
variable {e : Env} {d : DoorNo} {c : Leaving} {g : Segment}

theorem Leaving.At.put {j : DoorNo} {x : Door} (hx : x.drop.leaving = (g.door j).drop.leaving) (h : c.At d g) : c.At d (g.putDoor j x) := by
  unfold Leaving.At
  rw [door_putDoor]
  split
  · next hj => exact hx.trans (hj ▸ h)
  · exact h

theorem leavingWork (e : Env) (d : DoorNo) (c : Leaving) : HeardWork e d (c.At d) where
  toEngineWork := DoorWork.all {
    door := fun _ hx hg => hg.put (congrArg (fun r => r.2.1.leaving) hx.aside)
    queue := fun _ hg => hg
    exceptions := fun hg => hg
    free := fun hg => hg
    outcome := fun _ hg => by rw [recordOutcome_eq]; exact hg }
  attend := fun hx hg => hg.put (congrArg (fun x : Door => x.drop.leaving) hx :)
  count := fun hg => hg.put rfl

theorem leaving_reenable (h : c.At d g) : c.At d (reenable e d g) := by
  rw [reenable_eq]
  split
  · exact h
  · split
    · rw [enableOn_eq]
      exact (leavingWork e d c).evaluateWatch trivial (h.put rfl)
    · rw [enableOff_eq]
      exact (leavingWork e d c).evaluateWatch trivial (h.put rfl)

/-- The monitor's handling of a POSITION event as a change of the door's record (R71, R73). -/
def Monitor.opens (p : ProfileEntry) (m : Monitor) : Monitor := if m.enable && !m.isOpen then m.opening p else m

theorem monitorOpen_eq : monitorOpen e d g = g.putDoor d { g.door d with mon := (g.door d).mon.opens (e.profile d) } := by
  unfold monitorOpen Monitor.opens
  dsimp only
  split
  · exact updMon_eq ..
  · exact (putDoor_self g d).symm

/-- The door's record after a closing that its monitor sees (R73, R80). -/
def Door.closing (x : Door) : Door := { x with
  mon := { x.mon.closing with propped := false }
  eng := if x.mon.closing.propped = true ∧ x.eng.state ≠ .absent then { x.eng with live := { x.eng.live with propped := false } } else x.eng }

def Door.closes (x : Door) : Door := if x.mon.enable && x.mon.isOpen then x.closing else x

theorem monitorClose_eq : monitorClose e d g = g.putDoor d (g.door d).closes := by
  unfold monitorClose Door.closes
  dsimp only
  split
  · rw [updMon_eq, endPropped_put]
    rfl
  · exact (putDoor_self g d).symm

theorem closes_drop (x : Door) : x.closes.drop = x.drop := by
  unfold Door.closes
  split <;> rfl

theorem leaving_position {b : Bool} (h : c.At d g) : c.At d (positionEvent e d b g) := by
  have I := leavingWork e d c
  unfold positionEvent
  cases b with
  | true =>
    rw [monitorOpen_eq]
    exact I.positionOpen trivial (I.evaluateWatch trivial (h.put rfl))
  | false =>
    rw [monitorClose_eq]
    exact I.positionClosed trivial (I.evaluateWatch trivial (h.put (congrArg Drop.leaving (closes_drop _))))

/-- A good reply leaves the stage of leaving as it is. -/
theorem heard_leaving {ap lk : Bool} {r : Reply} : ((heard e d ap lk r g).door d).drop.leaving = (g.door d).drop.leaving := by
  have I := leavingWork e d (g.door d).drop.leaving
  have conditioned := I.conditioned (r := r) (g := g) (Leaving.At.put (g := g) rfl rfl)
  refine I.heard leaving_reenable ?_
  unfold replyPositioned positionTold
  split <;> [exact leaving_position conditioned; exact conditioned]

end

end Sys2Proof.Machine
end

section
/-! A good reply at a door whose state it does not move: what it leaves of the record (R58, R59, R82, R125). -/

namespace Sys2Proof.Machine

/-- A door's record but for what a reply changes at a door that it does not move: its monitor, and what `sound` leaves out. -/
def Door.engaged (x : Door) : Door := { x.sound with
  mon := Monitor.initial, eng := { x.sound.eng with live := { x.sound.eng.live with propped := false } } }

theorem attends_engaged : Attends Door.engaged := ⟨fun {x y} h => by
  have hsound : y.sound = x.sound := attends_sound.same h
  unfold Door.engaged
  rw [hsound]⟩

theorem engaged_of_sound {x y : Door} (h : y.sound = x.sound) : y.engaged = x.engaged := by
  unfold Door.engaged
  rw [h]

theorem Heeded.engaged {d : DoorNo} {g0 g : Segment} (h : Heeded Door.sound d g0 g) : Heeded Door.engaged d g0 g :=
  ⟨engaged_of_sound h.door, h.rest, h.only⟩

/-- A reading that does not turn on what `engaged` leaves out. -/
theorem Heeded.read {d : DoorNo} {g0 g : Segment} {α : Type} (h : Heeded Door.engaged d g0 g) (read : Door → α)
    (hread : ∀ x : Door, read x.engaged = read x) : read (g.door d) = read (g0.door d) :=
  (hread _).symm.trans ((congrArg read h.door).trans (hread _))

/-- A reading of the engine that does not turn on its flags. -/
def Flagless {α : Type} (read : Engine → α) : Prop := ∀ x l s, read { x with live := l, sticky := s } = read x

theorem engaged_eng (x : Door) : ∃ l s, x.engaged.eng = { x.eng with live := l, sticky := s } := ⟨_, _, rfl⟩

theorem engaged_sensedAs (x : Door) (v : Option Posture) (p : ProfileEntry) : x.engaged.sensedAs v p = x.sensedAs v p := rfl

section
variable {e : Env} {d : DoorNo} {g g0 : Segment} {r : Reply}

theorem Heeded.engine {α : Type} (h : Heeded Door.engaged d g0 g) (read : Engine → α)
    (hread : Flagless read) : read (g.door d).eng = read (g0.door d).eng := by
  have hreads (x : Door) : read x.engaged.eng = read x.eng := by
    obtain ⟨l, s, heng⟩ := engaged_eng x
    rw [heng, hread]
  exact h.read (fun x => read x.eng) hreads

theorem Heeded.state (h : Heeded Door.engaged d g0 g) : (g.door d).eng.state = (g0.door d).eng.state := h.engine Engine.state fun _ _ _ => rfl

theorem Heeded.inputs (h : Heeded Door.engaged d g0 g) : (g.door d).inputs = (g0.door d).inputs := h.read Door.inputs fun _ => rfl

theorem Heeded.sensedAs (h : Heeded Door.engaged d g0 g) (v : Option Posture) (p : ProfileEntry) :
    (g.door d).sensedAs v p = (g0.door d).sensedAs v p := h.read (fun x => x.sensedAs v p) fun x => engaged_sensedAs x v p

/-! ## The monitor -/

theorem engaged_unwatched (p : ProfileEntry) (x : Door) : (x.unwatched p).engaged = x.engaged := by
  rw [unwatched_eq]
  rfl

theorem engaged_closes (x : Door) : x.closes.engaged = x.engaged := by
  unfold Door.closes
  split
  · unfold Door.closing
    dsimp only
    split <;> rfl
  · rfl

theorem engaged_reenabled (now : Bool) (p : ProfileEntry) (x : Door) : (x.reenabled now p).engaged = x.engaged := by
  rw [reenabled_eq, (reenabled_live now p x).1]
  rfl

theorem monitorOpen_engaged : Heeded Door.engaged d g (monitorOpen e d g) := by
  rw [monitorOpen_eq]
  exact .put rfl

theorem monitorClose_engaged : Heeded Door.engaged d g (monitorClose e d g) := by
  rw [monitorClose_eq]
  exact .put (engaged_closes _)

theorem evaluateWatch_engaged (hs : (g.door d).eng.state ≠ .quietWait) : Heeded Door.engaged d g (evaluateWatch e d g) := by
  rw [evaluateWatch_put hs]
  exact .put (engaged_unwatched ..)

theorem reenable_engaged (hs : (g.door d).eng.state ≠ .quietWait) : Heeded Door.engaged d g (reenable e d g) := by
  rw [reenable_put hs]
  exact .put (engaged_reenabled ..)

/-- The monitor's part of a POSITION event (R59, R71, R73, R82). -/
def positionSeen (e : Env) (d : DoorNo) (b : Bool) (g : Segment) : Segment :=
  evaluateWatch e d (if b then monitorOpen e d g else monitorClose e d g)

theorem positionEvent_eq (b : Bool) : positionEvent e d b g =
    if b then positionOpen e d (positionSeen e d b g) else positionClosed e d (positionSeen e d b g) := by
  cases b <;> rfl

theorem positionSeen_engaged (b : Bool) (hs : (g.door d).eng.state ≠ .quietWait) : Heeded Door.engaged d g (positionSeen e d b g) := by
  have seen : Heeded Door.engaged d g (if b then monitorOpen e d g else monitorClose e d g) := by
    split <;> [exact monitorOpen_engaged; exact monitorClose_engaged]
  exact seen.trans (evaluateWatch_engaged (by rwa [seen.state]))

/-! ## The states that an event does not move -/

theorem positionOpen_elsewhere (h : (g.door d).eng.state ∉ [DoorState.warning, .awaitGrant, .secured]) : positionOpen e d g = g := by
  unfold positionOpen
  dsimp only
  split
  · next hs => simp [hs] at h
  · next hs => simp [hs] at h
  · next hs => simp [hs] at h
  · rfl

theorem positionClosed_elsewhere (h : (g.door d).eng.state ≠ .secured) : positionClosed e d g = g := if_neg fun hs => h hs.1

theorem exitRequested_elsewhere (h : (g.door d).eng.state ∉ [DoorState.secured, .exitShunt]) : exitRequested e d g = g := by
  unfold exitRequested
  dsimp only
  split
  · next hs => simp [hs] at h
  · next hs => simp [hs] at h
  · rfl

theorem positionTold_engaged {was now : Inputs} (h : (g.door d).eng.state ∉ [DoorState.warning, .awaitGrant, .secured, .quietWait]) :
    Heeded Door.engaged d g (positionTold e d was now g) := by
  unfold positionTold
  split
  · next b _ =>
    have seen := positionSeen_engaged (e := e) (d := d) (g := g) b (fun hs => h (by simp [hs]))
    have hstate : ((positionSeen e d b g).door d).eng.state ∉ [DoorState.warning, .awaitGrant, .secured] := by
      rw [seen.state]
      exact fun hm => h (by simp only [List.mem_cons, List.not_mem_nil, or_false] at hm ⊢; tauto)
    rw [positionEvent_eq, positionOpen_elsewhere hstate, positionClosed_elsewhere fun hs => hstate (by simp [hs]), ite_self]
    exact seen
  · exact .refl g

/-- The events after that of POSITION, at a door that no exit request moves. -/
theorem eventsTold_engaged {was now : Inputs} (h : changedInput was.exitRequest now.exitRequest = some true →
    (g.door d).eng.state ∉ [DoorState.secured, .exitShunt]) : Heeded Door.engaged d g (eventsTold e d was now g) := by
  have exits : (if changedInput was.exitRequest now.exitRequest = some true then exitRequested e d g else g) = g := by
    split
    · next hc => exact exitRequested_elsewhere (h hc)
    · rfl
  have tampered : Heeded Door.engaged d g (if changedInput was.tamper now.tamper = some true then tamperBegins e d .terminal g else g) := by
    split <;> [exact attends_engaged.tamperBegins _; exact .refl g]
  unfold eventsTold
  dsimp only
  rw [exits]
  exact tampered.trans attends_engaged.tamperCheck

/-! ## What follows the events -/

theorem supervise_engaged {ap lk : Bool} {i : Nat} (hu : (e.profile d).underLimit ≤ i) (ho : i ≤ (e.profile d).overLimit) :
    Heeded Door.engaged d g (supervise e d ap lk i g) := (supervise_sound hu ho).engaged

/-- What follows the events of a reply of sound current, at a door that neither drives, nor waits for quiet, nor was lost. -/
theorem afterEvents_engaged {ap lk : Bool} (hu : (e.profile d).underLimit ≤ r.current) (ho : r.current ≤ (e.profile d).overLimit)
    (h : (g.door d).eng.state ∉ [DoorState.quietWait, .driving, .lost]) :
    Heeded Door.engaged d g (reenable e d (takePulse e d r (supervise e d ap lk r.current g))) := by
  have seen := supervise_engaged (d := d) (g := g) (ap := ap) (lk := lk) hu ho
  have pulsed := attends_engaged.takePulse (e := e) (r := r) (g := supervise e d ap lk r.current g)
    (by rw [seen.state]; exact fun hs => h (by simp [hs])) (by rw [seen.state]; exact fun hs => h (by simp [hs.1]))
  have both := seen.trans pulsed
  exact both.trans (reenable_engaged (by rw [both.state]; exact fun hs => h (by simp [hs])))

theorem replied_door : (g.putDoor d ((g.door d).replied (e.profile d) r)).door d = (g.door d).replied (e.profile d) r := door_putDoor_same ..

theorem conditioned_engaged : Heeded Door.engaged d (g.putDoor d ((g.door d).replied (e.profile d) r)) (conditioned e d r g) :=
  conditioned_heeded attends_engaged r

end

end Sys2Proof.Machine
end

section
/-! RUN_TIMER_EXPIRY, VERIFY_EXPIRY and the good reply of a door in VERIFYING (R93, R112, R118, R124, R125). -/

namespace Sys2Proof.Machine

section
variable {e : Env} {b : BranchNo} {k : DropNo} {d : DoorNo} {g : Segment} {s : State} {r : Reply} {ap lk : Bool}

/-! ## The slot left -/

theorem left_eq (g : Segment) : left e b k g = { g with branches := (left e b k g).branches } := rfl

theorem left_door (g : Segment) : (left e b k g).door d = g.door d := rfl

/-- A heard reply ends with the slot left behind. -/
theorem Heard.leaves {r : BranchRecord} {rest : List Reception} (h : Heard b k r s) :
    Machine.exec (.replyWindowEnd b (.record r :: rest)) s = .next (settled { s with
      seg := left s.env b k (heard s.env (doorAt b k) (s.seg.branch b).sentApply (s.seg.branch b).sentLock (replyOf r) s.seg) }) := by
  rw [h.exec (rest := rest), endVisit_stays]
  rw [heard_leaving, h.stays]
  decide

/-! ## The reply of a door in VERIFYING -/

/-- A reply before its reading of a posture that is being verified. -/
def heardUnread (e : Env) (d : DoorNo) (ap lk : Bool) (r : Reply) (g : Segment) : Segment :=
  reenable e d (takePulse e d r (supervise e d ap lk r.current (replyTold e d r g)))

theorem heard_unread : heard e d ap lk r g = readVerifying e d (heardUnread e d ap lk r g) := heard_eq ..

/-- Up to there a reply of sound current leaves a door in VERIFYING as it is. -/
theorem heardUnread_verifying (hs : (g.door d).eng.state = .verifying) (hu : (e.profile d).underLimit ≤ r.current)
    (ho : r.current ≤ (e.profile d).overLimit) :
    Heeded Door.engaged d (g.putDoor d ((g.door d).replied (e.profile d) r)) (heardUnread e d ap lk r g) := by
  have begun := conditioned_engaged (e := e) (d := d) (g := g) (r := r)
  have hstate {t : Segment} (h : Heeded Door.engaged d (g.putDoor d ((g.door d).replied (e.profile d) r)) t) :
      (t.door d).eng.state = .verifying := by
    rw [h.state, replied_door]
    exact hs
  have positioned := begun.trans (positionTold_engaged (e := e) (was := (g.door d).inputs) (now := namedInputs (e.profile d) r)
    (by rw [hstate begun]; decide))
  have told := positioned.trans (eventsTold_engaged (e := e) (was := (g.door d).inputs) (now := namedInputs (e.profile d) r)
    fun _ => by rw [hstate positioned]; decide)
  exact told.trans (afterEvents_engaged hu ho (by rw [hstate told]; decide))

theorem readVerifying_shows {q : Posture} (hs : (g.door d).eng.state = .verifying) (ht : (g.door d).eng.target = some q)
    (hq : (g.door d).sensedAs (some q) (e.profile d) = some q) :
    readVerifying e d g = takePending e d (settleAt e d q .done g) := by
  unfold readVerifying
  dsimp only
  rw [hs, ht]
  refine if_pos ?_
  unfold Door.sensed
  rw [hs, ht]
  exact hq

theorem readVerifying_waits {q : Posture} (hs : (g.door d).eng.state = .verifying) (ht : (g.door d).eng.target = some q)
    (hq : (g.door d).sensedAs (some q) (e.profile d) ≠ some q) : readVerifying e d g = g := by
  unfold readVerifying
  dsimp only
  rw [hs, ht]
  refine if_neg ?_
  unfold Door.sensed
  rw [hs, ht]
  exact hq

/-- Door d reads q where it has settled, on the inputs i, and where A holds the sequencer is n (R125). -/
def Shows (d : DoorNo) (q : Posture) (i : Inputs) (A : Prop) (n : Sequencer) (g : Segment) : Prop :=
  (g.door d).eng.state = q.state ∧ (g.door d).eng.target = some q ∧ (g.door d).eng.owed = none ∧ (g.door d).eng.timer.running = false
  ∧ (g.door d).inputs = i ∧ (g.door d).eng.live.notSecured = false ∧ (g.door d).eng.live.notReleased = false ∧ (A → g.seqr = n)

/-- A door that settles at its target: what it shows, and what its pending target then finds (R118, R125). -/
theorem Made.reached {A : Prop} {x : Door} {b t : Segment} {q : Posture}
    (h : Made A d (x.settledAt (e.profile d) q) (Machine.answer e d x.eng.owed .done b) t) :
    (x.eng.pendingTarget = none → Shows d q x.inputs A (Machine.answer e d x.eng.owed .done b).seqr (takePending e d t))
    ∧ (∀ y, x.eng.pendingTarget = some y → ∃ k, takePending e d t = targetSet e d y.posture y.params y.owed k
      ∧ Shows d q x.inputs A (Machine.answer e d x.eng.owed .done b).seqr k ∧ (k.door d).eng.pendingTarget = none) := by
  have hpending : (t.door d).eng.pendingTarget = x.eng.pendingTarget := by rw [h.eng, Door.settledAt_eq]; rfl
  have hstate : (t.door d).eng.state = q.state := by rw [h.eng, Door.settledAt_eq]; rfl
  refine ⟨fun hn => ?_, fun y hy => ⟨_, takePending_some (hpending.trans hy) ?_, ?_, ?_⟩⟩
  · rw [takePending_none (hpending.trans hn)]
    unfold Shows
    rw [h.eng, h.inputs, Door.settledAt_eq]
    exact ⟨rfl, rfl, rfl, rfl, rfl, rfl, rfl, fun a => (h.alone a).2⟩
  · rw [hstate]
    cases q <;> decide
  · have dropped := h.dropPending (e := e)
    unfold Shows
    rw [dropped.eng, dropped.inputs, Door.settledAt_eq]
    exact ⟨rfl, rfl, rfl, rfl, rfl, rfl, rfl, fun a => (dropped.alone a).2⟩
  · rw [(h.dropPending (e := e)).eng]

/-- The reading of a door in VERIFYING that shows its target (R125). -/
theorem readVerifying_reached {q : Posture} (hu : Unqueued d g) (hs : (g.door d).eng.state = .verifying)
    (ht : (g.door d).eng.target = some q) (hq : (g.door d).sensedAs (some q) (e.profile d) = some q) :
    ((g.door d).eng.pendingTarget = none → Shows d q (g.door d).inputs (g.queue = [])
      (answer e d (g.door d).eng.owed .done g).seqr (readVerifying e d g))
    ∧ (∀ y, (g.door d).eng.pendingTarget = some y → ∃ k, readVerifying e d g = targetSet e d y.posture y.params y.owed k
      ∧ Shows d q (g.door d).inputs (g.queue = []) (answer e d (g.door d).eng.owed .done g).seqr k
      ∧ (k.door d).eng.pendingTarget = none) := by
  rw [readVerifying_shows hs ht hq]
  exact ((Made.refl (A := g.queue = []) hu id).settleAt (e := e) q .done).reached

end

/-! ## The good reply of a door in VERIFYING -/

theorem verifying_heard (b : BranchNo) (k : DropNo) (r : BranchRecord) (rest : List Reception) (s : State) (ha : HeardAgain b k r s) :
    let d := doorAt b k
    let x := s.seg.door d
    let p := s.env.profile d
    let goes (g : Segment) : Prop := exec (.replyWindowEnd b (.record r :: rest)) s = .next (settled { s with seg := g })
    let z : Door := { x with inputs := namedInputs p (replyOf r) }
    SoundCurrent p r → x.eng.state = .verifying → ∀ q, x.eng.target = some q →
    let settles (g : Segment) : Prop := (g.door d).eng.state = q.state ∧ (g.door d).eng.target = some q
      ∧ (g.door d).eng.owed = none ∧ (g.door d).eng.timer.running = false ∧ (g.door d).inputs = z.inputs
      ∧ (g.door d).eng.live.notSecured = false ∧ (g.door d).eng.live.notReleased = false
      ∧ (s.seg.queue = [] → g.seqr = (answer s.env d x.eng.owed .done s.seg).seqr)
    (z.sensedAs (some q) p = some q → x.eng.pendingTarget = none → ∃ g, goes g ∧ settles g)
    ∧ (z.sensedAs (some q) p = some q → ∀ y, x.eng.pendingTarget = some y →
      ∃ h g, goes g ∧ g = { targetSet s.env d y.posture y.params y.owed h with branches := g.branches }
        ∧ settles h ∧ (h.door d).eng.pendingTarget = none)
    ∧ (z.sensedAs (some q) p ≠ some q → ∃ g, goes g ∧ (g.door d).eng.state = .verifying ∧ (g.door d).inputs = z.inputs
      ∧ (g.door d).eng.timer = x.eng.timer ∧ (g.door d).eng.retry = x.eng.retry ∧ (g.door d).eng.target = some q
      ∧ (g.door d).eng.owed = x.eng.owed ∧ (g.door d).eng.pendingTarget = x.eng.pendingTarget
      ∧ (g.door d).eng.drive = x.eng.drive ∧ g.queue = s.seg.queue ∧ g.seqr = s.seg.seqr) := by
  intro d x p goes z hc hs q ht settles
  have hgoes : goes (left s.env b k (readVerifying s.env d
      (heardUnread s.env d (s.seg.branch b).sentApply (s.seg.branch b).sentLock (replyOf r) s.seg))) := ha.leaves (rest := rest)
  have heard : Heeded Door.engaged d (s.seg.putDoor d (x.replied p (replyOf r)))
      (heardUnread s.env d (s.seg.branch b).sentApply (s.seg.branch b).sentLock (replyOf r) s.seg) := heardUnread_verifying hs hc.1 hc.2
  generalize heardUnread s.env d (s.seg.branch b).sentApply (s.seg.branch b).sentLock (replyOf r) s.seg = a at hgoes heard
  have hreplied : (s.seg.putDoor d (x.replied p (replyOf r))).door d = x.replied p (replyOf r) := door_putDoor_same ..
  have kept {α : Type} (read : Engine → α) (hread : Flagless read) :
      read (a.door d).eng = read x.eng :=
    (heard.engine read hread).trans (by rw [hreplied]; rfl)
  have hstate : (a.door d).eng.state = .verifying := (kept Engine.state fun _ _ _ => rfl).trans hs
  have htarget : (a.door d).eng.target = some q := (kept Engine.target fun _ _ _ => rfl).trans ht
  have howed : (a.door d).eng.owed = x.eng.owed := kept Engine.owed fun _ _ _ => rfl
  have hpending : (a.door d).eng.pendingTarget = x.eng.pendingTarget := kept Engine.pendingTarget fun _ _ _ => rfl
  have hinputs : (a.door d).inputs = z.inputs := heard.inputs.trans (by rw [hreplied]; rfl)
  have hsensed : (a.door d).sensedAs (some q) p = z.sensedAs (some q) p := (heard.sensedAs ..).trans (by rw [hreplied]; rfl)
  have hqueue : a.queue = s.seg.queue := heard.queue
  have hseqr : a.seqr = s.seg.seqr := heard.seqr
  have hanswer : (answer s.env d (a.door d).eng.owed .done a).seqr = (answer s.env d x.eng.owed .done s.seg).seqr := by
    rw [howed]
    exact answer_seqr hseqr
  have hunqueued : Unqueued d a := by
    rw [Unqueued, hqueue]
    exact ha.unqueued
  have reached (hq : z.sensedAs (some q) p = some q) := readVerifying_reached hunqueued hstate htarget (hsensed.trans hq)
  rw [hanswer, hinputs, hpending, hqueue] at reached
  refine ⟨fun hq hn => ⟨_, hgoes, (reached hq).1 hn⟩, fun hq y hy => ?_, fun hq => ⟨_, hgoes, ?_⟩⟩
  · obtain ⟨h, hset, hh⟩ := (reached hq).2 y hy
    refine ⟨h, _, hgoes, ?_, hh⟩
    rw [hset]
    exact left_eq _
  · rw [readVerifying_waits hstate htarget fun h => hq (hsensed.symm.trans h)]
    exact ⟨hstate, hinputs, kept Engine.timer fun _ _ _ => rfl, kept Engine.retry fun _ _ _ => rfl, htarget, howed, hpending,
      kept Engine.drive fun _ _ _ => rfl, hqueue, hseqr⟩

end Sys2Proof.Machine

namespace Sys2Proof

open Machine

/-- Settles O57: the run end from `run_timer`, the verify end from `verify_retries`, `verify_replaced` and `verify_limit_pending`, and the
good reply from `verifying_heard`: up to its reading a reply of sound current leaves a door in VERIFYING as `engaged` reads it. -/
theorem runAndVerify : Obligations.RunAndVerify := by
  unfold Obligations.RunAndVerify
  refine ⟨fun d s hp hu => ?_, verifying_heard, fun e d q o k g => ?_⟩
  · intro x p goes faults
    have hrun := run_timer d s hp hu
    refine ⟨hrun.1, hrun.2, fun hs => ?_, fun hs hr hz => ⟨verify_retries d s hp hu hs hr hz, fun ha q ht => ?_⟩,
      fun hs hr q hq => verify_replaced d s hp hu hs hr q hq, fun hs hr hz q ht => ?_, fun hs hr z q hz ht => ?_⟩
    · exact congrArg Host.Outcome.next (runSegment_same _ s hp (if_neg hs))
    · have hfails : verifyFailed s.env d s.seg = enterFaulted s.env d (failKind (x.eng.target.getD .secured)) (s.seg.putDoor d x.retried) :=
        (verifyFailed_retries hs hr hz).trans (if_neg (by rw [ha]; exact Bool.false_ne_true))
      obtain ⟨hfaults, hretry⟩ := faults_of_failed (d := d) (s := s) (y := x.retried) ht rfl rfl rfl
      exact ⟨_, verifyExpiry_exec hp hfails, hfaults, hretry⟩
    · have haims : Aims x.eng d (enterFaulted s.env d (failKind (x.eng.target.getD .secured)) s.seg) :=
        (Aims.of_eng (x := x.eng) (g := s.seg) rfl).enterFaulted
      have hfaults := faults_of_failed (d := d) (s := s) (y := x) ht rfl rfl rfl
      rw [putDoor_self] at hfaults
      exact ⟨_, verifyExpiry_exec hp ((verifyFailed_ends hs hr).trans (takePending_none (haims.pending.trans hz))), hfaults.1⟩
    · obtain ⟨hsecured, hreleased⟩ := verify_limit_pending d s hp hs hr z q hz ht
      refine ⟨hsecured, fun hq => ?_⟩
      obtain ⟨h, hgoes, hfaults, hnone⟩ := hreleased hq
      exact ⟨h, hgoes, hfaults.1, hnone⟩
  · intro p x started entered h failed
    have hrest : (restingDrive p.lockKind q = true) ↔ (p.lockKind = .magnetic ∧ q = .secured ∨ p.lockKind = .strike ∧ q = .released) := by
      cases p.lockKind <;> cases q <;> decide
    have hdrive : setDrive e d (restingDrive p.lockKind q) entered = h := if_congr hrest rfl rfl
    refine ⟨fun ht hq => ?_, fun ht hq => ?_, ?_, enterFaulted_eq k⟩
    · rw [enterVerifying_eq, ht]
      exact if_pos hq
    · rw [enterVerifying_eq, ht]
      exact if_neg hq
    · rw [← hdrive]
      exact settleAt_eq q o

end Sys2Proof
end

section
/-! DWELL_TICK, PROPPED_BEGINS, TIME_SINCE_CLOSE_TICK, and the POSITION events of a good reply at a monitored door (R68 to R75, R80). -/

namespace Sys2Proof.Machine

/-! ## A monitored door through a reply -/

/-- Door d is monitored, its monitor but for the watch is m, and where c holds its PROPPED flag is clear. -/
structure Monitored (e : Env) (d : DoorNo) (m : Monitor) (c : Prop) (g : Segment) : Prop where
  mon : { (g.door d).mon with watch := none } = m
  clear : c → (g.door d).eng.live.propped = false
  on : shouldMonitor e d g = true

section
variable {e : Env} {d : DoorNo} {m : Monitor} {c : Prop} {g : Segment} {x : Door}

theorem shouldMonitor_iff : shouldMonitor e d g = true ↔ e.fitted d = true ∧ (g.door d).eng.state ∉ [DoorState.absent, .outOfService]
    ∧ (e.profile d).assigns .position = true ∧ (g.door d).drop.lost = false ∧ (g.door d).drop.firstReply = true := by
  unfold shouldMonitor
  simp only [Bool.and_eq_true, bne_iff_ne, Bool.not_eq_true', List.mem_cons, List.not_mem_nil, or_false, not_or]
  tauto

/-- A change of a door that its monitoring does not read. -/
theorem Monitored.put {j : DoorNo} (hmon : { x.mon with watch := none } = { (g.door j).mon with watch := none })
    (hlive : x.eng.live.propped = (g.door j).eng.live.propped)
    (hstate : (g.door j).eng.state ∉ [DoorState.absent, .outOfService] → x.eng.state ∉ [DoorState.absent, .outOfService])
    (hdrop : x.drop.lost = (g.door j).drop.lost ∧ x.drop.firstReply = (g.door j).drop.firstReply) (h : Monitored e d m c g) :
    Monitored e d m c (g.putDoor j x) := by
  obtain ⟨hm, hc, hon⟩ := h
  rw [shouldMonitor_iff] at hon
  obtain ⟨hfit, hs, hp, hl, hf⟩ := hon
  by_cases hj : d = j
  · subst hj
    refine ⟨?_, ?_, shouldMonitor_iff.mpr ?_⟩
    · rw [door_putDoor_same, hmon, hm]
    · rw [door_putDoor_same, hlive]
      exact hc
    · rw [door_putDoor_same, hdrop.1, hdrop.2]
      exact ⟨hfit, hstate hs, hp, hl, hf⟩
  · refine ⟨?_, ?_, shouldMonitor_iff.mpr ?_⟩
    · rwa [door_putDoor_ne _ _ _ _ hj]
    · rwa [door_putDoor_ne _ _ _ _ hj]
    · rw [door_putDoor_ne _ _ _ _ hj]
      exact ⟨hfit, hs, hp, hl, hf⟩

theorem monitoredWork (e : Env) (d : DoorNo) (m : Monitor) (c : Prop) : HeardWork e d (Monitored e d m c) where
  toEngineWork := DoorWork.all {
    door := fun _ hx hg => hg.put (congrArg (fun r => r.2.2.1) hx.aside) hx.propped hx.fit (by rw [hx.drop]; exact ⟨rfl, rfl⟩)
    queue := fun _ hg => ⟨hg.mon, hg.clear, hg.on⟩
    exceptions := fun hg => ⟨hg.mon, hg.clear, hg.on⟩
    free := fun hg => ⟨hg.mon, hg.clear, hg.on⟩
    outcome := fun _ hg => by
      rw [recordOutcome_eq]
      exact ⟨hg.mon, hg.clear, hg.on⟩ }
  attend := fun {x g} hx hg => by
    have hstate : x.eng.state = (g.door d).eng.state := (congrArg (fun x : Door => x.eng.state) hx :)
    exact hg.put (congrArg (fun x : Door => { x.mon with watch := none }) hx :) (congrArg (fun x : Door => x.eng.live.propped) hx :)
      (hstate ▸ id) ⟨(congrArg (fun x : Door => x.drop.lost) hx :), (congrArg (fun x : Door => x.drop.firstReply) hx :)⟩
  count := fun hg => hg.put rfl rfl id ⟨rfl, rfl⟩

/-- The enable of a monitored door stands. -/
theorem Monitored.reenable (hm : m.enable = true) (h : Monitored e d m c g) : Monitored e d m c (reenable e d g) := by
  have henable : (g.door d).mon.enable = true := (congrArg Monitor.enable h.mon).trans hm
  rw [reenable_eq, if_pos (h.on.trans henable.symm)]
  exact h

/-! ## The POSITION events (R71, R73) -/

/-- A monitored door whose monitor is rewritten. -/
theorem Monitored.rewritten {c' : Prop} (h : Monitored e d m c g) (hx : x.drop = (g.door d).drop)
    (hs : x.eng.state = (g.door d).eng.state) (hc : c' → x.eng.live.propped = false) :
    Monitored e d { x.mon with watch := none } c' (g.putDoor d x) := by
  refine ⟨by rw [door_putDoor_same], by rwa [door_putDoor_same], ?_⟩
  have hon := h.on
  rw [shouldMonitor_iff] at hon ⊢
  rw [door_putDoor_same, hx, hs]
  exact hon

theorem Monitored.opens (h : Monitored e d m c g) (hm : m.enable = true) (ho : m.isOpen = false) :
    Monitored e d (m.opening (e.profile d)) False (positionEvent e d true g) := by
  have I := monitoredWork e d (m.opening (e.profile d)) False
  have hopens : (g.door d).mon.opens (e.profile d) = (g.door d).mon.opening (e.profile d) :=
    if_pos (by rw [(congrArg Monitor.enable h.mon).trans hm, (congrArg Monitor.isOpen h.mon).trans ho]; rfl)
  have opened := h.rewritten (x := { g.door d with mon := (g.door d).mon.opening (e.profile d) }) rfl rfl False.elim
  have hmon : ({ (g.door d).mon.opening (e.profile d) with watch := none } : Monitor) = m.opening (e.profile d) := by
    rw [← h.mon]
    rfl
  rw [positionEvent_eq, if_pos rfl]
  refine I.positionOpen trivial (I.evaluateWatch trivial ?_)
  rw [if_pos rfl, monitorOpen_eq, hopens, ← hmon]
  exact opened

theorem closing_propped (m : Monitor) : m.closing.propped = m.propped := by
  unfold Monitor.closing
  dsimp only
  split <;> rfl

theorem closing_kept (m : Monitor) : m.closing.enable = m.enable ∧ m.closing.isOpen = false ∧ m.closing.lastOpen = m.dwell
    ∧ m.closing.sinceClose = some 0 := by
  unfold Monitor.closing
  dsimp only
  split <;> exact ⟨rfl, rfl, rfl, rfl⟩

theorem closing_counts (h : m.latchedBounce ≤ m.dwell) :
    m.closing.passages = m.passages + 1 ∧ m.closing.windowCount = min 255 (m.windowCount + 1) := by
  unfold Monitor.closing
  dsimp only
  rw [if_pos h]
  exact ⟨rfl, rfl⟩

theorem closing_bounces (h : m.dwell < m.latchedBounce) : m.closing.passages = m.passages ∧ m.closing.windowCount = m.windowCount := by
  unfold Monitor.closing
  dsimp only
  rw [if_neg (Nat.not_le.mpr h)]
  exact ⟨rfl, rfl⟩

theorem closing_unwatched (m : Monitor) : ({ m.closing with watch := none } : Monitor) = Monitor.closing { m with watch := none } := by
  unfold Monitor.closing
  dsimp only
  split <;> rfl

theorem Door.closing_state (x : Door) : x.closing.eng.state = x.eng.state := by
  unfold Door.closing
  dsimp only
  split <;> rfl

theorem Door.closing_mon (x : Door) : ({ x.closing.mon with watch := none } : Monitor)
    = { Monitor.closing { x.mon with watch := none } with propped := false } :=
  congrArg (fun m : Monitor => { m with propped := false }) (closing_unwatched x.mon)

/-- A closing ends PROPPED at a door that is not ABSENT. -/
theorem Door.closing_clear {x : Door} (hm : x.mon.propped = true) (hs : x.eng.state ≠ .absent) : x.closing.eng.live.propped = false := by
  unfold Door.closing
  dsimp only
  rw [if_pos ⟨(closing_propped _).trans hm, hs⟩]

theorem Monitored.closes (h : Monitored e d m c g) (hm : m.enable = true) (ho : m.isOpen = true) :
    Monitored e d { m.closing with propped := false } (m.propped = true) (positionEvent e d false g) := by
  have I := monitoredWork e d { m.closing with propped := false } (m.propped = true)
  have hcloses : (g.door d).closes = (g.door d).closing :=
    if_pos (by rw [(congrArg Monitor.enable h.mon).trans hm, (congrArg Monitor.isOpen h.mon).trans ho]; rfl)
  have hstate : (g.door d).eng.state ≠ .absent := fun hs => (shouldMonitor_iff.mp h.on).2.1 (by simp [hs])
  have hpropped : (g.door d).mon.propped = m.propped := by rw [← h.mon]
  have closed := h.rewritten (x := (g.door d).closing) (c' := m.propped = true) rfl (Door.closing_state _)
    fun hm => Door.closing_clear (hpropped.trans hm) hstate
  rw [positionEvent_eq, if_neg Bool.false_ne_true]
  refine I.positionClosed trivial (I.evaluateWatch trivial ?_)
  rw [if_neg Bool.false_ne_true, monitorClose_eq, hcloses, ← h.mon, ← Door.closing_mon, h.mon]
  exact closed

/-! ## The reply -/

section
variable {b : BranchNo} {k : DropNo} {r : BranchRecord} {s : State}

/-- A reply at a monitored door, up to its POSITION event. -/
theorem HeardAgain.monitored (ha : HeardAgain b k r s) (hs : (s.seg.door (doorAt b k)).eng.state ∉ [DoorState.absent, .outOfService])
    (hp : (s.env.profile (doorAt b k)).assigns .position = true) :
    Monitored s.env (doorAt b k) { (s.seg.door (doorAt b k)).mon with watch := none } False
      (conditioned s.env (doorAt b k) (replyOf r) s.seg) := by
  refine (monitoredWork s.env _ _ _).conditioned ⟨by rw [door_putDoor_same]; rfl, False.elim, shouldMonitor_iff.mpr ?_⟩
  rw [door_putDoor_same]
  exact ⟨ha.fitted, hs, hp, ha.present, ha.seen⟩

/-- And what follows it. -/
theorem Monitored.heard {ap lk : Bool} {r : Reply} {t : Segment} (h : Monitored e d m c t) (hm : m.enable = true)
    (ht : replyPositioned e d r g = t) : Monitored e d m c (left e b k (heard e d ap lk r g)) := by
  subst ht
  obtain ⟨hmon, hc, hon⟩ := (monitoredWork e d m c).heard (ap := ap) (lk := lk) (fun h => h.reenable hm) h
  exact ⟨hmon, hc, hon⟩

theorem Monitored.read {α : Type} (h : Monitored e d m c g) (read : Monitor → α)
    (hread : ∀ m : Monitor, read { m with watch := none } = read m) : read (g.door d).mon = read m := by
  rw [← h.mon, hread]

end

end

theorem readAs_assigns {p : ProfileEntry} {f : TermFn} {levels : BitVec 6} {v : Bool} (h : p.readAs f levels = some v) :
    p.assigns f = true := by
  unfold ProfileEntry.assigns
  cases ht : p.terminalOf f with
  | none =>
    unfold ProfileEntry.readAs at h
    rw [ht] at h
    cases h
  | some _ => rfl

theorem monitor_heard (b : BranchNo) (k : DropNo) (r : BranchRecord) (rest : List Reception) (s : State) (ha : HeardAgain b k r s) :
    let d := doorAt b k
    let x := s.seg.door d
    let p := s.env.profile d
    x.mon.enable = true → x.eng.state ≠ .absent → x.eng.state ≠ .outOfService →
    ∃ g, exec (.replyWindowEnd b (.record r :: rest)) s = .next (settled { s with seg := g })
      ∧ (x.inputs.position = some false → p.readAs .position (replyOf r).inputs = some true → x.mon.isOpen = false →
        (g.door d).mon.isOpen = true ∧ (g.door d).mon.dwell = 0 ∧ (g.door d).mon.dwellSub = 0
        ∧ (g.door d).mon.latchedBounce = p.bounceLimit ∧ (g.door d).mon.latchedPropped = p.proppedLimit
        ∧ (g.door d).mon.passages = x.mon.passages ∧ (g.door d).mon.windowCount = x.mon.windowCount)
      ∧ (x.inputs.position = some true → p.readAs .position (replyOf r).inputs = some false → x.mon.isOpen = true →
        (g.door d).mon.isOpen = false ∧ (g.door d).mon.lastOpen = x.mon.dwell ∧ (g.door d).mon.sinceClose = some 0
        ∧ (g.door d).mon.propped = false ∧ (x.mon.propped = true → (g.door d).eng.live.propped = false)
        ∧ (x.mon.latchedBounce ≤ x.mon.dwell → (g.door d).mon.passages = x.mon.passages + 1
            ∧ (g.door d).mon.windowCount = min 255 (x.mon.windowCount + 1))
        ∧ (x.mon.dwell < x.mon.latchedBounce → (g.door d).mon.passages = x.mon.passages
            ∧ (g.door d).mon.windowCount = x.mon.windowCount))
      ∧ (p.assigns .position = true → x.inputs.position = p.readAs .position (replyOf r).inputs →
        (g.door d).mon.isOpen = x.mon.isOpen ∧ (g.door d).mon.dwell = x.mon.dwell
        ∧ (g.door d).mon.passages = x.mon.passages ∧ (g.door d).mon.sinceClose = x.mon.sinceClose) := by
  intro d x p he habs hout
  have hstate : x.eng.state ∉ [DoorState.absent, .outOfService] := by simp [habs, hout]
  have begun (hp : p.assigns .position = true) := ha.monitored hstate hp
  refine ⟨_, ha.leaves, fun hwas hnow ho => ?_, fun hwas hnow ho => ?_, fun hp hsame => ?_⟩
  · have seen := ((begun (readAs_assigns hnow)).opens he ho).heard (b := b) (k := k) (ap := (s.seg.branch b).sentApply)
      (lk := (s.seg.branch b).sentLock) he (positionTold_changed (changedInput_some hwas hnow))
    exact ⟨seen.read Monitor.isOpen fun _ => rfl, seen.read Monitor.dwell fun _ => rfl, seen.read Monitor.dwellSub fun _ => rfl,
      seen.read Monitor.latchedBounce fun _ => rfl, seen.read Monitor.latchedPropped fun _ => rfl,
      seen.read Monitor.passages fun _ => rfl, seen.read Monitor.windowCount fun _ => rfl⟩
  · have hclosing : Monitor.enable { Monitor.closing { x.mon with watch := none } with propped := false } = true :=
      (closing_kept _).1.trans he
    have seen := ((begun (readAs_assigns hnow)).closes he ho).heard (b := b) (k := k) (ap := (s.seg.branch b).sentApply)
      (lk := (s.seg.branch b).sentLock) hclosing (positionTold_changed (changedInput_some hwas hnow))
    obtain ⟨-, hopen, hlast, hsince⟩ := closing_kept { x.mon with watch := none }
    refine ⟨(seen.read Monitor.isOpen fun _ => rfl).trans hopen, (seen.read Monitor.lastOpen fun _ => rfl).trans hlast,
      (seen.read Monitor.sinceClose fun _ => rfl).trans hsince, seen.read Monitor.propped fun _ => rfl, seen.clear, fun hn => ?_, fun hn => ?_⟩
    · have hcounts := closing_counts (m := { x.mon with watch := none }) hn
      exact ⟨(seen.read Monitor.passages fun _ => rfl).trans hcounts.1, (seen.read Monitor.windowCount fun _ => rfl).trans hcounts.2⟩
    · have hcounts := closing_bounces (m := { x.mon with watch := none }) hn
      exact ⟨(seen.read Monitor.passages fun _ => rfl).trans hcounts.1, (seen.read Monitor.windowCount fun _ => rfl).trans hcounts.2⟩
  · have seen := (begun hp).heard (b := b) (k := k) (ap := (s.seg.branch b).sentApply) (lk := (s.seg.branch b).sentLock) he
      (positionTold_unchanged (changedInput_same hsame))
    exact ⟨seen.read Monitor.isOpen fun _ => rfl, seen.read Monitor.dwell fun _ => rfl, seen.read Monitor.passages fun _ => rfl,
      seen.read Monitor.sinceClose fun _ => rfl⟩

end Sys2Proof.Machine

namespace Sys2Proof

open Machine

/-- Settles O54: the ticks from `dwell_ticks` and `since_ticks`, the reply from `monitor_heard` (what follows the POSITION event keeps
`Monitored`), the shared operations from their equations. -/
theorem monitorTicks : Obligations.MonitorTicks := by
  unfold Obligations.MonitorTicks
  refine ⟨fun d s hp => ?_, monitor_heard, fun e d g => ?_⟩
  · obtain ⟨hstill, hdwell, hlimit, hnot, hbegins⟩ := dwell_ticks d s hp
    exact ⟨hstill, hdwell, hlimit, hnot, hbegins, since_ticks d s hp⟩
  · refine ⟨enableOn_eq, enableOff_eq, ?_, fun w => evaluateWatch_found, evaluateWatch_unquiet⟩
    rw [reenable_eq, enableOn_eq, enableOff_eq]
    rfl

end Sys2Proof
end

section
/-! A good reply at a door that waits for quiet, and at one that has gone on from there in the same reply (R58, R82, R125). -/

namespace Sys2Proof.Machine

/-! ## A door that waits for quiet -/

/-- What `engaged` reads, and the watch. -/
def Door.watched (x : Door) : Door × Option Watch := (x.engaged, x.mon.watch)

theorem attends_watched : Attends Door.watched := ⟨fun h => Prod.ext (attends_engaged.same h) (congrArg (fun x : Door => x.mon.watch) h :)⟩

section
variable {e : Env} {d : DoorNo} {g g0 : Segment} {r : Reply} {ap lk : Bool} {was now : Inputs}

theorem Heeded.watched (h : Heeded Door.sound d g0 g) : Heeded Door.watched d g0 g :=
  ⟨Prod.ext (engaged_of_sound h.door) (congrArg (fun x : Door => x.mon.watch) h.door :), h.rest, h.only⟩

theorem Heeded.of_watched (h : Heeded Door.watched d g0 g) : Heeded Door.engaged d g0 g := ⟨congrArg Prod.fst h.door, h.rest, h.only⟩

theorem Heeded.watch (h : Heeded Door.watched d g0 g) : (g.door d).mon.watch = (g0.door d).mon.watch := congrArg Prod.snd h.door

/-- The door's watch does not find it quiet. -/
def Unquiet (e : Env) (d : DoorNo) (g : Segment) : Prop :=
  ∀ w, (g.door d).mon.watch = some w → (g.door d).quiet (e.profile d) w = false

theorem Unquiet.of_none (h : (g.door d).mon.watch = none) : Unquiet e d g := fun w hw => by
  rw [h] at hw
  cases hw

theorem Unquiet.of_open (ha : (e.profile d).assigns .position = true) (ho : (g.door d).inputs.position = some true) : Unquiet e d g :=
  fun _ _ => not_quiet_of_position _ ha (by rw [ho]; simp)

theorem quiet_congr {p : ProfileEntry} {w : Watch} {x y : Door} (hi : y.inputs = x.inputs) (ha : y.mon.activity = x.mon.activity)
    (hs : y.mon.sinceClose = x.mon.sinceClose) : y.quiet p w = x.quiet p w := by
  unfold Door.quiet Door.closed
  rw [hi, ha, hs]

theorem Unquiet.heeded (hg : Heeded Door.sound d g0 g) (h : Unquiet e d g0) : Unquiet e d g := by
  have hmon : (g.door d).mon = (g0.door d).mon := (congrArg Door.mon hg.door :)
  have hinputs : (g.door d).inputs = (g0.door d).inputs := (congrArg Door.inputs hg.door :)
  intro w hw
  rw [quiet_congr hinputs (congrArg Monitor.activity hmon) (congrArg Monitor.sinceClose hmon)]
  exact h w (by rwa [← hmon])

/-- A monitor that finds its door closed begins its time since close again, and finds it no quieter (R69, R81). -/
theorem enabled_quiet {p : ProfileEntry} {w : Watch} {x : Door} {pos : Option Bool}
    (h : ({ x with mon := x.mon.enabled p pos } : Door).quiet p w = true) : x.quiet p w = true := by
  have hactivity : (x.mon.enabled p pos).activity = x.mon.activity := by
    unfold Monitor.enabled
    split <;> [rfl; (split <;> rfl)]
  have hsince : (x.mon.enabled p pos).sinceClose = x.mon.sinceClose ∨ (x.mon.enabled p pos).sinceClose = some 0 := by
    unfold Monitor.enabled
    split <;> [exact .inl rfl; (split <;> [exact .inr rfl; exact .inl rfl])]
  rw [quiet_iff] at h ⊢
  obtain ⟨hclosed, hquiet⟩ := h
  refine ⟨hclosed, hquiet.imp id fun ⟨ha, hs⟩ => ⟨hactivity ▸ ha, ?_⟩⟩
  rcases hsince with hsame | hzero
  · exact hsame ▸ hs
  · exact fun n _ => (hs 0 hzero).trans (Nat.zero_le n)

/-- The enable of such a door turns without a notice: its monitor changes but for the watch, and its PROPPED flag. -/
theorem reenable_unquiet (h : Unquiet e d g) : ∃ m b, m.watch = (g.door d).mon.watch ∧ reenable e d g = g.putDoor d { g.door d with
    mon := m, eng := { (g.door d).eng with live := { (g.door d).eng.live with propped := b } } } := by
  have still (m : Monitor) (b : Bool) (hm : m.watch = (g.door d).mon.watch)
      (hq : ∀ w, ({ g.door d with mon := m } : Door).quiet (e.profile d) w = true → (g.door d).quiet (e.profile d) w = true) :
      let x := { g.door d with mon := m, eng := { (g.door d).eng with live := { (g.door d).eng.live with propped := b } } }
      evaluateWatch e d (g.putDoor d x) = g.putDoor d x :=
    evaluateWatch_put_unquiet fun w hs => Bool.eq_false_iff.mpr fun hw => Bool.eq_false_iff.mp (h w (hm.symm.trans hs)) (hq w hw)
  rw [reenable_eq]
  split
  · exact ⟨(g.door d).mon, (g.door d).eng.live.propped, rfl, (putDoor_self g d).symm⟩
  · split
    · have hwatch : ((g.door d).mon.enabled (e.profile d) (g.door d).inputs.position).watch = (g.door d).mon.watch := by
        unfold Monitor.enabled
        split <;> [rfl; (split <;> rfl)]
      rw [enableOn_eq]
      exact ⟨_, (g.door d).eng.live.propped, hwatch, still _ _ hwatch fun w => enabled_quiet⟩
    · let off : Monitor := { (g.door d).mon with
        enable := false, propped := false
        lastOpen := if (g.door d).mon.isOpen then (g.door d).mon.dwell else (g.door d).mon.lastOpen }
      rw [enableOff_eq]
      split
      · exact ⟨off, false, rfl, still off false rfl fun _ => id⟩
      · exact ⟨off, (g.door d).eng.live.propped, rfl, still off _ rfl fun _ => id⟩

theorem reenable_watched (h : Unquiet e d g) : Heeded Door.watched d g (reenable e d g) := by
  obtain ⟨m, b, hm, hturned⟩ := reenable_unquiet h
  rw [hturned]
  exact .put (Prod.ext rfl hm)

theorem eventsTold_sound (h : (g.door d).eng.state ∉ [DoorState.secured, .exitShunt]) :
    Heeded Door.sound d g (eventsTold e d was now g) := by
  have tampered : Heeded Door.sound d g (if changedInput was.tamper now.tamper = some true then tamperBegins e d .terminal g else g) := by
    split <;> [exact attends_sound.tamperBegins _; exact .refl g]
  unfold eventsTold
  dsimp only
  rw [exitRequested_elsewhere h, ite_self]
  exact tampered.trans attends_sound.tamperCheck

/-! ## A door in VERIFYING that does not show its target -/

/-- Where the door is verified, its sensed posture is another than its target. -/
def Unshown (e : Env) (d : DoorNo) (g : Segment) : Prop :=
  (g.door d).eng.state = .verifying → ∀ q, (g.door d).eng.target = some q → (g.door d).sensedAs (some q) (e.profile d) ≠ some q

theorem Unshown.of_state (h : (g.door d).eng.state ≠ .verifying) : Unshown e d g := fun hs => absurd hs h

theorem Unshown.readVerifying (h : Unshown e d g) : readVerifying e d g = g := by
  by_cases hs : (g.door d).eng.state = .verifying
  · cases ht : (g.door d).eng.target with
    | some q => exact readVerifying_waits hs ht (h hs q ht)
    | none =>
      unfold Machine.readVerifying
      dsimp only
      rw [hs, ht]
  · unfold Machine.readVerifying
    dsimp only
    split
    · next hv _ => exact absurd hv hs
    · rfl

theorem Unshown.heeded (hg : Heeded Door.engaged d g0 g) (h : Unshown e d g0) : Unshown e d g := by
  intro hs q ht hq
  exact h (hg.state.symm.trans hs) q ((hg.engine Engine.target fun _ _ _ => rfl).symm.trans ht)
    ((hg.sensedAs ..).symm.trans hq)

/-! ## What follows the POSITION event -/

/-- The reply after its POSITION event (R58, R59). -/
def afterPosition (e : Env) (d : DoorNo) (ap lk : Bool) (r : Reply) (was now : Inputs) (g : Segment) : Segment :=
  readVerifying e d (reenable e d (takePulse e d r (supervise e d ap lk r.current (eventsTold e d was now g))))

theorem heard_positioned : heard e d ap lk r g =
    afterPosition e d ap lk r (g.door d).inputs (namedInputs (e.profile d) r) (replyPositioned e d r g) := heard_eq ..

/-- A reply of sound current leaves a door in QUIET_WAIT that is not quiet. -/
theorem afterPosition_watched (hs : (g.door d).eng.state = .quietWait) (hq : Unquiet e d g) (hu : (e.profile d).underLimit ≤ r.current)
    (ho : r.current ≤ (e.profile d).overLimit) : Heeded Door.watched d g (afterPosition e d ap lk r was now g) := by
  have told := eventsTold_sound (e := e) (d := d) (g := g) (was := was) (now := now) (by rw [hs]; decide)
  have supervised := told.trans (supervise_sound (e := e) (ap := ap) (lk := lk) hu ho)
  have hstate := supervised.engaged.state.trans hs
  have pulsed := supervised.trans (attends_sound.takePulse (e := e) (r := r) (by rw [hstate]; decide) (by rw [hstate]; simp))
  have turned := pulsed.watched.trans (reenable_watched (hq.heeded pulsed))
  unfold afterPosition
  rw [Unshown.readVerifying (.of_state (by rw [turned.of_watched.state, hs]; decide))]
  exact turned

/-- And a door in a state that no reply moves but for its POSITION event. -/
theorem afterPosition_engaged (hs : (g.door d).eng.state ∉ [DoorState.quietWait, .driving, .lost, .verifying, .secured, .exitShunt])
    (hu : (e.profile d).underLimit ≤ r.current) (ho : r.current ≤ (e.profile d).overLimit) :
    Heeded Door.engaged d g (afterPosition e d ap lk r was now g) := by
  simp only [List.mem_cons, List.not_mem_nil, or_false, not_or] at hs
  obtain ⟨hwait, hdriving, hlost, hverifying, hsecured, hshunt⟩ := hs
  have told := eventsTold_engaged (e := e) (d := d) (g := g) (was := was) (now := now) fun _ => by simp [hsecured, hshunt]
  have after := told.trans (afterEvents_engaged (e := e) (ap := ap) (lk := lk) hu ho (by rw [told.state]; simp [hwait, hdriving, hlost]))
  unfold afterPosition
  rw [Unshown.readVerifying (.of_state (by rw [after.state]; exact hverifying))]
  exact after

end

end Sys2Proof.Machine
end

section
/-! What a door comes to that a reply takes toward RELEASED by its late policy (R116, R121), and the rest of that reply. -/

namespace Sys2Proof.Machine

section
variable {e : Env} {d : DoorNo} {g g0 : Segment} {x : Door} {r : Reply} {ap lk : Bool} {was now : Inputs}

/-! ## A door that is not verified -/

/-- The door is in another state than VERIFYING. -/
def Unverified (d : DoorNo) (g : Segment) : Prop := (g.door d).eng.state ≠ .verifying

namespace Unverified

theorem upd {f : Door → Door} (h : (f (g.door d)).eng.state ≠ .verifying) : Unverified d (g.upd e d f) := by
  rw [Unverified, upd_door_eng]
  exact h

theorem answer {owed : Option Nat} {o : DoorOutcome} (h : Unverified d g) : Unverified d (answer e d owed o g) := by
  rw [Unverified, answer_door]
  exact h

theorem answerOwed {o : DoorOutcome} (h : Unverified d g) : Unverified d (answerOwed e d o g) := by
  unfold Machine.answerOwed
  exact Unverified.answer (Unverified.upd (by exact h))

theorem revertTo (p : ProfileEntry) (x : Door) : (x.revertTo p).1 ≠ .verifying := by
  unfold Door.revertTo
  split
  · exact DoorState.noConfusion
  · exact DoorState.noConfusion
  · split <;> exact DoorState.noConfusion
  · split
    · exact DoorState.noConfusion
    · split <;> exact DoorState.noConfusion

theorem consider (h : Unverified d g) : Unverified d (consider e g) := by
  have others (j : DoorNo) (hj : d ≠ j) {g k : Segment} (hg : Unverified d g) (honly : OnlyDoor j g k) : Unverified d k := by
    rw [Unverified, honly d hj]
    exact hg
  refine consider_keeps (P := Unverified d) (fun {g} q _ hg => ?_) (fun {g} q _ hg => ?_) h
  · by_cases hq : d = q.door
    · subst hq
      rw [Unverified, (grant_made e q.door g).eng, granted_state]
      decide
    · exact others _ hq hg ((onlyDoorWork e q.door g).grant rfl (OnlyDoor.refl _ g))
  · by_cases hq : d = q.door
    · subst hq
      obtain ⟨b, hr⟩ := refuse_made e q.door g
      rw [Unverified, hr.eng]
      exact revertTo _ _
    · exact others _ hq hg ((onlyDoorWork e q.door g).refuse rfl (OnlyDoor.refl _ g))

theorem turnDriveOff (h : Unverified d g) : Unverified d (turnDriveOff e d g) := by
  unfold Machine.turnDriveOff
  split
  · rw [forceDriveOff_eq]
    exact Unverified.consider (Unverified.upd h)
  · exact h

theorem setDrive {on : Bool} (h : Unverified d g) : Unverified d (setDrive e d on g) := by
  unfold Machine.setDrive
  split <;> [exact Unverified.upd h; exact h.turnDriveOff]

theorem settleAt (q : Posture) (o : DoorOutcome) : Unverified d (settleAt e d q o g) := by
  have entered : Unverified d (updEng e d (fun x => { x.enter q.state with target := some q, deferral := .none, deferralSub := 0 }) g) :=
    Unverified.upd (by cases q <;> exact fun h => DoorState.noConfusion h)
  unfold Machine.settleAt clearLive
  exact (Unverified.upd (by exact entered.setDrive)).answerOwed

theorem enterFaulted (k : Kind) : Unverified d (enterFaulted e d k g) := by
  have entered : Unverified d (updEng e d (fun x => { x.enter .faulted with deferral := .none, deferralSub := 0 }) g) :=
    Unverified.upd fun h => DoorState.noConfusion h
  unfold Machine.enterFaulted
  exact (show Unverified d (raiseKind e d k none _) from Unverified.upd (e := e) entered).answerOwed

theorem awaitGrant : Unverified d (awaitGrant e d g) := by
  have entered : Unverified d (enterState e d .awaitGrant g) := by
    rw [Unverified, enterState_state]
    decide
  rw [awaitGrant_eq]
  exact Unverified.consider (g := { enterState e d .awaitGrant g with queue := insertEntry ⟨d, (e.doorEntry d).rank⟩ g.queue }) entered

theorem exitRequested (h : Unverified d g) : Unverified d (exitRequested e d g) := by
  unfold Machine.exitRequested startTimer
  dsimp only
  split
  · split
    · exact Unverified.upd (by rw [enterState_state]; decide)
    · exact Unverified.upd h
  · exact Unverified.upd h
  · exact h

end Unverified

/-! ## A door that does not show the target it is verified for -/

theorem Unverified.unshown (h : Unverified d g) : Unshown e d g := .of_state h

theorem unshown_enterVerifying : Unshown e d (enterVerifying e d g) := by
  rw [enterVerifying_eq]
  dsimp only
  have started (h : ∀ q, (g.door d).eng.target = some q → (g.door d).sensedAs (some q) (e.profile d) ≠ some q) :
      Unshown e d (g.upd e d fun x => { x with eng := { x.eng.enter .verifying with timer := ⟨(e.profile d).verifyTime, 0, true⟩ } }) := by
    intro _ q ht
    have hsensed := door_upd_read e d (fun x => { x with eng := { x.eng.enter .verifying with timer := ⟨(e.profile d).verifyTime, 0, true⟩ } })
      g fun x => x.sensedAs (some q) (e.profile d)
    rw [upd_door_eng] at ht
    exact fun hq => h q ht (hsensed.symm.trans hq)
  split
  · next q ht =>
    split
    · exact (Unverified.settleAt _ _).unshown
    · next hq => exact started fun v hv => Option.some.inj (ht.symm.trans hv) ▸ hq
  · next ht => exact started fun v hv => by rw [ht] at hv; cases hv

theorem unshown_takeReleased {o : DoorOutcome} : Unshown e d (takeReleased e d o g) := by
  unfold takeReleased
  dsimp only
  split
  · exact (Unverified.settleAt _ _).unshown
  · split
    · exact (Unverified.settleAt _ _).unshown
    · split
      · exact (Unverified.enterFaulted _).unshown
      · split
        · exact unshown_enterVerifying
        · exact Unverified.awaitGrant.unshown

theorem Unshown.tamperBegins {sub : SubReason} (h : Unshown e d g) : Unshown e d (tamperBegins e d sub g) :=
  h.heeded (attends_engaged.tamperBegins sub)

theorem Unshown.eventsTold (h : Unshown e d g) : Unshown e d (eventsTold e d was now g) := by
  have exits : Unshown e d (if changedInput was.exitRequest now.exitRequest = some true then exitRequested e d g else g) := by
    split
    · by_cases hs : (g.door d).eng.state = .verifying
      · rwa [exitRequested_elsewhere (by rw [hs]; decide)]
      · exact (Unverified.exitRequested hs).unshown
    · exact h
  unfold Machine.eventsTold
  dsimp only
  refine Unshown.heeded attends_engaged.tamperCheck ?_
  split <;> [exact exits.tamperBegins; exact exits]

/-- The pulse of a reply, at a door in VERIFYING or in any other state. -/
theorem Unshown.takePulse (h : Unshown e d g) : Unshown e d (takePulse e d r g) := by
  by_cases hs : (g.door d).eng.state = .verifying
  · exact h.heeded (attends_engaged.takePulse (by rw [hs]; decide) (by rw [hs]; simp))
  · have taken : Unverified d (pulseTaken e d r g) := Unverified.upd hs
    rw [takePulse_eq]
    split
    · refine Unverified.unshown (Unverified.upd ?_)
      dsimp only
      split
      · exact taken
      · split <;> exact taken
    · exact taken.unshown

/-! ## Forward -/

theorem Forward.heeded (hg : Heeded Door.watched d g0 g) (h : Forward d x g0) : Forward d x g := by
  have hengaged := hg.of_watched
  have hdeferral : (g.door d).eng.deferral = (g0.door d).eng.deferral := hengaged.engine Engine.deferral fun _ _ _ => rfl
  have howed : (g.door d).eng.owed = (g0.door d).eng.owed := hengaged.engine Engine.owed fun _ _ _ => rfl
  have hleft : (g.door d).eng.sticky.leftReleased = (g0.door d).eng.sticky.leftReleased :=
    hengaged.read (fun x => x.eng.sticky.leftReleased) fun _ => rfl
  exact Eased.trans h ⟨.inl hg.watch, .inl hdeferral, .inl howed, hleft.trans⟩

theorem Forward.exitRequested (h : Forward d x g) : Forward d x (exitRequested e d g) := by
  unfold Machine.exitRequested startTimer
  dsimp only
  split
  · split
    · exact Forward.upd (Forward.upd h.turnDriveOff)
    · exact h.upd
  · exact h.upd
  · exact h

theorem Forward.eventsTold (h : Forward d x g) : Forward d x (eventsTold e d was now g) := by
  have exits : Forward d x (if changedInput was.exitRequest now.exitRequest = some true then Machine.exitRequested e d g else g) := by
    split <;> [exact h.exitRequested; exact h]
  unfold Machine.eventsTold
  dsimp only
  refine Forward.heeded attends_watched.tamperCheck ?_
  split <;> [exact exits.heeded (attends_watched.tamperBegins _); exact exits]

theorem Forward.takePulse (h : Forward d x g) : Forward d x (takePulse e d r g) := by
  have taken : Forward d x (pulseTaken e d r g) := h.heeded (attends_watched.pulseTaken r)
  rw [takePulse_eq]
  split
  · refine taken.upd ?_
    dsimp only
    split
    · exact ⟨.inl rfl, .inl rfl, .inl rfl, id⟩
    · split <;> exact ⟨.inl rfl, .inl rfl, .inl rfl, id⟩
  · exact taken

/-- The rest of a reply of sound current, at a door without a watch. -/
theorem Forward.afterPosition (h : Forward d x g) (hw : x.mon.watch = none) (hg : Unshown e d g)
    (hu : (e.profile d).underLimit ≤ r.current)
    (ho : r.current ≤ (e.profile d).overLimit) : Forward d x (afterPosition e d ap lk r was now g) := by
  have supervised := (supervise_sound (e := e) (d := d) (g := Machine.eventsTold e d was now g) (ap := ap) (lk := lk) hu ho).watched
  have pulsed := (h.eventsTold.heeded supervised).takePulse (e := e) (r := r)
  have hnone : ((Machine.takePulse e d r (supervise e d ap lk r.current (Machine.eventsTold e d was now g))).door d).mon.watch = none :=
    pulsed.watch.elim (fun h => h.trans hw) id
  have reenabled := reenable_watched (Unquiet.of_none (e := e) hnone)
  have unshown := ((hg.eventsTold.heeded supervised.of_watched).takePulse (r := r)).heeded reenabled.of_watched
  unfold Machine.afterPosition
  rw [unshown.readVerifying]
  exact pulsed.heeded reenabled

end

end Sys2Proof.Machine
end

section
/-! WARNING_EXPIRY, and the opening of a door that waits or warns (R121 to R123). -/

namespace Sys2Proof.Machine

section
variable {e : Env} {d : DoorNo} {g : Segment}

/-- The segment in which a POSITION OPEN returns a door to QUIET_WAIT (R122, R123). -/
def returnedFrom (e : Env) (d : DoorNo) (g : Segment) : Segment := if (g.door d).eng.state = .awaitGrant then withdraw e d g else g

theorem positionOpen_waits (h : (g.door d).eng.state = .warning ∨ ((g.door d).eng.state = .awaitGrant ∧ (g.door d).eng.target = some .secured)) :
    positionOpen e d g = enterQuietWait e d (returnedFrom e d g) := by
  unfold positionOpen returnedFrom
  dsimp only
  rcases h with hs | ⟨hs, ht⟩
  · rw [hs]
    rfl
  · rw [hs]
    exact if_pos ht

theorem positionOpen_granted (hs : (g.door d).eng.state = .awaitGrant) (ht : (g.door d).eng.target = some .released) :
    positionOpen e d g = g := by
  unfold positionOpen
  dsimp only
  rw [hs, ht]
  exact if_neg (by decide)

/-- The door returned is as it was, and stands in no queue where it stood in one in AWAIT_GRANT at most. -/
theorem returnedFrom_door : ((returnedFrom e d g).door d).core = (g.door d).core := by
  unfold returnedFrom
  split
  · obtain ⟨b, hmade⟩ := withdraw_made e d g
    exact hmade.door
  · rfl

theorem returnedFrom_unqueued (h : ∀ q ∈ g.queue, q.door = d → (g.door d).eng.state = .awaitGrant) : Unqueued d (returnedFrom e d g) := by
  unfold returnedFrom
  split
  · obtain ⟨b, hmade⟩ := withdraw_made e d g
    exact hmade.unqueued
  · next hs => exact fun q hq hd => hs (h q hq hd)

theorem waitingAt_core (m : Option Watch) : ((g.waitingAt e d m).door d).core =
    ({ g.door d with eng := (g.door d).eng.enter .quietWait, mon := { (g.door d).mon with watch := m } } : Door).core :=
  door_upd_read e d _ g Door.core

/-! ## An EXPIRED deferral acted on at an open door (R121) -/

section
variable {x : Door}

/-- The door that the late policy leaves waiting with its force flag set. -/
def Door.forcedOpen (x : Door) : Door := { x with
  eng := { x.eng with force := true, deferral := .none, deferralSub := 0, owed := none }
  mon := { x.mon with watch := some ⟨x.eng.params.threshold, true⟩ } }

theorem actOnExpiry_forced (hp : x.eng.params.policy = .force) (ha : (e.profile d).assigns .position = true)
    (ho : x.inputs.position = some true) : actOnExpiry e d (g.putDoor d x) =
      listException e (some d) .propped none (answer e d x.eng.owed .proppedLate (g.putDoor d x.forcedOpen)) := by
  rw [actOnExpiry_force hp]
  dsimp only
  rw [if_pos ⟨ha, ho⟩, setWatch_put_unquiet (by exact not_quiet_of_position _ ha (by rw [Door.expired, ho]; simp)), answerOwed_put]
  rfl

/-- The door that it takes toward RELEASED. -/
def Door.leftOpen (x : Door) : Door := { x.expired Engine.leftReleased with mon := { x.mon with watch := none } }

theorem actOnExpiry_left (hp : x.eng.params.policy = .leave) : actOnExpiry e d (g.putDoor d x) = takeReleased e d .already
    (listException e (some d) .leftReleased none (answer e d x.eng.owed .leftReleased (g.putDoor d x.leftOpen))) := by
  rw [actOnExpiry_leave hp, clearWatch_listException, clearWatch_answer, clearWatch_put]
  rfl

variable {r : Reply} {ap lk : Bool} {was now : Inputs}

theorem afterPosition_left (hp : x.eng.params.policy = .leave) (hu : (e.profile d).underLimit ≤ r.current)
    (ho : r.current ≤ (e.profile d).overLimit) :
    let t := afterPosition e d ap lk r was now (actOnExpiry e d (g.putDoor d x))
    (t.door d).eng.owed = none ∧ (t.door d).eng.deferral = .none ∧ (t.door d).eng.sticky.leftReleased = true
    ∧ (t.door d).mon.watch = none := by
  rw [actOnExpiry_left hp]
  have begun : Forward d x.leftOpen
      (listException e (some d) .leftReleased none (answer e d x.eng.owed .leftReleased (g.putDoor d x.leftOpen))) := by
    rw [Forward, listException_door, answer_door, door_putDoor_same]
    exact .refl _
  have ended := (begun.takeReleased (e := e) (o := .already)).afterPosition (e := e) (r := r) (ap := ap) (lk := lk) (was := was) (now := now)
    rfl unshown_takeReleased hu ho
  intro t
  exact ⟨ended.owed.elim (fun h => h.trans rfl) id, ended.deferral.elim (fun h => h.trans rfl) id, ended.left rfl,
    ended.watch.elim (fun h => h.trans rfl) id⟩

theorem afterPosition_forced (hp : x.eng.params.policy = .force) (hs : x.eng.state = .quietWait)
    (ha : (e.profile d).assigns .position = true) (hx : x.inputs.position = some true) (hu : (e.profile d).underLimit ≤ r.current)
    (ho : r.current ≤ (e.profile d).overLimit) :
    let t := afterPosition e d ap lk r was now (actOnExpiry e d (g.putDoor d x))
    (t.door d).eng.owed = none ∧ (t.door d).eng.deferral = .none ∧ (t.door d).eng.state = .quietWait ∧ (t.door d).eng.force = true
    ∧ (t.door d).mon.watch = some ⟨x.eng.params.threshold, true⟩ := by
  intro t
  have hdoor : ((actOnExpiry e d (g.putDoor d x)).door d) = x.forcedOpen := by
    rw [actOnExpiry_forced hp ha hx, listException_door, answer_door, door_putDoor_same]
  have ended : Heeded Door.watched d (actOnExpiry e d (g.putDoor d x)) t := afterPosition_watched (by rw [hdoor]; exact hs)
    (Unquiet.of_open ha (by rw [hdoor]; exact hx)) hu ho
  have kept {α : Type} (read : Engine → α) (hread : Flagless read) :
      read (t.door d).eng = read x.forcedOpen.eng := (ended.of_watched.engine read hread).trans (by rw [hdoor])
  exact ⟨kept Engine.owed fun _ _ _ => rfl, kept Engine.deferral fun _ _ _ => rfl, (kept Engine.state fun _ _ _ => rfl).trans hs,
    kept Engine.force fun _ _ _ => rfl, ended.watch.trans (by rw [hdoor]; rfl)⟩

end

end

/-! ## The return to QUIET_WAIT of an open door -/

section
variable {e : Env} {d : DoorNo} {g : Segment} {r : Reply} {ap lk : Bool} {was now : Inputs}

theorem waitingAt_eng (m : Option Watch) : ((g.waitingAt e d m).door d).eng = (g.door d).eng.enter .quietWait := upd_door_eng ..

theorem afterPosition_returned (hr : (g.door d).eng.state ≠ .released) (hs : (g.door d).eng.state ≠ .secured)
    (hd : (g.door d).eng.deferral ≠ .expired) (ha : (e.profile d).assigns .position = true)
    (hx : (g.door d).inputs.position = some true) (hu : (e.profile d).underLimit ≤ r.current) (ho : r.current ≤ (e.profile d).overLimit) :
    let t := afterPosition e d ap lk r was now (enterQuietWait e d g)
    let y := (g.door d).eng
    (t.door d).eng.state = .quietWait ∧ (t.door d).eng.timer.running = false
    ∧ (t.door d).mon.watch = some ⟨y.params.threshold, y.force⟩ ∧ (t.door d).eng.target = y.target ∧ (t.door d).eng.owed = y.owed
    ∧ (t.door d).eng.deferral = y.deferral ∧ (t.door d).eng.retry = y.retry ∧ (t.door d).eng.drive = y.drive ∧ t.queue = g.queue := by
  intro t y
  have hentered : enterQuietWait e d g = g.waitingAt e d (some ⟨y.params.threshold, y.force⟩) :=
    (enterQuietWait_unquiet (not_quiet_of_position _ ha (by rw [hx]; simp))).trans (if_neg hd)
  have heng : ((enterQuietWait e d g).door d).eng = { y with state := .quietWait, timer := ⟨0, 0, false⟩ } := by
    rw [hentered, waitingAt_eng]
    exact Engine.enter_unsettled _ _ hr hs rfl
  have hcore := waitingAt_core (e := e) (d := d) (g := g) (some ⟨y.params.threshold, y.force⟩)
  have hinputs : ((enterQuietWait e d g).door d).inputs = (g.door d).inputs := by
    rw [hentered]
    exact Door.core_read hcore Door.inputs
  have hwatch : ((enterQuietWait e d g).door d).mon.watch = some ⟨y.params.threshold, y.force⟩ := by
    rw [hentered]
    exact Door.core_read hcore fun x => x.mon.watch
  have after : Heeded Door.watched d (enterQuietWait e d g) t :=
    afterPosition_watched (by rw [heng]) (Unquiet.of_open ha (by rw [hinputs, hx])) hu ho
  have kept {α : Type} (read : Engine → α) (hread : Flagless read) :
      read (t.door d).eng = read { y with state := .quietWait, timer := ⟨0, 0, false⟩ } :=
    (after.of_watched.engine read hread).trans (by rw [heng])
  exact ⟨kept Engine.state fun _ _ _ => rfl, kept (fun x => x.timer.running) fun _ _ _ => rfl, after.watch.trans hwatch,
    kept Engine.target fun _ _ _ => rfl, kept Engine.owed fun _ _ _ => rfl, kept Engine.deferral fun _ _ _ => rfl,
    kept Engine.retry fun _ _ _ => rfl, kept Engine.drive fun _ _ _ => rfl, after.queue.trans (by rw [hentered]; exact upd_queue ..)⟩

/-- An EXPIRED deferral is acted on at that return. -/
theorem afterPosition_late (hd : (g.door d).eng.deferral = .expired) (ha : (e.profile d).assigns .position = true)
    (hx : (g.door d).inputs.position = some true) (hu : (e.profile d).underLimit ≤ r.current) (ho : r.current ≤ (e.profile d).overLimit) :
    let t := afterPosition e d ap lk r was now (enterQuietWait e d g)
    let y := (g.door d).eng
    (t.door d).eng.owed = none ∧ (t.door d).eng.deferral = .none
    ∧ (y.params.policy = .force → (t.door d).eng.state = .quietWait ∧ (t.door d).eng.force = true
      ∧ (t.door d).mon.watch = some ⟨y.params.threshold, true⟩)
    ∧ (y.params.policy = .leave → (t.door d).eng.sticky.leftReleased = true ∧ (t.door d).mon.watch = none) := by
  intro t y
  have hentered : enterQuietWait e d g = actOnExpiry e d (g.waitingAt e d (some ⟨y.params.threshold, y.force⟩)) :=
    (enterQuietWait_unquiet (not_quiet_of_position _ ha (by rw [hx]; simp))).trans (if_pos hd)
  have hcore := waitingAt_core (e := e) (d := d) (g := g) (some ⟨y.params.threshold, y.force⟩)
  have heng := waitingAt_eng (e := e) (d := d) (g := g) (some ⟨y.params.threshold, y.force⟩)
  generalize g.waitingAt e d (some ⟨y.params.threshold, y.force⟩) = k at hentered hcore heng
  have hparams : (k.door d).eng.params = y.params := by rw [heng]; rfl
  have hinputs : (k.door d).inputs.position = some true := (Door.core_read hcore fun x => x.inputs.position).trans hx
  have ht : t = afterPosition e d ap lk r was now (actOnExpiry e d (k.putDoor d (k.door d))) := by
    rw [putDoor_self, ← hentered]
  rw [ht, ← hparams]
  cases hp : (k.door d).eng.params.policy with
  | force =>
    obtain ⟨howed, hdeferral, hstate, hforce, hwatch⟩ := afterPosition_forced (e := e) (d := d) (g := k) (ap := ap) (lk := lk) (was := was)
      (now := now) hp (by rw [heng]; rfl) ha hinputs hu ho
    exact ⟨howed, hdeferral, fun _ => ⟨hstate, hforce, hwatch⟩, LatePolicy.noConfusion⟩
  | leave =>
    obtain ⟨howed, hdeferral, hleft, hwatch⟩ := afterPosition_left (e := e) (d := d) (g := k) (ap := ap) (lk := lk) (was := was)
      (now := now) hp hu ho
    exact ⟨howed, hdeferral, LatePolicy.noConfusion, fun _ => ⟨hleft, hwatch⟩⟩

end

/-! ## The opening of a waiting door -/

section
variable {e : Env} {d : DoorNo} {g : Segment} {r : Reply}

/-- A reply that opens the door, up to what the door's engine makes of it, at a door that does not wait for quiet. -/
theorem opening_engaged (hs : (g.door d).eng.state ≠ .quietWait) :
    Heeded Door.engaged d (g.putDoor d ((g.door d).replied (e.profile d) r)) (positionSeen e d true (conditioned e d r g)) := by
  have begun := conditioned_engaged (e := e) (d := d) (g := g) (r := r)
  exact begun.trans (positionSeen_engaged true (by rw [begun.state, replied_door]; exact hs))

theorem replyPositioned_opens (hwas : (g.door d).inputs.position = some false) (hnow : (e.profile d).readAs .position r.inputs = some true) :
    replyPositioned e d r g = positionOpen e d (positionSeen e d true (conditioned e d r g)) := by
  unfold replyPositioned
  rw [positionTold_changed (changedInput_some hwas hnow), positionEvent_eq, if_pos rfl]

end

theorem warning_heard (b : BranchNo) (k : DropNo) (r : BranchRecord) (rest : List Reception) (s : State) (ha : Heard b k r s) :
    let d := doorAt b k
    let x := s.seg.door d
    let p := s.env.profile d
    SoundCurrent p r → x.inputs.position = some false → p.readAs .position (replyOf r).inputs = some true →
    let waits : Prop := x.eng.state = .warning ∨ (x.eng.state = .awaitGrant ∧ x.eng.target = some .secured)
    ∃ g, exec (.replyWindowEnd b (.record r :: rest)) s = .next (settled { s with seg := g })
      ∧ (waits → x.eng.deferral ≠ .expired → (∀ q ∈ s.seg.queue, q.door = d → x.eng.state = .awaitGrant) →
        (g.door d).eng.state = .quietWait ∧ (g.door d).eng.timer.running = false
        ∧ (g.door d).mon.watch = some ⟨x.eng.params.threshold, x.eng.force⟩
        ∧ (g.door d).eng.target = x.eng.target ∧ (g.door d).eng.owed = x.eng.owed
        ∧ (g.door d).eng.deferral = x.eng.deferral ∧ (g.door d).eng.retry = x.eng.retry
        ∧ (g.door d).eng.drive = x.eng.drive ∧ (∀ q ∈ g.queue, q.door ≠ d))
      ∧ (waits → x.eng.deferral = .expired →
        (g.door d).eng.owed = none ∧ (g.door d).eng.deferral = .none
        ∧ (x.eng.params.policy = .force → (g.door d).eng.state = .quietWait ∧ (g.door d).eng.force = true
          ∧ (g.door d).mon.watch = some ⟨x.eng.params.threshold, true⟩)
        ∧ (x.eng.params.policy = .leave → (g.door d).eng.sticky.leftReleased = true ∧ (g.door d).mon.watch = none))
      ∧ (x.eng.state = .awaitGrant → x.eng.target = some .released →
        (g.door d).eng.state = .awaitGrant ∧ (g.door d).eng.target = some .released ∧ g.queue = s.seg.queue) := by
  intro d x p hc hwas hnow waits
  have hp : p.assigns .position = true := readAs_assigns hnow
  let goes (g : Segment) : Prop := exec (.replyWindowEnd b (.record r :: rest)) s = .next (settled { s with seg := g })
  have hgoes : goes (left s.env b k
      (afterPosition s.env d (s.seg.branch b).sentApply (s.seg.branch b).sentLock (replyOf r) x.inputs (namedInputs p (replyOf r))
        (positionOpen s.env d (positionSeen s.env d true (conditioned s.env d (replyOf r) s.seg))))) := by
    show exec _ s = _
    rw [ha.leaves (rest := rest), heard_positioned, replyPositioned_opens hwas hnow]
  have seen (hs : x.eng.state ≠ .quietWait) : Heeded Door.engaged d (s.seg.putDoor d (x.replied p (replyOf r)))
      (positionSeen s.env d true (conditioned s.env d (replyOf r) s.seg)) := opening_engaged hs
  refine ⟨_, hgoes, ?_⟩
  generalize positionSeen s.env d true (conditioned s.env d (replyOf r) s.seg) = c at seen
  have hreplied : (s.seg.putDoor d (x.replied p (replyOf r))).door d = x.replied p (replyOf r) := door_putDoor_same ..
  have kept (hs : x.eng.state ≠ .quietWait) {α : Type} (read : Engine → α)
      (hread : Flagless read) : read (c.door d).eng = read x.eng :=
    ((seen hs).engine read hread).trans (by rw [hreplied]; rfl)
  have hopen (hs : x.eng.state ≠ .quietWait) : (c.door d).inputs.position = some true := by
    rw [(seen hs).inputs, hreplied]
    exact hnow
  have elsewhere (hw : waits) : x.eng.state ≠ .quietWait ∧ x.eng.state ≠ .released ∧ x.eng.state ≠ .secured := by
    rcases hw with h | ⟨h, -⟩ <;> rw [h] <;> decide
  have returns (hw : waits) : positionOpen s.env d c = enterQuietWait s.env d (returnedFrom s.env d c) := positionOpen_waits (by
    rw [kept (elsewhere hw).1 Engine.state fun _ _ _ => rfl, kept (elsewhere hw).1 Engine.target fun _ _ _ => rfl]
    exact hw)
  have hcore : ((returnedFrom s.env d c).door d).core = (c.door d).core := returnedFrom_door
  have returned (hw : waits) {α : Type} (read : Engine → α) (hread : Flagless read) :
      read ((returnedFrom s.env d c).door d).eng = read x.eng :=
    (congrArg read (Door.core_read hcore Door.eng)).trans (kept (elsewhere hw).1 read hread)
  have hposition (hw : waits) : ((returnedFrom s.env d c).door d).inputs.position = some true :=
    (Door.core_read hcore fun y => y.inputs.position).trans (hopen (elsewhere hw).1)
  refine ⟨fun hw hd hu => ?_, fun hw hd => ?_, fun hs ht => ?_⟩
  · obtain ⟨hs, hr, hsec⟩ := elsewhere hw
    have hqueue : ∀ q ∈ c.queue, q.door = d → (c.door d).eng.state = .awaitGrant := by
      rw [(seen hs).queue, kept hs Engine.state fun _ _ _ => rfl]
      exact hu
    have hstate := returned hw Engine.state fun _ _ _ => rfl
    obtain ⟨h1, h2, h3, h4, h5, h6, h7, h8, h9⟩ := afterPosition_returned (e := s.env) (d := d) (g := returnedFrom s.env d c) (r := replyOf r)
      (ap := (s.seg.branch b).sentApply) (lk := (s.seg.branch b).sentLock) (was := x.inputs) (now := namedInputs p (replyOf r))
      (by rwa [hstate]) (by rwa [hstate]) (by rwa [returned hw Engine.deferral fun _ _ _ => rfl]) hp (hposition hw) hc.1 hc.2
    rw [returned hw Engine.params fun _ _ _ => rfl, returned hw Engine.force fun _ _ _ => rfl] at h3
    rw [returns hw, left_door]
    refine ⟨h1, h2, h3, h4.trans (returned hw Engine.target fun _ _ _ => rfl), h5.trans (returned hw Engine.owed fun _ _ _ => rfl),
      h6.trans (returned hw Engine.deferral fun _ _ _ => rfl), h7.trans (returned hw Engine.retry fun _ _ _ => rfl),
      h8.trans (returned hw Engine.drive fun _ _ _ => rfl), fun q hq => returnedFrom_unqueued (e := s.env) hqueue q ?_⟩
    rw [← h9]
    exact hq
  · have late := afterPosition_late (e := s.env) (d := d) (g := returnedFrom s.env d c) (r := replyOf r)
      (ap := (s.seg.branch b).sentApply) (lk := (s.seg.branch b).sentLock) (was := x.inputs) (now := namedInputs p (replyOf r))
      (by rwa [returned hw Engine.deferral fun _ _ _ => rfl]) hp (hposition hw) hc.1 hc.2
    dsimp only at late
    rw [returned hw Engine.params fun _ _ _ => rfl] at late
    rw [returns hw, left_door]
    exact late
  · have hstate := (kept (by rw [hs]; decide) Engine.state fun _ _ _ => rfl).trans hs
    have htarget := (kept (by rw [hs]; decide) Engine.target fun _ _ _ => rfl).trans ht
    rw [positionOpen_granted hstate htarget, left_door]
    have after := afterPosition_engaged (e := s.env) (d := d) (g := c) (r := replyOf r) (ap := (s.seg.branch b).sentApply)
      (lk := (s.seg.branch b).sentLock) (was := x.inputs) (now := namedInputs p (replyOf r)) (by rw [hstate]; decide) hc.1 hc.2
    exact ⟨after.state.trans hstate, (after.engine Engine.target fun _ _ _ => rfl).trans htarget,
      after.queue.trans (seen (by rw [hs]; decide)).queue⟩

end Sys2Proof.Machine

namespace Sys2Proof

open Machine

/-- Settles O56: the warning's end from `warning_ends`, the opening of a waiting door from `warning_heard`, the shared operations from
their equations. -/
theorem warningEnds : Obligations.WarningEnds := by
  unfold Obligations.WarningEnds
  exact ⟨warning_ends, warning_heard, quiet_entry, Engine.enter_eq⟩

end Sys2Proof
end

section
/-! EXIT_SHUNT_EXPIRY, EXIT_WINDOW_EXPIRY, and the terminal events of a good reply at a SECURED or shunted door (R126, R127). -/

namespace Sys2Proof.Machine

/-! ## The exit request apart -/

/-- The EXIT_REQUEST event of a reply, where there is one (R59). -/
def exitsTold (e : Env) (d : DoorNo) (was now : Inputs) (g : Segment) : Segment :=
  if changedInput was.exitRequest now.exitRequest = some true then exitRequested e d g else g

section
variable {e : Env} {d : DoorNo} {g g0 : Segment} {r : Reply} {ap lk : Bool} {was now : Inputs} {x : Door}

theorem eventsTold_eq : eventsTold e d was now g = tamperCheck e d
    (if changedInput was.tamper now.tamper = some true then tamperBegins e d .terminal (exitsTold e d was now g)
      else exitsTold e d was now g) := rfl

theorem exitsTold_none (h : changedInput was.exitRequest now.exitRequest ≠ some true) : exitsTold e d was now g = g := if_neg h

theorem exitsTold_some (h : changedInput was.exitRequest now.exitRequest = some true) : exitsTold e d was now g = exitRequested e d g :=
  if_pos h

/-- What follows the EXIT_REQUEST event of a reply of sound current. -/
theorem afterPosition_told (hs : ((exitsTold e d was now g).door d).eng.state ∉ [DoorState.quietWait, .driving, .lost])
    (hv : Unshown e d (exitsTold e d was now g)) (hu : (e.profile d).underLimit ≤ r.current) (ho : r.current ≤ (e.profile d).overLimit) :
    Heeded Door.engaged d (exitsTold e d was now g) (afterPosition e d ap lk r was now g) := by
  have tampered : Heeded Door.engaged d (exitsTold e d was now g) (if changedInput was.tamper now.tamper = some true
      then tamperBegins e d .terminal (exitsTold e d was now g) else exitsTold e d was now g) := by
    split <;> [exact attends_engaged.tamperBegins _; exact .refl _]
  have told : Heeded Door.engaged d (exitsTold e d was now g) (eventsTold e d was now g) := by
    rw [eventsTold_eq]
    exact tampered.trans attends_engaged.tamperCheck
  have after := told.trans (afterEvents_engaged (e := e) (ap := ap) (lk := lk) hu ho (by rwa [told.state]))
  unfold afterPosition
  rw [(hv.heeded after).readVerifying]
  exact after

theorem sensedAs_congr {y : Door} (hl : y.drop.lost = x.drop.lost) (hf : y.drop.firstReply = x.drop.firstReply) (hi : y.inputs = x.inputs)
    (ha : y.eng.pulseAcked = x.eng.pulseAcked) (v : Option Posture) (p : ProfileEntry) : y.sensedAs v p = x.sensedAs v p := by
  have hreported : y.reported p = x.reported p := by unfold Door.reported; rw [hi]
  have hsound : y.currentSound p = x.currentSound p := by unfold Door.currentSound; rw [hi]
  have hclosed : y.closed p = x.closed p := by unfold Door.closed; rw [hi]
  have hengaged : y.boltEngaged p = x.boltEngaged p := by unfold Door.boltEngaged; rw [hi]
  have hwithdrawn : y.boltWithdrawn p = x.boltWithdrawn p := by unfold Door.boltWithdrawn; rw [hi]
  unfold Door.sensedAs
  rw [hl, hf, ha, hreported, hsound, hclosed, hengaged, hwithdrawn]

theorem changedInput_eq_some {a b : Option Bool} {v : Bool} : changedInput a b = some v ↔ a = some (!v) ∧ b = some v := by
  unfold changedInput
  cases a with
  | none => simp
  | some u =>
    cases b with
    | none => simp
    | some w => cases u <;> cases w <;> cases v <;> simp

/-! ## The events -/

theorem Made.exitShunt {A : Prop} {b : Segment} (h : Made A d x b g) (hs : x.eng.state = .secured)
    (hk : (e.profile d).lockKind = .magnetic) : Made A d { x.driven (e.profile d) false with
      eng := { (x.driven (e.profile d) false).eng.enter .exitShunt with timer := .start (e.profile d).exitShuntTime } } b
      (exitRequested e d g) := by
  have hstate : (g.door d).eng.state = .secured := by rw [h.eng, hs]
  unfold exitRequested
  dsimp only
  rw [hstate]
  dsimp only
  rw [if_pos hk]
  exact (h.turnDriveOff.enterState .exitShunt).startTimer _

theorem Made.exitWindow {A : Prop} {b : Segment} (h : Made A d x b g) (hs : x.eng.state = .secured)
    (hk : (e.profile d).lockKind ≠ .magnetic) : Made A d { x with
      eng := { x.eng with exitWindow := true, timer := .start (e.profile d).exitShuntTime } } b (exitRequested e d g) := by
  have hstate : (g.door d).eng.state = .secured := by rw [h.eng, hs]
  unfold exitRequested
  dsimp only
  rw [hstate]
  dsimp only
  rw [if_neg hk]
  exact h.updEng fun y => { y with exitWindow := true, timer := .start (e.profile d).exitShuntTime }

theorem Made.shuntAgain {A : Prop} {b : Segment} (h : Made A d x b g) (hs : x.eng.state = .exitShunt) : Made A d { x with
    eng := { x.eng with timer := .start (e.profile d).exitShuntTime } } b (exitRequested e d g) := by
  have hstate : (g.door d).eng.state = .exitShunt := by rw [h.eng, hs]
  unfold exitRequested
  dsimp only
  rw [hstate]
  exact h.startTimer _

/-! ## The exception of a forced opening (R127, R173) -/

theorem handException_length (active : ExceptionEntry → Bool) (door : Option DoorNo) (k : Kind) (sub : Option SubReason) (m : Nat)
    (xs : List ExceptionEntry) (h : xs.length < 32) : (handException active door k sub m xs).length ≤ xs.length + 1 := by
  by_cases hl : ∃ x ∈ xs, x.door = door ∧ x.kind = k
  · rw [handException_recurs hl, List.length_map]
    omega
  · rw [handException_new hl, if_pos h, List.length_append]
    rfl

/-- An exception handed to a list with room is listed, stamped with the minute. -/
theorem handException_mem (active : ExceptionEntry → Bool) (door : Option DoorNo) (k : Kind) (sub : Option SubReason) (m : Nat)
    (xs : List ExceptionEntry) (h : xs.length < 32) :
    ∃ z ∈ handException active door k sub m xs, z.door = door ∧ z.kind = k ∧ z.lastMinute = m := by
  by_cases hl : ∃ x ∈ xs, x.door = door ∧ x.kind = k
  · rw [handException_recurs hl]
    obtain ⟨x, hx, hd, hk⟩ := hl
    exact ⟨x.recur m sub, List.mem_map.mpr ⟨x, hx, if_pos ⟨hd, hk⟩⟩, hd, hk, rfl⟩
  · rw [handException_new hl, if_pos h]
    exact ⟨_, List.mem_append_right _ (List.mem_singleton_self _), rfl, rfl, rfl⟩

/-- And an entry of another kind stays in such a list. -/
theorem handException_keeps {active : ExceptionEntry → Bool} {door : Option DoorNo} {k : Kind} {sub : Option SubReason} {m : Nat}
    {xs : List ExceptionEntry} {z : ExceptionEntry} (hz : z ∈ xs) (hk : z.kind ≠ k) (h : xs.length < 32) :
    z ∈ handException active door k sub m xs := by
  by_cases hl : ∃ x ∈ xs, x.door = door ∧ x.kind = k
  · rw [handException_recurs hl]
    exact List.mem_map.mpr ⟨z, hz, if_neg fun hx => hk hx.2⟩
  · rw [handException_new hl, if_pos h]
    exact List.mem_append_left _ hz

/-- A kind raised is listed, where the list has room. -/
theorem raiseKind_lists {k : Kind} {sub : Option SubReason} (h : g.exceptions.length < 32) :
    (raiseKind e d k sub g).exceptions.length ≤ g.exceptions.length + 1
    ∧ ∃ z ∈ (raiseKind e d k sub g).exceptions, z.door = some d ∧ z.kind = k ∧ z.lastMinute = e.minute := by
  unfold raiseKind
  rw [listException_exceptions, upd_exceptions]
  exact ⟨handException_length _ _ _ _ _ _ h, handException_mem _ _ _ _ _ _ h⟩

theorem tamperCheck_exceptions : (tamperCheck e d g).exceptions = g.exceptions := by
  unfold tamperCheck
  dsimp only
  split <;> [exact upd_exceptions ..; rfl]

theorem takePulse_exceptions : (takePulse e d r g).exceptions = g.exceptions := by
  rw [takePulse_eq]
  split
  · exact (upd_exceptions ..).trans (upd_exceptions ..)
  · exact upd_exceptions ..

theorem supervise_sound_exceptions (hu : (e.profile d).underLimit ≤ r.current) (ho : r.current ≤ (e.profile d).overLimit) :
    (supervise e d ap lk r.current g).exceptions = g.exceptions :=
  supervise_sound_keeps (P := fun h => h.exceptions = g.exceptions) (fun h => (upd_exceptions ..).trans h)
    (fun h => (upd_exceptions ..).trans h) (fun h => h) hu ho rfl

theorem positionSeen_exceptions {b : Bool} (hs : (g.door d).eng.state ≠ .quietWait) :
    (positionSeen e d b g).exceptions = g.exceptions := by
  have seen : Heeded Door.engaged d g (if b then monitorOpen e d g else monitorClose e d g) := by
    split <;> [exact monitorOpen_engaged; exact monitorClose_engaged]
  unfold positionSeen
  rw [evaluateWatch_put (by rwa [seen.state])]
  cases b with
  | true =>
    rw [if_pos rfl, monitorOpen_eq]
    rfl
  | false =>
    rw [if_neg Bool.false_ne_true, monitorClose_eq]
    rfl

theorem tamperBegins_length {sub : SubReason} (h : g.exceptions.length < 32) :
    (tamperBegins e d sub g).exceptions.length ≤ g.exceptions.length + 1 := by
  unfold tamperBegins
  split
  · omega
  · exact (raiseKind_lists h).1

/-- Up to its POSITION event a reply lists one exception at most. -/
theorem conditioned_length (h : g.exceptions.length < 32) : (conditioned e d r g).exceptions.length ≤ g.exceptions.length + 1 := by
  have taken (k : Segment) (hk : k.exceptions = g.exceptions) : (takeCondition e d r k).exceptions.length ≤ g.exceptions.length + 1 := by
    have upd (f : Door → Door) : (k.upd e d f).exceptions = g.exceptions := (upd_exceptions ..).trans hk
    unfold takeCondition
    dsimp only
    split
    · rw [upd]
      omega
    · split
      · rw [← upd] at h ⊢
        exact tamperBegins_length h
      · rw [tamperCheck_exceptions, upd]
        omega
  exact taken _ rfl

/-- An exception of another kind than TAMPER stays listed after the POSITION event of a reply of sound current, where the list has room. -/
theorem afterPosition_exceptions {z : ExceptionEntry} (hz : z ∈ g.exceptions) (hk : z.kind ≠ .tamper) (hl : g.exceptions.length < 32)
    (hx : changedInput was.exitRequest now.exitRequest ≠ some true)
    (hs : (g.door d).eng.state ∉ [DoorState.quietWait, .driving, .lost, .verifying])
    (hu : (e.profile d).underLimit ≤ r.current) (ho : r.current ≤ (e.profile d).overLimit) :
    z ∈ (afterPosition e d ap lk r was now g).exceptions := by
  simp only [List.mem_cons, List.not_mem_nil, or_false, not_or] at hs
  obtain ⟨hwait, hdriving, hlost, hverifying⟩ := hs
  have told : Heeded Door.engaged d g (eventsTold e d was now g) := eventsTold_engaged fun h => absurd h hx
  have supervised := told.trans (supervise_engaged (e := e) (ap := ap) (lk := lk) hu ho)
  have pulsed := supervised.trans (attends_engaged.takePulse (e := e) (r := r) (by rwa [supervised.state])
    (by rw [supervised.state]; exact fun h => hlost h.1))
  have turned := pulsed.trans (reenable_engaged (e := e) (by rwa [pulsed.state]))
  have htold : z ∈ (eventsTold e d was now g).exceptions := by
    rw [eventsTold_eq, tamperCheck_exceptions, exitsTold_none hx]
    split
    · unfold tamperBegins
      split
      · exact hz
      · unfold raiseKind
        rw [listException_exceptions, upd_exceptions]
        exact handException_keeps hz hk hl
    · exact hz
  unfold afterPosition
  rw [Unshown.readVerifying (.of_state (by rwa [turned.state])), reenable_put (by rwa [pulsed.state])]
  show z ∈ (takePulse e d r (supervise e d ap lk r.current (eventsTold e d was now g))).exceptions
  rw [takePulse_exceptions, supervise_sound_exceptions hu ho]
  exact htold

end

end Sys2Proof.Machine
end

section
/-! EXIT_SHUNT_EXPIRY, EXIT_WINDOW_EXPIRY, and the terminal events of a good reply at a SECURED or shunted door (R126, R127). -/

namespace Sys2Proof.Machine

section
variable {e : Env} {d : DoorNo} {g : Segment} {r : Reply} {ap lk : Bool}

/-! ## Up to the EXIT_REQUEST event -/

theorem conditioned_kept {α : Type} (read : Engine → α) (hread : Flagless read) :
    read ((conditioned e d r g).door d).eng = read (g.door d).eng :=
  (conditioned_engaged.engine read hread).trans (by rw [replied_door]; rfl)

theorem conditioned_inputs : ((conditioned e d r g).door d).inputs = namedInputs (e.profile d) r :=
  conditioned_engaged.inputs.trans (by rw [replied_door]; rfl)

theorem changedInput_none {a b : Option Bool} (ho : ¬ (a = some false ∧ b = some true)) (hc : ¬ (a = some true ∧ b = some false)) :
    changedInput a b = none := by
  cases h : changedInput a b with
  | none => rfl
  | some v =>
    rw [changedInput_eq_some] at h
    cases v with
    | true => exact absurd h ho
    | false => exact absurd h hc

/-- A reply after its EXIT_REQUEST event t, at a door that t leaves at rest. -/
theorem heard_told {t : Segment} (ht : exitsTold e d (g.door d).inputs (namedInputs (e.profile d) r) (replyPositioned e d r g) = t)
    (hs : (t.door d).eng.state ∉ [DoorState.quietWait, .driving, .lost]) (hv : Unshown e d t)
    (hu : (e.profile d).underLimit ≤ r.current) (ho : r.current ≤ (e.profile d).overLimit) :
    Heeded Door.engaged d t (heard e d ap lk r g) := by
  subst ht
  rw [heard_positioned]
  exact afterPosition_told hs hv hu ho

/-! ## An exit request (R126, R127) -/

theorem heard_exit_shunts (hq : Unqueued d g) (hs : (g.door d).eng.state = .secured) (hk : (e.profile d).lockKind = .magnetic)
    (hx : changedInput (g.door d).inputs.exitRequest (namedInputs (e.profile d) r).exitRequest = some true)
    (hp : changedInput (g.door d).inputs.position (namedInputs (e.profile d) r).position = none)
    (hu : (e.profile d).underLimit ≤ r.current) (ho : r.current ≤ (e.profile d).overLimit) :
    let x := g.door d
    let y := (heard e d ap lk r g).door d
    y.eng.state = .exitShunt ∧ y.eng.timer = ⟨(e.profile d).exitShuntTime, 0, true⟩ ∧ y.eng.drive = false ∧ y.eng.target = x.eng.target
    ∧ y.charge = (if x.eng.drive then ⟨0, .none, 0, 0⟩ else x.charge) := by
  intro x y
  have made := (Made.refl (A := False) (d := d) (g := conditioned e d r g) (by rw [Unqueued, conditioned_engaged.queue]; exact hq)
    False.elim).exitShunt (e := e) ((conditioned_kept Engine.state fun _ _ _ => rfl).trans hs) hk
  have htold : exitsTold e d (g.door d).inputs (namedInputs (e.profile d) r) (replyPositioned e d r g)
      = exitRequested e d (conditioned e d r g) :=
    (exitsTold_some hx).trans (congrArg (exitRequested e d) (positionTold_unchanged hp))
  have heng := made.eng
  rw [Door.driven_eq] at heng
  have hstate : ((exitRequested e d (conditioned e d r g)).door d).eng.state = .exitShunt := by
    rw [heng]
    rfl
  have after := heard_told (ap := ap) (lk := lk) htold (by rw [hstate]; decide) (.of_state (by rw [hstate]; decide)) hu ho
  have hdrive : ((conditioned e d r g).door d).eng.drive = x.eng.drive := conditioned_kept Engine.drive fun _ _ _ => rfl
  have hcharge : ((conditioned e d r g).door d).charge = x.charge :=
    (conditioned_engaged.read Door.charge fun _ => rfl).trans (by rw [replied_door]; rfl)
  refine ⟨after.state.trans hstate, (after.engine Engine.timer fun _ _ _ => rfl).trans (by rw [heng]; rfl),
    (after.engine Engine.drive fun _ _ _ => rfl).trans (by rw [heng]; rfl),
    (after.engine Engine.target fun _ _ _ => rfl).trans (by rw [heng]; exact conditioned_kept Engine.target fun _ _ _ => rfl), ?_⟩
  rw [after.read Door.charge fun _ => rfl, made.charge]
  show (((conditioned e d r g).door d).driven (e.profile d) false).charge = _
  rw [Door.driven_charge, hdrive, hcharge, afterDriveOff_eq, if_pos (show (e.profile d).lockKind ≠ .motor by rw [hk]; decide)]

theorem heard_exit_opens (hq : Unqueued d g) (hs : (g.door d).eng.state = .secured) (hk : (e.profile d).lockKind ≠ .magnetic)
    (hx : changedInput (g.door d).inputs.exitRequest (namedInputs (e.profile d) r).exitRequest = some true)
    (hp : changedInput (g.door d).inputs.position (namedInputs (e.profile d) r).position = none)
    (hu : (e.profile d).underLimit ≤ r.current) (ho : r.current ≤ (e.profile d).overLimit) :
    let x := g.door d
    let y := (heard e d ap lk r g).door d
    y.eng.state = .secured ∧ y.eng.exitWindow = true ∧ y.eng.timer = ⟨(e.profile d).exitShuntTime, 0, true⟩
    ∧ y.eng.openingMark = x.eng.openingMark ∧ y.eng.drive = x.eng.drive := by
  intro x y
  have hsecured := (conditioned_kept (e := e) (r := r) Engine.state fun _ _ _ => rfl).trans hs
  have made := (Made.refl (A := False) (d := d) (g := conditioned e d r g) (by rw [Unqueued, conditioned_engaged.queue]; exact hq)
    False.elim).exitWindow (e := e) hsecured hk
  have htold : exitsTold e d (g.door d).inputs (namedInputs (e.profile d) r) (replyPositioned e d r g)
      = exitRequested e d (conditioned e d r g) :=
    (exitsTold_some hx).trans (congrArg (exitRequested e d) (positionTold_unchanged hp))
  have heng := made.eng
  have hstate : ((exitRequested e d (conditioned e d r g)).door d).eng.state = .secured := by
    rw [heng]
    exact hsecured
  have after := heard_told (ap := ap) (lk := lk) htold (by rw [hstate]; decide) (.of_state (by rw [hstate]; decide)) hu ho
  exact ⟨after.state.trans hstate, (after.engine Engine.exitWindow fun _ _ _ => rfl).trans (by rw [heng]),
    (after.engine Engine.timer fun _ _ _ => rfl).trans (by rw [heng]; rfl),
    (after.engine Engine.openingMark fun _ _ _ => rfl).trans (by rw [heng]; exact conditioned_kept Engine.openingMark fun _ _ _ => rfl),
    (after.engine Engine.drive fun _ _ _ => rfl).trans (by rw [heng]; exact conditioned_kept Engine.drive fun _ _ _ => rfl)⟩

/-- A shunted door stays so; an exit request starts its timer again (R126). -/
theorem heard_shunted (hq : Unqueued d g) (hs : (g.door d).eng.state = .exitShunt)
    (hu : (e.profile d).underLimit ≤ r.current) (ho : r.current ≤ (e.profile d).overLimit) :
    let x := g.door d
    let y := (heard e d ap lk r g).door d
    y.eng.state = .exitShunt
    ∧ y.eng.timer = (if x.inputs.exitRequest = some false ∧ (namedInputs (e.profile d) r).exitRequest = some true
        then ⟨(e.profile d).exitShuntTime, 0, true⟩ else x.eng.timer)
    ∧ y.eng.sticky.forcedOpen = x.eng.sticky.forcedOpen := by
  intro x y
  have hcond := (conditioned_kept (e := e) (r := r) Engine.state fun _ _ _ => rfl).trans hs
  have positioned : Heeded Door.engaged d (g.putDoor d ((g.door d).replied (e.profile d) r)) (replyPositioned e d r g) :=
    conditioned_engaged.trans (positionTold_engaged (by rw [hcond]; decide))
  have kept {α : Type} (read : Engine → α) (hread : Flagless read) : read ((replyPositioned e d r g).door d).eng = read x.eng :=
    (positioned.engine read hread).trans (by rw [replied_door]; rfl)
  have hshunt := (kept Engine.state fun _ _ _ => rfl).trans hs
  have hforced : ((replyPositioned e d r g).door d).eng.sticky.forcedOpen = x.eng.sticky.forcedOpen :=
    (positioned.read (fun z => z.eng.sticky.forcedOpen) fun _ => rfl).trans (by rw [replied_door]; rfl)
  have made := Made.refl (A := False) (d := d) (g := replyPositioned e d r g) (by rw [Unqueued, positioned.queue]; exact hq) False.elim
  by_cases hx : x.inputs.exitRequest = some false ∧ (namedInputs (e.profile d) r).exitRequest = some true
  · have again := made.shuntAgain (e := e) hshunt
    have htold : exitsTold e d x.inputs (namedInputs (e.profile d) r) (replyPositioned e d r g)
        = exitRequested e d (replyPositioned e d r g) := exitsTold_some (changedInput_eq_some.mpr hx)
    have hstate : ((exitRequested e d (replyPositioned e d r g)).door d).eng.state = .exitShunt := by
      rw [again.eng]
      exact hshunt
    have after := heard_told (ap := ap) (lk := lk) htold (by rw [hstate]; decide) (.of_state (by rw [hstate]; decide)) hu ho
    rw [if_pos hx]
    exact ⟨after.state.trans hstate, (after.engine Engine.timer fun _ _ _ => rfl).trans (by rw [again.eng]; rfl),
      (after.read (fun z => z.eng.sticky.forcedOpen) fun _ => rfl).trans (by rw [again.eng]; exact hforced)⟩
  · have htold : exitsTold e d x.inputs (namedInputs (e.profile d) r) (replyPositioned e d r g) = replyPositioned e d r g :=
      exitsTold_none fun h => hx (changedInput_eq_some.mp h)
    have after := heard_told (ap := ap) (lk := lk) htold (by rw [hshunt]; decide) (.of_state (by rw [hshunt]; decide)) hu ho
    rw [if_neg hx]
    exact ⟨after.state.trans hshunt, (after.engine Engine.timer fun _ _ _ => rfl).trans (kept Engine.timer fun _ _ _ => rfl),
      (after.read (fun z => z.eng.sticky.forcedOpen) fun _ => rfl).trans hforced⟩

/-! ## An opening (R127) -/

theorem positionOpen_forced (hs : (g.door d).eng.state = .secured) (hf : (g.door d).forcesOpen (e.profile d) = true) :
    positionOpen e d g = raiseKind e d .forcedOpen none (updEng e d (fun x => { x with openingMark := .forced }) g) := by
  unfold positionOpen
  dsimp only
  rw [hs]
  exact if_pos hf

theorem positionOpen_inWindow (hs : (g.door d).eng.state = .secured) (hf : (g.door d).forcesOpen (e.profile d) = false) :
    positionOpen e d g = updEng e d (fun x => { x with openingMark := .inWindow }) g := by
  unfold positionOpen
  dsimp only
  rw [hs]
  exact if_neg (by simp [hf])

/-- A SECURED door that opens: what is left as it was, and its mark. -/
theorem heard_opens (hs : (g.door d).eng.state = .secured) (hwas : (g.door d).inputs.position = some false)
    (hnow : (e.profile d).readAs .position r.inputs = some true)
    (hx : changedInput (g.door d).inputs.exitRequest (namedInputs (e.profile d) r).exitRequest ≠ some true)
    (hu : (e.profile d).underLimit ≤ r.current) (ho : r.current ≤ (e.profile d).overLimit) :
    let x := g.door d
    let t := heard e d ap lk r g
    let y := t.door d
    y.eng.state = .secured ∧ y.eng.target = x.eng.target ∧ y.eng.drive = x.eng.drive
    ∧ (x.eng.exitWindow = true → (e.profile d).lockKind ≠ .magnetic →
        y.eng.openingMark = .inWindow ∧ y.eng.sticky.forcedOpen = x.eng.sticky.forcedOpen)
    ∧ (x.eng.exitWindow = false ∨ (e.profile d).lockKind = .magnetic →
        y.eng.openingMark = .forced ∧ y.eng.sticky.forcedOpen = true
        ∧ (g.exceptions.length ≤ 29 → ∃ z ∈ t.exceptions, z.door = some d ∧ z.kind = .forcedOpen ∧ z.lastMinute = e.minute)) := by
  intro x t y
  have hwait : x.eng.state ≠ .quietWait := by rw [hs]; decide
  have seen : Heeded Door.engaged d (g.putDoor d (x.replied (e.profile d) r)) (positionSeen e d true (conditioned e d r g)) :=
    opening_engaged hwait
  have kept {α : Type} (read : Engine → α) (hread : Flagless read) :
      read ((positionSeen e d true (conditioned e d r g)).door d).eng = read x.eng :=
    (seen.engine read hread).trans (by rw [replied_door]; rfl)
  have hleft : ((positionSeen e d true (conditioned e d r g)).door d).eng.sticky.forcedOpen = x.eng.sticky.forcedOpen :=
    (seen.read (fun z => z.eng.sticky.forcedOpen) fun _ => rfl).trans (by rw [replied_door]; rfl)
  have hlist (h : g.exceptions.length ≤ 29) : (positionSeen e d true (conditioned e d r g)).exceptions.length ≤ 30 := by
    rw [positionSeen_exceptions (by rwa [conditioned_kept Engine.state fun _ _ _ => rfl])]
    have hcond := conditioned_length (e := e) (d := d) (r := r) (g := g) (by omega)
    omega
  have htold : exitsTold e d x.inputs (namedInputs (e.profile d) r) (replyPositioned e d r g)
      = positionOpen e d (positionSeen e d true (conditioned e d r g)) :=
    (exitsTold_none hx).trans (replyPositioned_opens hwas hnow)
  have ht : t = afterPosition e d ap lk r x.inputs (namedInputs (e.profile d) r)
      (positionOpen e d (positionSeen e d true (conditioned e d r g))) := by
    rw [← replyPositioned_opens hwas hnow]
    exact heard_positioned
  generalize positionSeen e d true (conditioned e d r g) = m at kept hleft hlist htold ht
  have hsecured := (kept Engine.state fun _ _ _ => rfl).trans hs
  have hforces : (m.door d).forcesOpen (e.profile d) = (!x.eng.exitWindow || (e.profile d).lockKind == .magnetic) := by
    unfold Door.forcesOpen
    rw [kept Engine.exitWindow fun _ _ _ => rfl]
  cases hf : (m.door d).forcesOpen (e.profile d) with
  | true =>
    have hopen := positionOpen_forced hsecured hf
    have heng : ((positionOpen e d m).door d).eng = { (m.door d).eng with
        openingMark := .forced, live := (m.door d).eng.live.put .forcedOpen true, sticky := (m.door d).eng.sticky.set .forcedOpen none } := by
      rw [hopen, raiseKind, listException_door, upd_door_eng, updEng, upd_door_eng]
    have hstate : ((positionOpen e d m).door d).eng.state = .secured := by rw [heng]; exact hsecured
    have after := heard_told (ap := ap) (lk := lk) htold (by rw [hstate]; decide) (.of_state (by rw [hstate]; decide)) hu ho
    refine ⟨after.state.trans hstate, (after.engine Engine.target fun _ _ _ => rfl).trans (by rw [heng]; exact kept Engine.target fun _ _ _ => rfl),
      (after.engine Engine.drive fun _ _ _ => rfl).trans (by rw [heng]; exact kept Engine.drive fun _ _ _ => rfl), fun hw hk => ?_,
      fun _ => ⟨(after.engine Engine.openingMark fun _ _ _ => rfl).trans (by rw [heng]),
        (after.read (fun z => z.eng.sticky.forcedOpen) fun _ => rfl).trans (by rw [heng]; rfl), fun hl => ?_⟩⟩
    · rw [hforces, hw] at hf
      simp [hk] at hf
    · have hroom := hlist hl
      have hmarked : (updEng e d (fun x => { x with openingMark := .forced }) m).exceptions.length = m.exceptions.length :=
        congrArg List.length (upd_exceptions ..)
      obtain ⟨hlength, z, hz, hdoor, hkind, hminute⟩ := raiseKind_lists (e := e) (d := d) (k := .forcedOpen) (sub := none)
        (g := updEng e d (fun x => { x with openingMark := .forced }) m) (by rw [hmarked]; omega)
      rw [← hopen] at hlength hz
      rw [hmarked] at hlength
      rw [ht]
      exact ⟨z, afterPosition_exceptions hz (by rw [hkind]; decide) (by omega) hx (by rw [hstate]; decide) hu ho, hdoor, hkind, hminute⟩
  | false =>
    have heng : ((positionOpen e d m).door d).eng = { (m.door d).eng with openingMark := .inWindow } := by
      rw [positionOpen_inWindow hsecured hf, updEng, upd_door_eng]
    have hstate : ((positionOpen e d m).door d).eng.state = .secured := by rw [heng]; exact hsecured
    have after := heard_told (ap := ap) (lk := lk) htold (by rw [hstate]; decide) (.of_state (by rw [hstate]; decide)) hu ho
    refine ⟨after.state.trans hstate, (after.engine Engine.target fun _ _ _ => rfl).trans (by rw [heng]; exact kept Engine.target fun _ _ _ => rfl),
      (after.engine Engine.drive fun _ _ _ => rfl).trans (by rw [heng]; exact kept Engine.drive fun _ _ _ => rfl),
      fun _ _ => ⟨(after.engine Engine.openingMark fun _ _ _ => rfl).trans (by rw [heng]),
        (after.read (fun z => z.eng.sticky.forcedOpen) fun _ => rfl).trans (by rw [heng]; exact hleft)⟩, fun h => ?_⟩
    rw [hforces] at hf
    rcases h with hw | hk
    · simp [hw] at hf
    · simp [hk] at hf

/-! ## A closing (R127) -/

/-- A SECURED door verified again where it closes. -/
def Door.verifiedAgain (p : ProfileEntry) (x : Door) : Door := { x with
  eng := { x.eng with retry := 0, pulseAcked := x.eng.pulseAcked || p.lockKind == .motor } }

theorem positionClosed_verifies (hs : (g.door d).eng.state = .secured) (hm : (g.door d).eng.openingMark ≠ .none)
    (hz : (g.door d).eng.pendingTarget = none) : positionClosed e d g = enterVerifying e d (updEng e d (fun x =>
      { x with retry := 0, pulseAcked := x.pulseAcked || (e.profile d).lockKind == .motor }) g) := by
  have haims := (Aims.of_eng (x := ((g.door d).verifiedAgain (e.profile d)).eng) (upd_door_eng g e d (Door.verifiedAgain (e.profile d)))
    rfl rfl rfl).enterVerifying (e := e)
  unfold positionClosed
  dsimp only
  rw [if_pos ⟨hs, hm⟩]
  exact takePending_none (haims.pending.trans hz)

/-- Leaving SECURED closes the exit window and ends the mark of an opening. -/
theorem enter_from_secured {x : Engine} {st : DoorState} (hs : x.state = .secured) (hst : st ≠ .secured) :
    (x.enter st).openingMark = .none ∧ (x.enter st).exitWindow = false := by
  rw [Engine.enter_eq]
  exact ⟨if_pos ⟨hs, hst⟩, if_pos ⟨hs, hst⟩⟩

theorem enter_keeps_marks {x : Engine} {st : DoorState} (hs : x.state ≠ .secured) :
    (x.enter st).openingMark = x.openingMark ∧ (x.enter st).exitWindow = x.exitWindow := by
  rw [Engine.enter_eq]
  exact ⟨if_neg fun h => hs h.1, if_neg fun h => hs h.1⟩

/-- A SECURED door that had opened is verified again where it closes. -/
theorem heard_closes (hq : Unqueued d g) (hs : (g.door d).eng.state = .secured) (hm : (g.door d).eng.openingMark ≠ .none)
    (ht : (g.door d).eng.target = some .secured) (hz : (g.door d).eng.pendingTarget = none)
    (hwas : (g.door d).inputs.position = some true) (hnow : (e.profile d).readAs .position r.inputs = some false)
    (hx : changedInput (g.door d).inputs.exitRequest (namedInputs (e.profile d) r).exitRequest ≠ some true)
    (hu : (e.profile d).underLimit ≤ r.current) (ho : r.current ≤ (e.profile d).overLimit) :
    let p := e.profile d
    let x := g.door d
    let y := (heard e d ap lk r g).door d
    let z := { x with
      inputs := y.inputs, eng := { x.eng with pulseAcked := x.eng.pulseAcked || p.lockKind == LockKind.motor } }
    y.eng.retry = 0 ∧ y.eng.openingMark = .none ∧ y.eng.exitWindow = false
    ∧ (z.sensedAs (some .secured) p = some .secured → y.eng.state = .secured ∧ y.eng.owed = none)
    ∧ (z.sensedAs (some .secured) p ≠ some .secured → y.eng.state = .verifying
        ∧ y.eng.timer = ⟨p.verifyTime, 0, true⟩ ∧ y.eng.drive = x.eng.drive) := by
  intro p x y z
  have begun := conditioned_engaged (e := e) (d := d) (g := g) (r := r)
  have seen : Heeded Door.engaged d (g.putDoor d (x.replied p r)) (positionSeen e d false (conditioned e d r g)) :=
    begun.trans (positionSeen_engaged false (by rw [begun.state, replied_door]; show x.eng.state ≠ _; rw [hs]; decide))
  have kept {α : Type} (read : Engine → α) (hread : Flagless read) :
      read ((positionSeen e d false (conditioned e d r g)).door d).eng = read x.eng :=
    (seen.engine read hread).trans (by rw [replied_door]; rfl)
  have hdrop : ((positionSeen e d false (conditioned e d r g)).door d).drop.lost = x.drop.lost
      ∧ ((positionSeen e d false (conditioned e d r g)).door d).drop.firstReply = x.drop.firstReply :=
    ⟨(seen.read (fun z => z.drop.lost) fun _ => rfl).trans (by rw [replied_door]; rfl),
      (seen.read (fun z => z.drop.firstReply) fun _ => rfl).trans (by rw [replied_door]; rfl)⟩
  have hunqueued : Unqueued d (positionSeen e d false (conditioned e d r g)) := by
    rw [Unqueued, seen.queue]
    exact hq
  have htold : exitsTold e d x.inputs (namedInputs p r) (replyPositioned e d r g)
      = positionClosed e d (positionSeen e d false (conditioned e d r g)) := by
    rw [exitsTold_none hx]
    unfold replyPositioned
    rw [positionTold_changed (changedInput_some hwas hnow), positionEvent_eq, if_neg Bool.false_ne_true]
  generalize positionSeen e d false (conditioned e d r g) = m at kept hdrop hunqueued htold
  have hsecured := (kept Engine.state fun _ _ _ => rfl).trans hs
  rw [positionClosed_verifies hsecured (by rwa [kept Engine.openingMark fun _ _ _ => rfl])
    ((kept Engine.pendingTarget fun _ _ _ => rfl).trans hz)] at htold
  have again : Made False d ((m.door d).verifiedAgain p) m _ := (Made.refl hunqueued False.elim).updEng (e := e) fun x =>
    { x with retry := 0, pulseAcked := x.pulseAcked || p.lockKind == .motor }
  have htarget : ((m.door d).verifiedAgain p).eng.target = some .secured := (kept Engine.target fun _ _ _ => rfl).trans ht
  have hsensed (hin : y.inputs = (m.door d).inputs) :
      z.sensedAs (some .secured) p = ((m.door d).verifiedAgain p).sensedAs (some .secured) p := by
    refine sensedAs_congr (y := z) (x := (m.door d).verifiedAgain p) hdrop.1.symm hdrop.2.symm hin ?_ _ _
    show (x.eng.pulseAcked || p.lockKind == .motor) = ((m.door d).eng.pulseAcked || p.lockKind == .motor)
    rw [kept Engine.pulseAcked fun _ _ _ => rfl]
  obtain ⟨hmark, hwindow⟩ := enter_from_secured (x := ((m.door d).verifiedAgain p).eng) (st := .verifying) hsecured (by decide)
  by_cases hshows : ((m.door d).verifiedAgain p).sensedAs (some .secured) p = some .secured
  · have done := again.enterVerifying_reached htarget hshows
    have heng := done.eng
    rw [Door.reached_eq] at heng
    have hstate : ((enterVerifying e d (updEng e d (fun x =>
        { x with retry := 0, pulseAcked := x.pulseAcked || (e.profile d).lockKind == .motor }) m)).door d).eng.state = .secured := by
      rw [heng]
      rfl
    obtain ⟨hkeeps, hkept⟩ := enter_keeps_marks (x := ((m.door d).verifiedAgain p).eng.enter .verifying) (st := .secured)
      fun h => DoorState.noConfusion h
    have after := heard_told (ap := ap) (lk := lk) htold (by rw [hstate]; decide) (.of_state (by rw [hstate]; decide)) hu ho
    have hin : y.inputs = (m.door d).inputs := after.inputs.trans (done.inputs.trans (Door.reached_side p .secured _).1)
    rw [hsensed hin]
    refine ⟨(after.engine Engine.retry fun _ _ _ => rfl).trans (by rw [heng]; rfl),
      (after.engine Engine.openingMark fun _ _ _ => rfl).trans (by rw [heng]; exact hkeeps.trans hmark),
      (after.engine Engine.exitWindow fun _ _ _ => rfl).trans (by rw [heng]; exact hkept.trans hwindow),
      fun _ => ⟨after.state.trans hstate, (after.engine Engine.owed fun _ _ _ => rfl).trans (by rw [heng])⟩, fun h => absurd hshows h⟩
  · have waits := again.enterVerifying_waits (e := e) fun q hq => by
      obtain rfl := Option.some.inj (htarget.symm.trans hq)
      exact hshows
    have heng := waits.eng
    have hstate : ((enterVerifying e d (updEng e d (fun x =>
        { x with retry := 0, pulseAcked := x.pulseAcked || (e.profile d).lockKind == .motor }) m)).door d).eng.state = .verifying := by
      rw [heng]
      rfl
    have after := heard_told (ap := ap) (lk := lk) htold (by rw [hstate]; decide) unshown_enterVerifying hu ho
    have hin : y.inputs = (m.door d).inputs := after.inputs.trans waits.inputs
    rw [hsensed hin]
    exact ⟨(after.engine Engine.retry fun _ _ _ => rfl).trans (by rw [heng]; rfl),
      (after.engine Engine.openingMark fun _ _ _ => rfl).trans (by rw [heng]; exact hmark),
      (after.engine Engine.exitWindow fun _ _ _ => rfl).trans (by rw [heng]; exact hwindow), fun h => absurd h hshows,
      fun _ => ⟨after.state.trans hstate, (after.engine Engine.timer fun _ _ _ => rfl).trans (by rw [heng]; rfl),
        (after.engine Engine.drive fun _ _ _ => rfl).trans (by rw [heng]; exact kept Engine.drive fun _ _ _ => rfl)⟩⟩

end

/-- The terminal events of a good reply at a SECURED or shunted door. -/
theorem exit_heard (b : BranchNo) (k : DropNo) (r : BranchRecord) (rest : List Reception) (s : State) (ha : HeardAgain b k r s) :
    let d := doorAt b k
    let x := s.seg.door d
    let p := s.env.profile d
    let now := replyOf r
    let opens : Prop := x.inputs.position = some false ∧ p.readAs .position now.inputs = some true
    let closes : Prop := x.inputs.position = some true ∧ p.readAs .position now.inputs = some false
    let exits : Prop := x.inputs.exitRequest = some false ∧ p.readAs .exitRequest now.inputs = some true
    let shunt : Timer := ⟨p.exitShuntTime, 0, true⟩
    SoundCurrent p r →
    ∃ g, exec (.replyWindowEnd b (.record r :: rest)) s = .next (settled { s with seg := g })
      ∧ (exits → ¬ opens → ¬ closes → x.eng.state = .secured →
        (p.lockKind = .magnetic → (g.door d).eng.state = .exitShunt ∧ (g.door d).eng.timer = shunt
          ∧ (g.door d).eng.drive = false ∧ (g.door d).eng.target = x.eng.target
          ∧ (g.door d).charge = (if x.eng.drive then ⟨0, .none, 0, 0⟩ else x.charge))
        ∧ (p.lockKind ≠ .magnetic → (g.door d).eng.state = .secured ∧ (g.door d).eng.exitWindow = true
          ∧ (g.door d).eng.timer = shunt ∧ (g.door d).eng.openingMark = x.eng.openingMark
          ∧ (g.door d).eng.drive = x.eng.drive))
      ∧ (x.eng.state = .exitShunt → (g.door d).eng.state = .exitShunt
          ∧ (g.door d).eng.timer = (if x.inputs.exitRequest = some false
              ∧ p.readAs .exitRequest now.inputs = some true then shunt else x.eng.timer)
          ∧ (g.door d).eng.sticky.forcedOpen = x.eng.sticky.forcedOpen)
      ∧ (opens → ¬ exits → x.eng.state = .secured →
        (g.door d).eng.state = .secured ∧ (g.door d).eng.target = x.eng.target ∧ (g.door d).eng.drive = x.eng.drive
        ∧ (x.eng.exitWindow = true → p.lockKind ≠ .magnetic → (g.door d).eng.openingMark = .inWindow
            ∧ (g.door d).eng.sticky.forcedOpen = x.eng.sticky.forcedOpen)
        ∧ (x.eng.exitWindow = false ∨ p.lockKind = .magnetic →
            (g.door d).eng.openingMark = .forced ∧ (g.door d).eng.sticky.forcedOpen = true
            ∧ (s.seg.exceptions.length ≤ 29 →
                ∃ z ∈ g.exceptions, z.door = some d ∧ z.kind = .forcedOpen ∧ z.lastMinute = s.env.minute)))
      ∧ (closes → ¬ exits → x.eng.state = .secured → x.eng.openingMark ≠ .none → x.eng.target = some .secured →
        x.eng.pendingTarget = none →
        let z := { x with
          inputs := (g.door d).inputs, eng := { x.eng with pulseAcked := x.eng.pulseAcked || p.lockKind == LockKind.motor } }
        (g.door d).eng.retry = 0 ∧ (g.door d).eng.openingMark = .none ∧ (g.door d).eng.exitWindow = false
        ∧ (z.sensedAs (some .secured) p = some .secured → (g.door d).eng.state = .secured ∧ (g.door d).eng.owed = none)
        ∧ (z.sensedAs (some .secured) p ≠ some .secured → (g.door d).eng.state = .verifying
            ∧ (g.door d).eng.timer = ⟨p.verifyTime, 0, true⟩ ∧ (g.door d).eng.drive = x.eng.drive)) := by
  intro d x p now opens closes exits shunt hc
  have hexits : changedInput x.inputs.exitRequest (namedInputs p now).exitRequest = some true ↔ exits := changedInput_eq_some
  refine ⟨_, ha.leaves (rest := rest), fun hx hno hnc hs => ⟨fun hk => ?_, fun hk => ?_⟩, fun hs => ?_, fun hopen hx hs => ?_,
    fun hclose hx hs hm ht hz => ?_⟩
  · exact heard_exit_shunts ha.unqueued hs hk (hexits.mpr hx) (changedInput_none hno hnc) hc.1 hc.2
  · exact heard_exit_opens ha.unqueued hs hk (hexits.mpr hx) (changedInput_none hno hnc) hc.1 hc.2
  · exact heard_shunted ha.unqueued hs hc.1 hc.2
  · exact heard_opens hs hopen.1 hopen.2 (fun h => hx (hexits.mp h)) hc.1 hc.2
  · exact heard_closes ha.unqueued hs hm ht hz hclose.1 hclose.2 (fun h => hx (hexits.mp h)) hc.1 hc.2

end Sys2Proof.Machine

namespace Sys2Proof

open Machine

/-- Settles O58: the timers from `exit_timers`, the terminal events from `exit_heard`. -/
theorem exitTimers : Obligations.ExitTimers := by
  unfold Obligations.ExitTimers
  exact ⟨exit_timers, exit_heard⟩

end Sys2Proof
end

section
/-! What an engine at work makes of its own door, once for every predicate of the segment that reads no engine (R111 to R127). -/

namespace Sys2Proof.Machine

/-- P stands the changes of door d that leave its drop record, and what the engine's work does besides. -/
structure OwnWork (e : Env) (d : DoorNo) (P : Segment → Prop) : Prop where
  upd : ∀ (f : Door → Door) {g}, (∀ x, (f x).drop = x.drop) → P g → P (g.upd e d f)
  queue : ∀ {qs g}, P g → P { g with queue := qs }
  exceptions : ∀ {xs g}, P g → P { g with exceptions := xs }
  free : ∀ {n g}, P g → P { g with free := n }
  seqr : ∀ {r g}, P g → P { g with seqr := r }
  consider : ∀ {g}, P g → P (consider e g)

namespace OwnWork

variable {e : Env} {d : DoorNo} {P : Segment → Prop} (I : OwnWork e d P) {g : Segment} {o : DoorOutcome} {p : Posture}

include I

theorem answer {owed : Option Nat} (hg : P g) : P (answer e d owed o g) := by
  rw [answer_eq]
  exact I.seqr hg

theorem answerOwed (hg : P g) : P (answerOwed e d o g) := I.answer (I.upd _ (fun _ => rfl) hg)

theorem raiseKind {k : Kind} {sub : Option SubReason} (hg : P g) : P (raiseKind e d k sub g) := I.exceptions (I.upd _ (fun _ => rfl) hg)

theorem enterState {st : DoorState} (hg : P g) : P (enterState e d st g) := I.upd _ (fun _ => rfl) hg

theorem updEng (f : Engine → Engine) (hg : P g) : P (updEng e d f g) := I.upd _ (fun _ => rfl) hg

theorem clearWatch (hg : P g) : P (clearWatch e d g) := I.upd _ (fun _ => rfl) hg

theorem clearLive {ks : List Kind} (hg : P g) : P (clearLive e d ks g) := I.upd _ (fun _ => rfl) hg

theorem startTimer {n : Nat} (hg : P g) : P (startTimer e d n g) := I.upd _ (fun _ => rfl) hg

theorem turnDriveOff (hg : P g) : P (turnDriveOff e d g) := by
  unfold Machine.turnDriveOff
  split
  · rw [forceDriveOff_eq]
    exact I.consider (I.upd _ (fun _ => rfl) hg)
  · exact hg

theorem setDrive {on : Bool} (hg : P g) : P (setDrive e d on g) := by
  unfold Machine.setDrive
  split <;> [exact I.upd _ (fun _ => rfl) hg; exact I.turnDriveOff hg]

theorem leaveHolding (hg : P g) : P (leaveHolding e d g) := by
  unfold Machine.leaveHolding
  dsimp only
  split
  · exact hg
  · split
    · exact I.setDrive hg
    · split
      · exact I.setDrive hg
      · exact I.setDrive (I.free hg)

theorem settleAt (hg : P g) : P (settleAt e d p o g) := I.answerOwed (I.clearLive (I.setDrive (I.updEng _ hg)))

theorem enterFaulted {k : Kind} (hg : P g) : P (enterFaulted e d k g) := I.answerOwed (I.raiseKind (I.updEng _ hg))

theorem enterVerifying (hg : P g) : P (enterVerifying e d g) := by
  have started : P (Machine.startTimer e d (e.profile d).verifyTime (Machine.enterState e d .verifying g)) := I.startTimer (I.enterState hg)
  unfold Machine.enterVerifying
  dsimp only
  split
  · split <;> [exact I.settleAt started; exact started]
  · exact started

theorem awaitGrant (hg : P g) : P (awaitGrant e d g) := I.consider (I.queue (I.enterState hg))

theorem proceed (hg : P g) : P (proceed e d g) := by
  unfold Machine.proceed whenWired
  split
  · split <;> [exact I.enterVerifying (I.turnDriveOff hg); exact I.awaitGrant hg]
  · exact I.enterFaulted hg

theorem quietNotice (hg : P g) : P (quietNotice e d g) := by
  unfold Machine.quietNotice
  dsimp only
  split
  · split <;> [exact I.startTimer (I.enterState hg); exact I.proceed hg]
  · exact hg

theorem evaluateWatch (hg : P g) : P (evaluateWatch e d g) := by
  unfold Machine.evaluateWatch
  dsimp only
  split
  · split <;> [exact I.quietNotice (I.clearWatch hg); exact hg]
  · exact hg

theorem setWatch (hg : P g) : P (setWatch e d g) := I.evaluateWatch (I.upd _ (fun _ => rfl) hg)

theorem takeReleased (hg : P g) : P (takeReleased e d o g) := by
  have left := I.leaveHolding hg
  unfold Machine.takeReleased
  dsimp only
  split
  · exact I.settleAt left
  · split
    · exact I.settleAt left
    · split
      · exact I.enterFaulted left
      · split
        · exact I.enterVerifying (I.turnDriveOff left)
        · exact I.awaitGrant left

theorem actOnExpiry (hg : P g) : P (actOnExpiry e d g) := by
  have expired : P (Machine.updEng e d (fun x => { x with deferral := .none, deferralSub := 0 }) g) := I.updEng _ hg
  unfold Machine.actOnExpiry
  dsimp only
  split
  · exact I.takeReleased (I.clearWatch (I.raiseKind (I.answerOwed (I.updEng _ expired))))
  · have forced := I.setWatch (I.updEng (fun x => { x with force := true }) expired)
    split <;> [exact I.exceptions (I.answerOwed forced); exact forced]

theorem enterQuietWait (hg : P g) : P (enterQuietWait e d g) := by
  have waits := I.setWatch (I.enterState (st := .quietWait) hg)
  unfold Machine.enterQuietWait
  dsimp only
  split <;> [exact I.actOnExpiry waits; exact waits]

theorem takeSecured (hg : P g) : P (takeSecured e d o g) := by
  have left := I.leaveHolding hg
  unfold Machine.takeSecured
  dsimp only
  split
  · exact I.settleAt left
  · split
    · exact I.enterFaulted left
    · exact I.enterQuietWait (I.updEng _ left)

theorem takeToward (hg : P g) : P (takeToward e d p o g) := by
  cases p with
  | secured => exact I.takeSecured hg
  | released => exact I.takeReleased hg

theorem adopt {ps : Params} {owed : Option Nat} (hg : P g) : P (adopt e d p ps owed g) := I.updEng _ (I.answerOwed hg)

theorem newAttempt {ps : Params} {owed : Option Nat} {fb : Option Fallback} (hg : P g) : P (newAttempt e d p ps owed fb g) :=
  I.takeToward (I.updEng _ (I.adopt hg))

/-- A target set at a door faulted by its drive current, or cooling from it (R117, R128). -/
theorem targetSet_fault {ps : Params} {owed : Option Nat} (hs : (g.door d).eng.state = .faulted ∨ (g.door d).eng.state = .cooling)
    (hg : P g) : P (targetSet e d p ps owed g) := by
  unfold Machine.targetSet
  dsimp only
  rcases hs with hs | hs
  · rw [hs]
    cases p with
    | secured => exact I.answerOwed (I.adopt hg)
    | released => exact I.newAttempt hg
  · rw [hs]
    dsimp only
    split
    · exact I.newAttempt (I.updEng _ hg)
    · exact I.adopt hg

end OwnWork

end Sys2Proof.Machine
end

section
/-! A compared reply (R100 to R108) and the fault it may raise (R105, R128), as changes of the door's record. -/

namespace Sys2Proof.Machine

/-! ## A door whose record is known to the counts -/

/-- The record of door d is x, and it stands in no queue. -/
structure Stands (d : DoorNo) (x : Door) (g : Segment) : Prop where
  door : g.door d = x
  unqueued : Unqueued d g

section
variable {e : Env} {d : DoorNo} {g : Segment} {x : Door}

namespace Stands

theorem put (hu : Unqueued d g) (x : Door) : Stands d x (g.putDoor d x) := ⟨door_putDoor_same .., hu⟩

variable (h : Stands d x g)
include h

/-- A change of a door whose counts are 0 leaves them so (R104). -/
theorem upd (f : Door → Door) (hf : (f x).sup = ⟨0, 0⟩) : Stands d (f x) (g.upd e d f) := by
  refine ⟨?_, ?_⟩
  · rw [door_upd_same, h.door]
    split
    · rw [← hf]
    · rfl
  · rw [Unqueued, upd_queue]
    exact h.unqueued

theorem consider : Stands d x (consider e g) :=
  have aside := consider_aside (e := e) h.unqueued
  ⟨aside.door.trans h.door, aside.unqueued⟩

theorem answer {owed : Option Nat} {o : DoorOutcome} : Stands d x (answer e d owed o g) := by
  rw [answer_eq]
  exact ⟨h.door, h.unqueued⟩

theorem raiseKind (k : Kind) (sub : Option SubReason) (hx : x.sup = ⟨0, 0⟩) : Stands d { x with
    eng := { x.eng with live := x.eng.live.put k true, sticky := x.eng.sticky.set k sub } } (raiseKind e d k sub g) := by
  have raised := h.upd (e := e) (fun x => { x with
    eng := { x.eng with live := x.eng.live.put k true, sticky := x.eng.sticky.set k sub } }) hx
  exact ⟨raised.door, raised.unqueued⟩

end Stands

/-! ## The fault (R105, R128) -/

/-- A door whose drive is cut for a fault of its drive current (R105). -/
def Door.cut (k : Kind) (x : Door) : Door := { x with
  charge := ⟨0, .none, 0, 0⟩
  eng := { x.eng with drive := false, live := x.eng.live.put k true, sticky := x.eng.sticky.set k none } }

/-- And taken to FAULTED, or to COOLING, by the fault latch (R128). -/
def Door.tripped (p : ProfileEntry) (k : Kind) (x : Door) : Door :=
  let y : Engine := { (x.cut k).eng with deferral := .none, deferralSub := 0 }
  { x.cut k with
    mon := { x.mon with watch := none }
    eng := if p.faultLatch then { y.enter .faulted with owed := none } else { y.enter .cooling with timer := ⟨30, 0, true⟩ } }

variable {k : Kind}

theorem tripped_eng (p : ProfileEntry) (k : Kind) (x : Door) : (x.tripped p k).eng =
    if p.faultLatch then { (({ (x.cut k).eng with deferral := .none, deferralSub := 0 } : Engine).enter .faulted) with owed := none }
    else { (({ (x.cut k).eng with deferral := .none, deferralSub := 0 } : Engine).enter .cooling) with timer := ⟨30, 0, true⟩ } := rfl

theorem tripped_state (p : ProfileEntry) (k : Kind) (x : Door) :
    (x.tripped p k).eng.state = if p.faultLatch then .faulted else .cooling := by
  rw [tripped_eng]
  split <;> rfl

theorem tripped_pending (p : ProfileEntry) (k : Kind) (x : Door) : (x.tripped p k).eng.pendingTarget = x.eng.pendingTarget := by
  rw [tripped_eng]
  split <;> rfl

/-- What a tripped door keeps and what it loses. -/
theorem tripped_reads (p : ProfileEntry) (k : Kind) (x : Door) : (x.tripped p k).eng.drive = false
    ∧ (x.tripped p k).eng.target = x.eng.target ∧ (x.tripped p k).eng.deferral = .none
    ∧ (x.tripped p k).eng.owed = (if p.faultLatch then none else x.eng.owed)
    ∧ (x.tripped p k).eng.live = x.eng.live.put k true ∧ (x.tripped p k).eng.sticky = x.eng.sticky.set k none
    ∧ (p.faultLatch = false → (x.tripped p k).eng.timer = ⟨30, 0, true⟩) := by
  rw [tripped_eng]
  cases p.faultLatch with
  | true => exact ⟨rfl, rfl, rfl, rfl, rfl, rfl, fun h => Bool.noConfusion h⟩
  | false => exact ⟨rfl, rfl, rfl, rfl, rfl, rfl, fun _ => rfl⟩

theorem Stands.cut (h : Stands d x g) (hx : x.sup = ⟨0, 0⟩) (hk : (e.profile d).lockKind ≠ .motor) :
    Stands d (x.cut k) (Machine.raiseKind e d k none (forceDriveOff e d (dequeue d g))) := by
  have begun : Stands d x (dequeue d g) := ⟨h.door, unqueued_dequeue d g⟩
  have hcharge : ((dequeue d g).door d).afterDriveOff (e.profile d) = ⟨0, .none, 0, 0⟩ := by
    rw [afterDriveOff_eq, if_pos hk]
  rw [forceDriveOff_eq, hcharge]
  exact ((begun.upd (e := e) (fun x => { x with charge := ⟨0, .none, 0, 0⟩, eng := { x.eng with drive := false } }) hx).consider
    (e := e)).raiseKind k none hx

/-- A fault at a door that is FAULTED already leaves it there. -/
theorem supervisionFault_faulted (h : Stands d x g) (hx : x.sup = ⟨0, 0⟩) (hk : (e.profile d).lockKind ≠ .motor)
    (hs : x.eng.state = .faulted) : Stands d (x.cut k) (supervisionFault e d k g) := by
  have cut := h.cut (e := e) (k := k) hx hk
  unfold supervisionFault
  dsimp only
  rw [if_pos (by rw [cut.door]; exact hs)]
  exact cut

/-- A fault elsewhere: the door trips, and its pending target is then taken. -/
theorem supervisionFault_trips (h : Stands d x g) (hx : x.sup = ⟨0, 0⟩) (hk : (e.profile d).lockKind ≠ .motor)
    (hs : x.eng.state ≠ .faulted) :
    ∃ t, supervisionFault e d k g = takePending e d t ∧ Stands d (x.tripped (e.profile d) k) t := by
  have cut := h.cut (e := e) (k := k) hx hk
  have calmed := (cut.upd (e := e) (fun x => { x with mon := { x.mon with watch := none } }) hx).upd (e := e)
    (fun x => { x with eng := { x.eng with deferral := .none, deferralSub := 0 } }) hx
  unfold supervisionFault Door.tripped
  dsimp only
  rw [if_neg (by rw [cut.door]; exact hs)]
  cases hl : (e.profile d).faultLatch with
  | true =>
    exact ⟨_, if_pos rfl, Stands.answer ((calmed.upd (e := e) (fun x => { x with eng := x.eng.enter .faulted }) hx).upd (e := e)
      (fun x => { x with eng := { x.eng with owed := none } }) hx)⟩
  | false =>
    exact ⟨_, if_neg Bool.false_ne_true, (calmed.upd (e := e) (fun x => { x with eng := x.eng.enter .cooling }) hx).upd (e := e)
      (fun x => { x with eng := { x.eng with timer := .start 30 } }) hx⟩

/-! ## The compared reply (R101 to R103, R108) -/

/-- A door whose live flags of its drive current are cleared where the reading says so. -/
def Door.cleared (o u : Bool) (x : Door) : Door := { x with eng := { x.eng with live := { x.eng.live with
  overcurrent := x.eng.live.overcurrent && !o, openCircuit := x.eng.live.openCircuit && !u } } }

theorem Door.cleared_none (x : Door) : x.cleared false false = x := by
  unfold Door.cleared
  simp

theorem clearLive_overcurrent {c : Prop} [Decidable c] : (if c then clearLive e d [.overcurrent] g else g)
    = g.putDoor d ((g.door d).cleared (decide c) false) := by
  by_cases h : c
  · rw [if_pos h, clearLive, upd_same_level _ _ _ _ rfl]
    simp [Door.cleared, h, Live.put]
  · rw [if_neg h, decide_eq_false h, Door.cleared_none, putDoor_self]

theorem clearLive_openCircuit {c : Prop} [Decidable c] {b : Bool} :
    (if c then clearLive e d [.openCircuit] (g.putDoor d (x.cleared b false)) else g.putDoor d (x.cleared b false))
    = g.putDoor d (x.cleared b (decide c)) := by
  by_cases h : c
  · rw [if_pos h, clearLive_put]
    simp [Door.cleared, h, Live.put]
  · rw [if_neg h, decide_eq_false h]

theorem superviseCompared_eq (i : Nat) : superviseCompared e d i g =
    let p := e.profile d
    let x := g.door d
    let o := overCount p i x.sup.overCount
    let u := underCount p i x.sup.underCount
    let y := x.cleared (decide (i ≤ p.overLimit - p.hysteresis)) false
    let z := x.cleared (decide (i ≤ p.overLimit - p.hysteresis)) (decide (p.underLimit + p.hysteresis ≤ i))
    if faultArises p x.sup.overCount o = true then supervisionFault e d .overcurrent (g.putDoor d { y with sup := ⟨0, 0⟩ })
    else if x.eng.state = .driving then g.putDoor d { y with sup := ⟨o, x.sup.underCount⟩ }
    else if faultArises p x.sup.underCount u = true then supervisionFault e d .openCircuit (g.putDoor d { z with sup := ⟨0, 0⟩ })
    else g.putDoor d { z with sup := ⟨o, u⟩ } := by
  have counted {w : Door} {c : Supervision} : setSupervision d c (g.putDoor d w) = g.putDoor d { w with sup := c } := by
    unfold setSupervision
    rw [door_putDoor_same, putDoor_putDoor]
  unfold superviseCompared
  dsimp only
  rw [clearLive_overcurrent, clearLive_openCircuit, counted, counted, counted, counted, door_putDoor_same]
  rfl

end

end Sys2Proof.Machine
end

section
/-! A reply that moves nothing of the door but what its drive current says (R58, R100 to R108, R128). -/

namespace Sys2Proof.Machine

section
variable {e : Env} {d : DoorNo} {g g0 t : Segment} {r : Reply} {ap lk : Bool} {x : Door}

/-! ## Up to the drive current -/

theorem Heeded.of_attended {α : Type} {N : Door → α} (hN : Attends N) (h : Heeded Door.attended d g0 g) : Heeded N d g0 g :=
  ⟨hN.same h.door, h.rest, h.only⟩

/-- A reply without a POSITION event and without an exit request, up to the drive current. -/
theorem replyTold_attended (hp : changedInput (g.door d).inputs.position (namedInputs (e.profile d) r).position = none)
    (hx : changedInput (g.door d).inputs.exitRequest (namedInputs (e.profile d) r).exitRequest ≠ some true) :
    Heeded Door.attended d (g.putDoor d ((g.door d).replied (e.profile d) r)) (replyTold e d r g) := by
  have tampered {now was : Inputs} (k : Segment) :
      Heeded Door.attended d k (if changedInput was.tamper now.tamper = some true then tamperBegins e d .terminal k else k) := by
    split <;> [exact attends_attended.tamperBegins _; exact .refl _]
  unfold replyTold replyPositioned
  rw [positionTold_unchanged hp, eventsTold_eq, exitsTold_none hx]
  exact ((conditioned_heeded attends_attended r).trans (tampered _)).trans attends_attended.tamperCheck

/-- The reply after its drive current. -/
def afterCurrent (e : Env) (d : DoorNo) (r : Reply) (g : Segment) : Segment := readVerifying e d (reenable e d (takePulse e d r g))

theorem heard_current : heard e d ap lk r g = afterCurrent e d r (supervise e d ap lk r.current (replyTold e d r g)) := heard_eq ..

/-! ## After it -/

/-- A door's record but for what its pulse changes. -/
def Door.unacked (x : Door) : Door := { x with
  drop := { x.drop with lastSeq := 0, pulse := .none }, eng := { x.eng with pulseAcked := false, timer := ⟨0, 0, false⟩ } }

theorem takePulse_unacked : Heeded Door.unacked d g (takePulse e d r g) := by
  have taken : Heeded Door.unacked d g (pulseTaken e d r g) := .upd (fun _ _ _ => rfl) rfl
  rw [takePulse_eq]
  split
  · refine taken.trans ?_
    unfold pulseAcknowledged updEng
    refine .upd (fun x _ _ => ?_) ?_
    · dsimp only
      split
      · next h => simp [Door.lockLevel, h]
      · split <;> rfl
    · dsimp only
      split
      · rfl
      · split <;> rfl
  · exact taken

theorem shouldMonitor_heard (hf : e.fitted d = true) (hl : (g.door d).drop.lost = false) (hr : (g.door d).drop.firstReply = true) :
    shouldMonitor e d g
      = ((g.door d).eng.state != .absent && (g.door d).eng.state != .outOfService && (e.profile d).assigns .position) := by
  unfold shouldMonitor
  dsimp only
  rw [hf, hl, hr]
  simp

/-- The enable of a door without a watch, or whose enable stands, turns without a notice. -/
theorem reenable_still (h : (g.door d).mon.watch = none ∨ (g.door d).mon.enable = shouldMonitor e d g) :
    ∃ m b, m.watch = (g.door d).mon.watch ∧ reenable e d g = g.putDoor d { g.door d with
      mon := m, eng := { (g.door d).eng with live := { (g.door d).eng.live with propped := b } } } := by
  rcases h with h | h
  · exact reenable_unquiet (.of_none h)
  · refine ⟨(g.door d).mon, (g.door d).eng.live.propped, rfl, ?_⟩
    rw [reenable_eq, if_pos h.symm, putDoor_self]

/-- What a reply shows of the drive current's part of the record. -/
structure Tested (x y : Door) : Prop where
  sup : y.sup = x.sup
  charge : y.charge = x.charge
  watch : y.mon.watch = x.mon.watch
  state : y.eng.state = x.eng.state
  drive : y.eng.drive = x.eng.drive
  target : y.eng.target = x.eng.target
  owed : y.eng.owed = x.eng.owed
  deferral : y.eng.deferral = x.eng.deferral
  sticky : y.eng.sticky = x.eng.sticky
  live : y.eng.live = { x.eng.live with propped := y.eng.live.propped }
  timer : x.eng.state ∉ [DoorState.driving, .lost] → y.eng.timer = x.eng.timer

/-- After its drive current a reply leaves all this, at a door that it does not verify. -/
theorem afterCurrent_tested (hv : Unshown e d g)
    (hw : (g.door d).mon.watch = none ∨ (g.door d).mon.enable = shouldMonitor e d g) :
    Tested (g.door d) ((afterCurrent e d r g).door d) := by
  have pulsed := takePulse_unacked (e := e) (d := d) (g := g) (r := r)
  have hpulsed := pulsed.door
  have hunshown := hv.takePulse (r := r)
  have htimer : (g.door d).eng.state ∉ [DoorState.driving, .lost] →
      ((takePulse e d r g).door d).eng.timer = (g.door d).eng.timer := fun hs => by
    simp only [List.mem_cons, List.not_mem_nil, or_false, not_or] at hs
    exact (congrArg (fun x : Door => x.eng.timer) (attends_attended.takePulse (r := r) hs.1 fun h => hs.2 h.1).door :)
  unfold afterCurrent
  generalize takePulse e d r g = k at hpulsed hunshown htimer
  have hmon : (k.door d).mon = (g.door d).mon := (congrArg Door.mon hpulsed :)
  have hstate : (k.door d).eng.state = (g.door d).eng.state := (congrArg (fun x : Door => x.eng.state) hpulsed :)
  have hlost : (k.door d).drop.lost = (g.door d).drop.lost := (congrArg (fun x : Door => x.drop.lost) hpulsed :)
  have hfirst : (k.door d).drop.firstReply = (g.door d).drop.firstReply := (congrArg (fun x : Door => x.drop.firstReply) hpulsed :)
  have hshould : shouldMonitor e d k = shouldMonitor e d g := by
    unfold shouldMonitor
    dsimp only
    rw [hstate, hlost, hfirst]
  obtain ⟨m, b, hm, hturned⟩ := reenable_still (e := e) (g := k) (by rwa [hmon, hshould])
  have turned : Heeded Door.engaged d k (reenable e d k) := by
    rw [hturned]
    exact .put rfl
  rw [(hunshown.heeded turned).readVerifying, hturned, door_putDoor_same]
  exact {
    sup := (congrArg Door.sup hpulsed :)
    charge := (congrArg Door.charge hpulsed :)
    watch := hm.trans (congrArg Monitor.watch hmon)
    state := hstate
    drive := (congrArg (fun x : Door => x.eng.drive) hpulsed :)
    target := (congrArg (fun x : Door => x.eng.target) hpulsed :)
    owed := (congrArg (fun x : Door => x.eng.owed) hpulsed :)
    deferral := (congrArg (fun x : Door => x.eng.deferral) hpulsed :)
    sticky := (congrArg (fun x : Door => x.eng.sticky) hpulsed :)
    live := (congrArg (fun x : Door => { x.eng.live with propped := b }) hpulsed :)
    timer := htimer }

/-! ## Which replies are compared (R100) -/

/-- The LOCK_DRIVE level of a door (R43). -/
def Door.levelOn (latch : Bool) (p : ProfileEntry) (x : Door) : Bool :=
  if latch || x.eng.state == .outOfService then false else if x.eng.state = .holding then x.heldDrive p else x.eng.drive

theorem compared_iff : compared e d ap lk g = true ↔ (e.profile d).lockKind ≠ .motor ∧ (e.profile d).assigns .lockDrive = true
    ∧ ap = true ∧ lk = true ∧ (g.door d).levelOn g.fire.latch (e.profile d) = true := by
  unfold compared
  dsimp only
  rw [lockLevel_eq, Bool.and_eq_true, Bool.and_eq_true, Bool.and_eq_true, Bool.and_eq_true, bne_iff_ne, and_assoc, and_assoc, and_assoc]
  rfl

theorem faultArises_iff {p : ProfileEntry} {a b : Nat} : faultArises p a b = true ↔ a < b ∧ p.persistence ≤ b := by
  unfold faultArises
  simp

theorem overCount_eq (p : ProfileEntry) (i n : Nat) :
    overCount p i n = if p.overLimit < i then n + 1 else if i + p.hysteresis ≤ p.overLimit ∨ i = 0 then 0 else n := by
  unfold overCount
  split
  · rfl
  · exact if_congr (by omega) rfl rfl

end

end Sys2Proof.Machine
end

section
/-! COOLING_EXPIRY and the compared reply (R100 to R108, R128, R129). -/

namespace Sys2Proof.Machine

section
variable {e : Env} {d : DoorNo} {g t : Segment} {r : Reply} {ap lk : Bool} {x : Door}

/-! ## The four courses of a compared reply -/

/-- The under-limit count after a reading; it stands in DRIVING (R102). -/
def underNow (p : ProfileEntry) (st : DoorState) (i n : Nat) : Nat := if st = .driving then n else underCount p i n

/-- The reading raises OVERCURRENT, or OPEN_CIRCUIT (R103). -/
def Door.overFault (p : ProfileEntry) (i : Nat) (x : Door) : Prop :=
  x.sup.overCount < overCount p i x.sup.overCount ∧ p.persistence ≤ overCount p i x.sup.overCount

def Door.underFault (p : ProfileEntry) (i : Nat) (x : Door) : Prop :=
  x.sup.underCount < underNow p x.eng.state i x.sup.underCount ∧ p.persistence ≤ underNow p x.eng.state i x.sup.underCount

theorem supervise_off {i : Nat} (h : compared e d ap lk g ≠ true) : supervise e d ap lk i g = g := if_neg h

theorem supervise_counts {i : Nat} (h : compared e d ap lk g = true) (ho : ¬ (g.door d).overFault (e.profile d) i)
    (hu : ¬ (g.door d).underFault (e.profile d) i) :
    let p := e.profile d
    let x := g.door d
    supervise e d ap lk i g = g.putDoor d { x.cleared (decide (i ≤ p.overLimit - p.hysteresis))
        (decide (x.eng.state ≠ .driving ∧ p.underLimit + p.hysteresis ≤ i)) with
      sup := ⟨overCount p i x.sup.overCount, underNow p x.eng.state i x.sup.underCount⟩ } := by
  intro p x
  have hover : ¬ faultArises p x.sup.overCount (overCount p i x.sup.overCount) = true := fun h => ho (faultArises_iff.mp h)
  rw [supervise, if_pos h, superviseCompared_eq]
  dsimp only
  rw [if_neg hover]
  by_cases hs : x.eng.state = .driving
  · rw [if_pos hs]
    unfold underNow
    rw [if_pos hs, decide_eq_false (show ¬ (x.eng.state ≠ .driving ∧ p.underLimit + p.hysteresis ≤ i) from fun h => h.1 hs)]
  · have hunder : underNow p x.eng.state i x.sup.underCount = underCount p i x.sup.underCount := if_neg hs
    have hnone : ¬ faultArises p x.sup.underCount (underCount p i x.sup.underCount) = true := fun h => hu (by
      unfold Door.underFault
      rw [hunder]
      exact faultArises_iff.mp h)
    rw [if_neg hs, if_neg hnone, hunder, decide_eq_decide.mpr (and_iff_right hs)]

/-- The door that a fault of its drive current finds: its counts begin again (R103). -/
def Door.recounted (p : ProfileEntry) (i : Nat) (u : Bool) (x : Door) : Door := { x.cleared (decide (i ≤ p.overLimit - p.hysteresis)) u with
  sup := ⟨0, 0⟩ }

/-- The fault, and its kind. -/
theorem supervise_faults {i : Nat} (h : compared e d ap lk g = true)
    (hf : (g.door d).overFault (e.profile d) i ∨ (g.door d).underFault (e.profile d) i) :
    let p := e.profile d
    let x := g.door d
    ∃ k u, supervise e d ap lk i g = supervisionFault e d k (g.putDoor d (x.recounted p i u))
      ∧ (x.overFault p i → k = .overcurrent ∧ u = false) ∧ (¬ x.overFault p i → k = .openCircuit) := by
  intro p x
  rw [supervise, if_pos h, superviseCompared_eq]
  dsimp only
  by_cases ho : x.overFault p i
  · rw [if_pos (faultArises_iff.mpr ho)]
    exact ⟨_, _, rfl, fun _ => ⟨rfl, rfl⟩, fun h => absurd ho h⟩
  · have hu := hf.resolve_left ho
    have hs : x.eng.state ≠ .driving := fun hs => by
      unfold Door.underFault underNow at hu
      rw [if_pos hs] at hu
      exact absurd hu.1 (Nat.lt_irrefl _)
    have hunder : underNow p x.eng.state i x.sup.underCount = underCount p i x.sup.underCount := if_neg hs
    unfold Door.underFault at hu
    rw [hunder] at hu
    rw [if_neg fun h => ho (faultArises_iff.mp h), if_neg hs, if_pos (faultArises_iff.mpr hu)]
    exact ⟨_, _, rfl, fun h => absurd h ho, fun _ => rfl⟩

/-! ## The reply at such a door -/

/-- The segment before the drive current of a reply: door d is x but for what the condition and TAMPER of the reply change, its enable or
its watch is at rest, and it shows no target that it is verified for. -/
structure Untold (e : Env) (d : DoorNo) (x : Door) (g : Segment) : Prop where
  attended : (g.door d).attended = x.attended
  fitted : e.fitted d = true
  present : x.drop.lost = false
  seen : x.drop.firstReply = true
  unqueued : Unqueued d g
  still : x.mon.watch = none
    ∨ x.mon.enable = (x.eng.state != .absent && x.eng.state != .outOfService && (e.profile d).assigns .position)
  unshown : Unshown e d g

namespace Untold

variable (h : Untold e d x g)

include h

theorem read {α : Type} (read : Door → α) (hread : ∀ y : Door, read y.attended = read y) : read (g.door d) = read x :=
  (hread _).symm.trans ((congrArg read h.attended).trans (hread _))

theorem sup : (g.door d).sup = x.sup := h.read Door.sup fun _ => rfl
theorem mon : (g.door d).mon = x.mon := h.read Door.mon fun _ => rfl
theorem charge : (g.door d).charge = x.charge := h.read Door.charge fun _ => rfl
theorem state : (g.door d).eng.state = x.eng.state := h.read (fun y => y.eng.state) fun _ => rfl
theorem drive : (g.door d).eng.drive = x.eng.drive := h.read (fun y => y.eng.drive) fun _ => rfl
theorem target : (g.door d).eng.target = x.eng.target := h.read (fun y => y.eng.target) fun _ => rfl
theorem owed : (g.door d).eng.owed = x.eng.owed := h.read (fun y => y.eng.owed) fun _ => rfl
theorem pending : (g.door d).eng.pendingTarget = x.eng.pendingTarget := h.read (fun y => y.eng.pendingTarget) fun _ => rfl
theorem overcurrent : (g.door d).eng.live.overcurrent = x.eng.live.overcurrent := h.read (fun y => y.eng.live.overcurrent) fun _ => rfl
theorem openCircuit : (g.door d).eng.live.openCircuit = x.eng.live.openCircuit := h.read (fun y => y.eng.live.openCircuit) fun _ => rfl
theorem lost : (g.door d).drop.lost = false := (h.read (fun y => y.drop.lost) fun _ => rfl).trans h.present
theorem first : (g.door d).drop.firstReply = true := (h.read (fun y => y.drop.firstReply) fun _ => rfl).trans h.seen

theorem overFault_iff {p : ProfileEntry} {i : Nat} : (g.door d).overFault p i ↔ x.overFault p i := by
  unfold Door.overFault
  rw [h.sup]

theorem underFault_iff {p : ProfileEntry} {i : Nat} : (g.door d).underFault p i ↔ x.underFault p i := by
  unfold Door.underFault
  rw [h.sup, h.state]

/-- A segment whose door has the state, the monitor and the drop of this one is still as this one is. -/
theorem stands_still {k : Segment} (hs : (k.door d).eng.state = x.eng.state) (hm : (k.door d).mon = x.mon)
    (hl : (k.door d).drop.lost = false) (hf : (k.door d).drop.firstReply = true) :
    (k.door d).mon.watch = none ∨ (k.door d).mon.enable = shouldMonitor e d k := by
  rw [hm, shouldMonitor_heard h.fitted hl hf, hs]
  exact h.still

theorem uncompared (hc : compared e d ap lk g ≠ true) :
    Tested (g.door d) ((afterCurrent e d r (supervise e d ap lk r.current g)).door d) := by
  rw [supervise_off hc]
  exact afterCurrent_tested h.unshown (h.stands_still h.state h.mon h.lost h.first)

theorem counted (hc : compared e d ap lk g = true) (ho : ¬ x.overFault (e.profile d) r.current)
    (hu : ¬ x.underFault (e.profile d) r.current) :
    let p := e.profile d
    Tested { (g.door d).cleared (decide (r.current ≤ p.overLimit - p.hysteresis))
        (decide ((g.door d).eng.state ≠ .driving ∧ p.underLimit + p.hysteresis ≤ r.current)) with
        sup := ⟨overCount p r.current x.sup.overCount, underNow p x.eng.state r.current x.sup.underCount⟩ }
      ((afterCurrent e d r (supervise e d ap lk r.current g)).door d) := by
  intro p
  have hcounts := supervise_counts (d := d) hc (fun hf => ho (h.overFault_iff.mp hf)) fun hf => hu (h.underFault_iff.mp hf)
  dsimp only at hcounts
  rw [h.sup, h.state] at hcounts
  have tested := afterCurrent_tested (e := e) (d := d) (r := r) (g := supervise e d ap lk r.current g) (h.unshown.heeded (by
      rw [hcounts]
      exact .put rfl))
    (h.stands_still (by rw [hcounts, door_putDoor_same]; exact h.state) (by rw [hcounts, door_putDoor_same]; exact h.mon)
      (by rw [hcounts, door_putDoor_same]; exact h.lost) (by rw [hcounts, door_putDoor_same]; exact h.first))
  rw [hcounts, door_putDoor_same] at tested
  rw [h.state, hcounts]
  exact tested

/-- A fault at a door that is FAULTED already. -/
theorem faulted (hc : compared e d ap lk g = true)
    (hf : x.overFault (e.profile d) r.current ∨ x.underFault (e.profile d) r.current) (hs : x.eng.state = .faulted) :
    ∃ k u, Tested (((g.door d).recounted (e.profile d) r.current u).cut k)
        ((afterCurrent e d r (supervise e d ap lk r.current g)).door d)
      ∧ (x.overFault (e.profile d) r.current → k = .overcurrent ∧ u = false) ∧ (¬ x.overFault (e.profile d) r.current → k = .openCircuit) := by
  obtain ⟨k, u, hfault, ho, hu⟩ := supervise_faults (d := d) hc (hf.imp h.overFault_iff.mpr h.underFault_iff.mpr)
  rw [h.overFault_iff] at ho hu
  have hstate := h.state.trans hs
  have cut := supervisionFault_faulted (e := e) (k := k) (Stands.put h.unqueued ((g.door d).recounted (e.profile d) r.current u)) rfl (compared_iff.mp hc).1 hstate
  refine ⟨k, u, ?_, ho, hu⟩
  have tested := afterCurrent_tested (e := e) (d := d) (r := r) (g := supervise e d ap lk r.current g)
    (.of_state (by rw [hfault, cut.door]; show (g.door d).eng.state ≠ _; rw [hstate]; decide))
    (h.stands_still (by rw [hfault, cut.door]; exact h.state) (by rw [hfault, cut.door]; exact h.mon)
      (by rw [hfault, cut.door]; exact h.lost) (by rw [hfault, cut.door]; exact h.first))
  rw [hfault, cut.door] at tested
  rw [hfault]
  exact tested

/-- A fault elsewhere, without a pending target. -/
theorem trips (hc : compared e d ap lk g = true)
    (hf : x.overFault (e.profile d) r.current ∨ x.underFault (e.profile d) r.current) (hs : x.eng.state ≠ .faulted)
    (hz : x.eng.pendingTarget = none) :
    ∃ k u, Tested (((g.door d).recounted (e.profile d) r.current u).tripped (e.profile d) k)
        ((afterCurrent e d r (supervise e d ap lk r.current g)).door d)
      ∧ (x.overFault (e.profile d) r.current → k = .overcurrent ∧ u = false) ∧ (¬ x.overFault (e.profile d) r.current → k = .openCircuit) := by
  obtain ⟨k, u, hfault, ho, hu⟩ := supervise_faults (d := d) hc (hf.imp h.overFault_iff.mpr h.underFault_iff.mpr)
  rw [h.overFault_iff] at ho hu
  obtain ⟨t, htrip, stands⟩ := supervisionFault_trips (e := e) (k := k) (Stands.put h.unqueued ((g.door d).recounted (e.profile d) r.current u)) rfl (compared_iff.mp hc).1 (by rw [← h.state] at hs; exact hs)
  have hpending : (t.door d).eng.pendingTarget = none := by
    rw [stands.door, tripped_pending]
    exact h.pending.trans hz
  rw [htrip, takePending_none hpending] at hfault
  refine ⟨k, u, ?_, ho, hu⟩
  have tested := afterCurrent_tested (e := e) (d := d) (r := r) (g := t)
    (.of_state (by rw [stands.door, tripped_state]; split <;> decide)) (.inl (by rw [stands.door]; rfl))
  rw [stands.door] at tested
  rw [hfault]
  exact tested

end Untold

end

end Sys2Proof.Machine
end

section
/-! A pending target taken where a fault of the drive current has ended an actuation (R117, R118, R128), and the rest of the reply. -/

namespace Sys2Proof.Machine

section
variable {e : Env} {d : DoorNo} {g t : Segment} {r : Reply} {ap lk : Bool} {x : Door} {p : Posture} {o : DoorOutcome}

/-! ## An attempt toward a posture at a door without a watch -/

theorem unshown_proceed : Unshown e d (proceed e d g) := by
  cases ha : (e.profile d).assigns .lockDrive with
  | true =>
    rw [proceed_wired ha]
    split
    · exact unshown_enterVerifying
    · exact Unverified.awaitGrant.unshown
  | false =>
    rw [proceed_unwired ha]
    exact (Unverified.enterFaulted _).unshown

theorem unshown_quietNotice (h : Unshown e d g) : Unshown e d (quietNotice e d g) := by
  unfold quietNotice
  dsimp only
  split
  · split
    · exact Unverified.unshown (Unverified.upd (by rw [enterState_state]; decide))
    · exact unshown_proceed
  · exact h

theorem waitingAt_unshown (m : Option Watch) : Unshown e d (g.waitingAt e d m) :=
  .of_state (by rw [waitingAt_eng]; exact fun h => DoorState.noConfusion h)

theorem waitingAt_mon (m : Option Watch) : ((g.waitingAt e d m).door d).mon = { (g.door d).mon with watch := m } :=
  Door.core_read (waitingAt_core m) Door.mon

/-- The entry to QUIET_WAIT of a door whose deferral has not run out. -/
theorem enterQuietWait_rests (hd : (g.door d).eng.deferral ≠ .expired) :
    Unshown e d (enterQuietWait e d g) ∧ Unquiet e d (enterQuietWait e d g) := by
  cases hq : (g.door d).quiet (e.profile d) ⟨(g.door d).eng.params.threshold, (g.door d).eng.force⟩ with
  | true =>
    have goes : Forward d ((g.waitingAt e d none).door d) (quietNotice e d (g.waitingAt e d none)) :=
      Forward.quietNotice (show Forward d _ _ from Eased.refl _)
    rw [enterQuietWait_quiet hq]
    refine ⟨unshown_quietNotice (waitingAt_unshown none), .of_none ?_⟩
    exact goes.watch.elim (fun h => h.trans (by rw [waitingAt_mon])) id
  | false =>
    rw [enterQuietWait_unquiet hq, if_neg hd]
    refine ⟨waitingAt_unshown _, fun w hw => ?_⟩
    rw [waitingAt_mon] at hw
    obtain rfl := Option.some.inj hw
    exact (Door.core_read (waitingAt_core _) fun x => x.quiet (e.profile d) _).trans hq

/-- A door without a watch, taken toward a posture. -/
theorem takeToward_rests (hw : (g.door d).mon.watch = none) :
    Unshown e d (takeToward e d p o g) ∧ Unquiet e d (takeToward e d p o g) := by
  have begun : Forward d (g.door d) g := Eased.refl _
  have none_of {k : Segment} (h : Forward d (g.door d) k) : Unquiet e d k := .of_none (h.watch.elim (fun h => h.trans hw) id)
  cases p with
  | released => exact ⟨unshown_takeReleased, none_of begun.takeReleased⟩
  | secured =>
    have left := begun.leaveHolding (e := e)
    show Unshown e d (takeSecured e d o g) ∧ Unquiet e d (takeSecured e d o g)
    unfold takeSecured
    dsimp only
    split
    · exact ⟨(Unverified.settleAt _ _).unshown, none_of left.settleAt⟩
    · split
      · exact ⟨(Unverified.enterFaulted _).unshown, none_of left.enterFaulted⟩
      · refine enterQuietWait_rests ?_
        rw [startDeferral, updEng, upd_door_eng]
        show Deferral.ofLimit _ ≠ _
        unfold Deferral.ofLimit
        split <;> exact fun h => Deferral.noConfusion h

/-- And a target set at a door that its drive current has stopped. -/
theorem targetSet_stopped {ps : Params} {owed : Option Nat} (hs : (g.door d).eng.state = .faulted ∨ (g.door d).eng.state = .cooling)
    (hu : Unqueued d g) (hw : (g.door d).mon.watch = none) :
    Unshown e d (targetSet e d p ps owed g) ∧ Unquiet e d (targetSet e d p ps owed g) := by
  have starts (h : Door.starts p (e.profile d).lockKind (g.door d).eng) :
      Unshown e d (targetSet e d p ps owed g) ∧ Unquiet e d (targetSet e d p ps owed g) := by
    obtain ⟨tm, k, htaken, made⟩ := targetSet_begins (e := e) (ps := ps) (owed := owed) h (.inr hu)
    rw [htaken]
    refine takeToward_rests ?_
    rw [made.mon]
    show (if (g.door d).eng.state = .quietWait then none else (g.door d).mon.watch) = none
    rw [hw, ite_self]
  have adopted : Unverified d (adopt e d p ps owed g) ∧ ((adopt e d p ps owed g).door d).mon.watch = none := by
    rw [adopt_eq]
    refine ⟨?_, by rw [door_putDoor_same]; exact hw⟩
    rw [Unverified, door_putDoor_same]
    show (g.door d).eng.state ≠ _
    rcases hs with h | h <;> rw [h] <;> decide
  rcases hs with hs | hs
  · cases p with
    | released => exact starts (.inr (.inr (.inl ⟨hs, rfl⟩)))
    | secured =>
      rw [targetSet_faulted hs]
      refine ⟨(adopted.1.answerOwed).unshown, .of_none ?_⟩
      unfold answerOwed
      rw [answer_door]
      exact (door_upd_read e d _ _ fun x => x.mon.watch).trans adopted.2
  · by_cases hc : (g.door d).eng.target ≠ some p ∧ ((e.profile d).lockKind = .magnetic ∧ p = .released
        ∨ (e.profile d).lockKind = .strike ∧ p = .secured)
    · exact starts (.inr (.inr (.inr ⟨hs, hc.1, hc.2⟩)))
    · have hadopts : targetSet e d p ps owed g = adopt e d p ps owed g := by
        unfold targetSet
        dsimp only
        rw [hs]
        refine if_neg fun h => hc ?_
        rw [Bool.not_eq_true', decide_eq_false_iff_not, reachedDriveOff_iff] at h
        exact h
      rw [hadopts]
      exact ⟨adopted.1.unshown, .of_none adopted.2⟩

end

/-! ## The pulse of a door with a drive current -/

/-- Only a MOTOR door posts pulses: the drop record of another stands its engine's work. -/
theorem ownDrop {e : Env} {d : DoorNo} (hk : (e.profile d).lockKind ≠ .motor) (c : Drop) : OwnWork e d fun g => (g.door d).drop = c where
  upd f {g} hf hg := (door_upd_read e d f g Door.drop).trans ((hf _).trans hg)
  queue hg := hg
  exceptions hg := hg
  free hg := hg
  seqr hg := hg
  consider {g} hg := by
    have others (j : DoorNo) (hj : d ≠ j) {g k : Segment} (hg : (g.door d).drop = c) (honly : OnlyDoor j g k) : (k.door d).drop = c := by
      rw [honly d hj]
      exact hg
    refine consider_keeps (P := fun g => (g.door d).drop = c) (fun {g} q _ hg => ?_) (fun {g} q _ hg => ?_) hg
    · by_cases hq : d = q.door
      · subst hq
        rw [(grant_made e q.door g).drop]
        unfold Door.granted
        dsimp only
        rw [if_neg hk]
        exact hg
      · exact others _ hq hg ((onlyDoorWork e q.door g).grant rfl (OnlyDoor.refl _ g))
    · by_cases hq : d = q.door
      · subst hq
        obtain ⟨b, hr⟩ := refuse_made e q.door g
        exact hr.drop.trans hg
      · exact others _ hq hg ((onlyDoorWork e q.door g).refuse rfl (OnlyDoor.refl _ g))

/-! ## The reply that replaces the attempt -/

section
variable {e : Env} {d : DoorNo} {g t : Segment} {r : Reply} {ap lk : Bool} {x : Door}

theorem takePulse_none (h : (g.door d).drop.pulse = .none) : takePulse e d r g = g.putDoor d { g.door d with
    drop := { (g.door d).drop with lastSeq := r.seq, pulse := .none } } := by
  rw [takePulse_eq, if_neg (by rw [h]; exact Bool.false_ne_true), pulseTaken, upd_same_level _ _ _ _ rfl, h]
  rfl

/-- What follows the drive current of a reply, at a door without a pulse whose watch does not find it quiet: its drop record changes, and
its enable turns where it does not stand. -/
theorem afterCurrent_quiet (hv : Unshown e d g) (hq : Unquiet e d g) (hp : (g.door d).drop.pulse = .none) :
    ∃ y, afterCurrent e d r g = g.putDoor d y
      ∧ ((g.door d).mon.enable = shouldMonitor e d g → y = { g.door d with drop := y.drop }) := by
  let w : Door := { g.door d with drop := { (g.door d).drop with lastSeq := r.seq, pulse := .none } }
  have hdoor : (g.putDoor d w).door d = w := door_putDoor_same ..
  have pulsed : Heeded Door.engaged d g (g.putDoor d w) := .put rfl
  have hquiet : Unquiet e d (g.putDoor d w) := by
    unfold Unquiet
    rw [hdoor]
    exact hq
  obtain ⟨m, b, hm, hturned⟩ := reenable_unquiet hquiet
  rw [hdoor, putDoor_putDoor] at hturned
  have turned : Heeded Door.engaged d (g.putDoor d w) (reenable e d (g.putDoor d w)) := (reenable_watched hquiet).of_watched
  have hafter : afterCurrent e d r g = reenable e d (g.putDoor d w) := by
    unfold afterCurrent
    rw [takePulse_none hp]
    exact ((hv.heeded pulsed).heeded turned).readVerifying
  by_cases he : (g.door d).mon.enable = shouldMonitor e d g
  · refine ⟨w, ?_, fun _ => rfl⟩
    have hshould : shouldMonitor e d (g.putDoor d w) = ((g.putDoor d w).door d).mon.enable := by
      unfold shouldMonitor at he ⊢
      rw [hdoor]
      exact he.symm
    rw [hafter, reenable_eq, if_pos hshould]
  · exact ⟨_, hafter.trans hturned, fun h => absurd h he⟩

namespace Untold

/-- A fault takes the pending target, and the rest of the reply changes the door's drop record, and its enable where that does not stand. -/
theorem replaced (h : Untold e d x g) (hp : (g.door d).drop.pulse = .none) (hc : compared e d ap lk g = true)
    (hf : x.overFault (e.profile d) r.current ∨ x.underFault (e.profile d) r.current) (hs : x.eng.state ≠ .faulted) {z : PendingTarget}
    (hz : x.eng.pendingTarget = some z) :
    ∃ t k y, (t.door d).eng.state = (if (e.profile d).faultLatch then .faulted else .cooling) ∧ (t.door d).eng.pendingTarget = none
      ∧ (t.door d).eng.drive = false ∧ (t.door d).eng.target = x.eng.target ∧ (t.door d).eng.deferral = .none
      ∧ (t.door d).eng.owed = (if (e.profile d).faultLatch then none else x.eng.owed)
      ∧ (t.door d).sup = ⟨0, 0⟩ ∧ (t.door d).charge = ⟨0, .none, 0, 0⟩ ∧ (t.door d).mon.watch = none
      ∧ k = targetSet e d z.posture z.params z.owed t
      ∧ afterCurrent e d r (supervise e d ap lk r.current g) = k.putDoor d y
      ∧ (x.mon.enable = (e.profile d).assigns .position → y = { k.door d with drop := y.drop }) := by
  obtain ⟨k, u, hfault, -⟩ := supervise_faults (d := d) hc (hf.imp h.overFault_iff.mpr h.underFault_iff.mpr)
  obtain ⟨t, htrip, stands⟩ := supervisionFault_trips (e := e) (k := k) (Stands.put h.unqueued ((g.door d).recounted (e.profile d) r.current u))
    rfl (compared_iff.mp hc).1 (by rw [← h.state] at hs; exact hs)
  have hpending : (t.door d).eng.pendingTarget = some z := by
    rw [stands.door, tripped_pending]
    exact h.pending.trans hz
  have hstate : (t.door d).eng.state = if (e.profile d).faultLatch then .faulted else .cooling := by rw [stands.door, tripped_state]
  rw [takePending_some hpending (by rw [hstate]; split <;> decide)] at htrip
  have dropped : Stands d _ (dropPending e d t) := stands.upd (e := e) (fun x => { x with eng := { x.eng with pendingTarget := none } }) rfl
  obtain ⟨hdrive, htarget, hdeferral, howed, -⟩ := tripped_reads (e.profile d) k ((g.door d).recounted (e.profile d) r.current u)
  have hrests : ((dropPending e d t).door d).eng.state = if (e.profile d).faultLatch then .faulted else .cooling := by
    rw [dropped.door]
    exact tripped_state ..
  have hstopped : ((dropPending e d t).door d).eng.state = .faulted ∨ ((dropPending e d t).door d).eng.state = .cooling := by
    rw [hrests]
    split <;> simp
  obtain ⟨hshown, hquiet⟩ := targetSet_stopped (e := e) (p := z.posture) (ps := z.params) (owed := z.owed) hstopped dropped.unqueued
    (by rw [dropped.door]; rfl)
  have hdrop : ((targetSet e d z.posture z.params z.owed (dropPending e d t)).door d).drop = (g.door d).drop :=
    (ownDrop (compared_iff.mp hc).1 _).targetSet_fault hstopped (by rw [dropped.door]; rfl)
  have calm := (calmWork e d ((dropPending e d t).door d)).targetSet (d := d) (p := z.posture) (params := z.params) (owed := z.owed) trivial (Calm.refl _)
  have hfit := calm.fit (by rw [hrests]; split <;> decide)
  have henable : ((targetSet e d z.posture z.params z.owed (dropPending e d t)).door d).mon.enable = x.mon.enable := by
    rw [calm.mon, dropped.door]
    exact (congrArg Monitor.enable h.mon :)
  obtain ⟨y, hafter, hy⟩ := afterCurrent_quiet (r := r) hshown hquiet (by rw [hdrop]; exact hp)
  rw [htrip] at hfault
  refine ⟨dropPending e d t, _, y, hrests, ?_, ?_, ?_, ?_, ?_, ?_, ?_, ?_, rfl, by rw [hfault]; exact hafter, fun hm => hy ?_⟩
  · rw [dropped.door]
  · rw [dropped.door]
    exact hdrive
  · rw [dropped.door]
    exact htarget.trans h.target
  · rw [dropped.door]
    exact hdeferral
  · rw [dropped.door]
    exact howed.trans (if_congr Iff.rfl rfl h.owed)
  · rw [dropped.door]
    rfl
  · rw [dropped.door]
    rfl
  · rw [dropped.door]
    rfl
  · rw [shouldMonitor_heard h.fitted (by rw [hdrop]; exact h.lost) (by rw [hdrop]; exact h.first), henable, hm]
    simp only [List.mem_cons, List.not_mem_nil, or_false, not_or] at hfit
    simp [hfit]

end Untold

end

end Sys2Proof.Machine
end

section
/-! COOLING_EXPIRY and the compared reply (R100 to R108, R128, R129). -/

namespace Sys2Proof.Machine

section
variable {e : Env} {d : DoorNo} {g : Segment} {r : Reply} {ap lk : Bool} {x : Door}

/-! ## The pulse before the drive current -/

theorem tamperBegins_pulse {sub : SubReason} : ((tamperBegins e d sub g).door d).drop.pulse = (g.door d).drop.pulse := by
  unfold tamperBegins
  split
  · rfl
  · rw [raiseKind, listException_door]
    exact door_upd_read e d _ g fun x => x.drop.pulse

theorem tamperCheck_pulse : ((tamperCheck e d g).door d).drop.pulse = (g.door d).drop.pulse := by
  unfold tamperCheck
  dsimp only
  split
  · exact door_upd_read e d _ g fun x => x.drop.pulse
  · rfl

theorem takeCondition_pulse : ((takeCondition e d r g).door d).drop.pulse = (g.door d).drop.pulse := by
  have taken : ((g.upd e d (fun x => { x with drop := { x.drop with lastLocalFault := r.localFault } })).door d).drop.pulse
      = (g.door d).drop.pulse := door_upd_read e d _ g fun x => x.drop.pulse
  unfold takeCondition
  dsimp only
  split
  · exact taken
  · split
    · exact tamperBegins_pulse.trans taken
    · exact tamperCheck_pulse.trans taken

theorem replyTold_pulse (hp : changedInput (g.door d).inputs.position (namedInputs (e.profile d) r).position = none)
    (hx : changedInput (g.door d).inputs.exitRequest (namedInputs (e.profile d) r).exitRequest ≠ some true) :
    ((replyTold e d r g).door d).drop.pulse = (g.door d).drop.pulse := by
  have conditioned : ((conditioned e d r g).door d).drop.pulse = (g.door d).drop.pulse :=
    takeCondition_pulse.trans (by rw [replied_door]; rfl)
  unfold replyTold replyPositioned
  rw [positionTold_unchanged hp, eventsTold_eq, exitsTold_none hx, tamperCheck_pulse]
  split
  · exact tamperBegins_pulse.trans conditioned
  · exact conditioned

end

/-! ## What the drive current comes to -/

theorem decide_above (a i : Nat) : decide (a < i) = !decide (i ≤ a) := by
  rw [← decide_not]
  exact decide_eq_decide.mpr (Nat.not_le).symm

theorem decide_open (st : DoorState) (a i : Nat) :
    decide (st = .driving ∨ i < a) = !decide (st ≠ .driving ∧ a ≤ i) := by
  rw [← decide_not]
  refine decide_eq_decide.mpr ?_
  rw [not_and_or, not_not, Nat.not_le]

namespace Untold

variable {e : Env} {d : DoorNo} {g : Segment} {r : Reply} {ap lk : Bool} {x : Door} (h : Untold e d x g)

include h

/-- A compared reply without a fault: the counts, the flags, and what stands (R101 to R103, R108). -/
theorem counts (hc : compared e d ap lk g = true) (ho : ¬ x.overFault (e.profile d) r.current)
    (hu : ¬ x.underFault (e.profile d) r.current) :
    let p := e.profile d
    let y := (afterCurrent e d r (supervise e d ap lk r.current g)).door d
    y.mon.watch = x.mon.watch
    ∧ y.sup = ⟨overCount p r.current x.sup.overCount, underNow p x.eng.state r.current x.sup.underCount⟩ ∧ y.eng.state = x.eng.state
    ∧ y.eng.drive = x.eng.drive ∧ y.charge = x.charge
    ∧ y.eng.live.overcurrent = (x.eng.live.overcurrent && decide (p.overLimit - p.hysteresis < r.current))
    ∧ y.eng.live.openCircuit = (x.eng.live.openCircuit
        && decide (x.eng.state = .driving ∨ r.current < p.underLimit + p.hysteresis)) := by
  intro p y
  have tested := h.counted (r := r) hc ho hu
  refine ⟨tested.watch.trans (congrArg Monitor.watch h.mon), tested.sup, tested.state.trans h.state, tested.drive.trans h.drive,
    tested.charge.trans h.charge, ?_, ?_⟩
  · refine (congrArg Live.overcurrent tested.live).trans ?_
    show ((g.door d).eng.live.overcurrent && !decide _) = _
    rw [h.overcurrent, decide_above]
  · refine (congrArg Live.openCircuit tested.live).trans ?_
    show ((g.door d).eng.live.openCircuit && !decide _) = _
    rw [h.openCircuit, h.state, decide_open]

/-- The flags of a fault by its kind. -/
theorem flags {k : Kind} {u : Bool} {y z : Door} (ht : Tested z y)
    (hlive : z.eng.live = ((g.door d).recounted (e.profile d) r.current u).eng.live.put k true)
    (hsticky : z.eng.sticky = ((g.door d).recounted (e.profile d) r.current u).eng.sticky.set k none)
    (ho : x.overFault (e.profile d) r.current → k = .overcurrent ∧ u = false) (hu : ¬ x.overFault (e.profile d) r.current → k = .openCircuit) :
    (x.overFault (e.profile d) r.current → y.eng.live.overcurrent = true ∧ y.eng.sticky.overcurrent = true
      ∧ y.eng.live.openCircuit = x.eng.live.openCircuit)
    ∧ (¬ x.overFault (e.profile d) r.current → y.eng.live.openCircuit = true ∧ y.eng.sticky.openCircuit = true) := by
  have hl := ht.live
  have hs := ht.sticky
  rw [hlive] at hl
  rw [hsticky] at hs
  refine ⟨fun hf => ?_, fun hf => ?_⟩
  · obtain ⟨rfl, rfl⟩ := ho hf
    rw [hl, hs]
    refine ⟨rfl, rfl, ?_⟩
    show ((g.door d).eng.live.openCircuit && !false) = _
    rw [Bool.not_false, Bool.and_true, h.openCircuit]
  · obtain rfl := hu hf
    rw [hl, hs]
    exact ⟨rfl, rfl⟩

/-- A fault without a pending target to take (R103 to R105, R128). -/
theorem faults (hc : compared e d ap lk g = true)
    (hf : x.overFault (e.profile d) r.current ∨ x.underFault (e.profile d) r.current)
    (hz : x.eng.pendingTarget = none ∨ x.eng.state = .faulted) :
    let p := e.profile d
    let y := (afterCurrent e d r (supervise e d ap lk r.current g)).door d
    y.mon.watch = (if x.eng.state ≠ .faulted then none else x.mon.watch)
    ∧ y.sup = ⟨0, 0⟩ ∧ y.eng.drive = false ∧ y.charge = ⟨0, .none, 0, 0⟩
    ∧ (x.overFault p r.current → y.eng.live.overcurrent = true ∧ y.eng.sticky.overcurrent = true
        ∧ y.eng.live.openCircuit = x.eng.live.openCircuit)
    ∧ (¬ x.overFault p r.current → y.eng.live.openCircuit = true ∧ y.eng.sticky.openCircuit = true)
    ∧ y.eng.target = x.eng.target
    ∧ (x.eng.state = .faulted → y.eng.state = .faulted)
    ∧ (x.eng.state ≠ .faulted → y.eng.deferral = .none
      ∧ (p.faultLatch = true → y.eng.state = .faulted ∧ y.eng.owed = none)
      ∧ (p.faultLatch = false → y.eng.state = .cooling ∧ y.eng.timer = ⟨30, 0, true⟩ ∧ y.eng.owed = x.eng.owed)) := by
  intro p y
  by_cases hs : x.eng.state = .faulted
  · obtain ⟨k, u, tested, ho, hu⟩ := h.faulted (r := r) hc hf hs
    obtain ⟨hover, hunder⟩ := h.flags tested rfl rfl ho hu
    rw [if_neg (not_not.mpr hs)]
    exact ⟨tested.watch.trans (congrArg Monitor.watch h.mon), tested.sup, tested.drive, tested.charge, hover, hunder,
      tested.target.trans h.target, fun _ => tested.state.trans (h.state.trans hs), fun hn => absurd hs hn⟩
  · obtain ⟨k, u, tested, ho, hu⟩ := h.trips (r := r) hc hf hs (hz.resolve_right hs)
    obtain ⟨hdrive, htarget, hdeferral, howed, hlive, hsticky, htimer⟩ := tripped_reads p k ((g.door d).recounted p r.current u)
    have hstate := tripped_state p k ((g.door d).recounted p r.current u)
    obtain ⟨hover, hunder⟩ := h.flags tested hlive hsticky ho hu
    rw [if_pos hs]
    refine ⟨tested.watch, tested.sup, tested.drive.trans hdrive, tested.charge, hover, hunder, tested.target.trans (htarget.trans h.target),
      fun hn => absurd hn hs, fun _ => ⟨tested.deferral.trans hdeferral, fun hl => ⟨tested.state.trans (hstate.trans (if_pos hl)),
        tested.owed.trans (howed.trans (if_pos hl))⟩, fun hl => ?_⟩⟩
    have hnot : ¬ p.faultLatch = true := by simp [hl]
    exact ⟨tested.state.trans (hstate.trans (if_neg hnot)),
      (tested.timer (by rw [hstate, if_neg hnot]; decide)).trans (htimer hl), tested.owed.trans ((howed.trans (if_neg hnot)).trans h.owed)⟩

/-- All that a reply comes to by its drive current, where a fault takes no pending target; C, O and U say that it is compared, that it
raises OVERCURRENT and that it raises OPEN_CIRCUIT. -/
theorem comes {C O U : Prop} {n m : Nat} (hC : compared e d ap lk g = true ↔ C) (hO : x.overFault (e.profile d) r.current ↔ O)
    (hU : ¬ O ∧ x.underFault (e.profile d) r.current ↔ U) (hn : overCount (e.profile d) r.current x.sup.overCount = n)
    (hm : underNow (e.profile d) x.eng.state r.current x.sup.underCount = m)
    (hz : x.eng.pendingTarget = none ∨ ¬ (C ∧ (O ∨ U)) ∨ x.eng.state = .faulted) [Decidable (C ∧ (O ∨ U) ∧ x.eng.state ≠ .faulted)] :
    let p := e.profile d
    let y := (afterCurrent e d r (supervise e d ap lk r.current g)).door d
    (y.mon.watch = (if C ∧ (O ∨ U) ∧ x.eng.state ≠ .faulted then none else x.mon.watch))
    ∧ (¬ C → y.sup = x.sup ∧ y.eng.live.overcurrent = x.eng.live.overcurrent ∧ y.eng.live.openCircuit = x.eng.live.openCircuit)
    ∧ (C → ¬ O → ¬ U → y.sup = ⟨n, m⟩ ∧ y.eng.state = x.eng.state ∧ y.eng.drive = x.eng.drive ∧ y.charge = x.charge
      ∧ y.eng.live.overcurrent = (x.eng.live.overcurrent && decide (p.overLimit - p.hysteresis < r.current))
      ∧ y.eng.live.openCircuit = (x.eng.live.openCircuit
          && decide (x.eng.state = .driving ∨ r.current < p.underLimit + p.hysteresis)))
    ∧ (C → O ∨ U → y.sup = ⟨0, 0⟩ ∧ y.eng.drive = false ∧ y.charge = ⟨0, .none, 0, 0⟩
      ∧ (O → y.eng.live.overcurrent = true ∧ y.eng.sticky.overcurrent = true ∧ y.eng.live.openCircuit = x.eng.live.openCircuit)
      ∧ (U → y.eng.live.openCircuit = true ∧ y.eng.sticky.openCircuit = true)
      ∧ y.eng.target = x.eng.target
      ∧ (x.eng.state = .faulted → y.eng.state = .faulted)
      ∧ (x.eng.state ≠ .faulted → y.eng.deferral = .none
        ∧ (p.faultLatch = true → y.eng.state = .faulted ∧ y.eng.owed = none)
        ∧ (p.faultLatch = false → y.eng.state = .cooling ∧ y.eng.timer = ⟨30, 0, true⟩ ∧ y.eng.owed = x.eng.owed))) := by
  intro p y
  by_cases hc : C
  case neg =>
    have tested := h.uncompared (r := r) (fun hcompared => hc (hC.mp hcompared))
    rw [if_neg fun hall => hc hall.1]
    refine ⟨tested.watch.trans (congrArg Monitor.watch h.mon), fun _ => ⟨tested.sup.trans h.sup, ?_, ?_⟩, fun hc' => absurd hc' hc,
      fun hc' => absurd hc' hc⟩
    · exact (congrArg Live.overcurrent tested.live).trans h.overcurrent
    · exact (congrArg Live.openCircuit tested.live).trans h.openCircuit
  by_cases hf : O ∨ U
  case neg =>
    obtain ⟨hno, hnu⟩ := not_or.mp hf
    obtain ⟨hwatch, hsup, hrest⟩ := h.counts (r := r) (hC.mpr hc) (fun ho => hno (hO.mp ho)) fun hu => hnu (hU.mp ⟨hno, hu⟩)
    rw [if_neg fun hall => hf hall.2.1]
    exact ⟨hwatch, fun hc' => absurd hc hc', fun _ _ _ => ⟨hsup.trans (by rw [hn, hm]), hrest⟩, fun _ hf' => absurd hf' hf⟩
  have hfault : x.overFault p r.current ∨ x.underFault p r.current := hf.imp hO.mpr fun hu => (hU.mpr hu).2
  obtain ⟨hwatch, hsup, hdrive, hcharge, hover, hunder, hrest⟩ := h.faults (r := r) (hC.mpr hc) hfault
    (hz.imp_right fun hz => hz.resolve_left (not_not.mpr ⟨hc, hf⟩))
  refine ⟨hwatch.trans (if_congr ⟨fun hs => ⟨hc, hf, hs⟩, fun hall => hall.2.2⟩ rfl rfl), fun hc' => absurd hc hc',
    fun _ hno hnu => absurd hf (not_or.mpr ⟨hno, hnu⟩), fun _ _ => ⟨hsup, hdrive, hcharge, fun ho => hover (hO.mpr ho),
      fun hu => hunder fun ho => (hU.mpr hu).1 (hO.mp ho), hrest⟩⟩

end Untold

/-! ## The reply -/

theorem current_heard (b : BranchNo) (k : DropNo) (r : BranchRecord) (rest : List Reception) (s : State) (ha : HeardAgain b k r s) :
    let y := s.seg.branch b
    let d := doorAt b k
    let x := s.seg.door d
    let p := s.env.profile d
    let i := (replyOf r).current
    let on := if s.seg.fire.latch || x.eng.state == .outOfService then false
      else if x.eng.state = .holding then x.heldDrive p else x.eng.drive
    let compares : Prop := p.lockKind ≠ .motor ∧ p.assigns .lockDrive = true ∧ y.sentApply = true ∧ y.sentLock = true ∧ on = true
    let over' := if p.overLimit < i then x.sup.overCount + 1
      else if i + p.hysteresis ≤ p.overLimit ∨ i = 0 then 0 else x.sup.overCount
    let under' := if x.eng.state = .driving then x.sup.underCount
      else if i < p.underLimit then x.sup.underCount + 1
      else if p.underLimit + p.hysteresis ≤ i then 0 else x.sup.underCount
    let overFault : Prop := x.sup.overCount < over' ∧ p.persistence ≤ over'
    let underFault : Prop := ¬ overFault ∧ x.sup.underCount < under' ∧ p.persistence ≤ under'
    p.readAs .position (replyOf r).inputs = x.inputs.position → p.readAs .exitRequest (replyOf r).inputs = x.inputs.exitRequest →
    (x.mon.watch = none ∨ x.mon.enable
      = (x.eng.state != .absent && x.eng.state != .outOfService && p.assigns .position)) →
    (x.eng.state = .verifying → ∀ q, x.eng.target = some q →
      { x with inputs := namedInputs p (replyOf r) }.sensedAs (some q) p ≠ some q) →
    (compares → overFault ∨ underFault → ∀ z, x.eng.pendingTarget = some z → x.drop.pulse = .none →
      x.eng.state ≠ .faulted →
      ∃ t h, exec (.replyWindowEnd b (.record r :: rest)) s = .next (settled { s with seg := t })
        ∧ (h.door d).eng.state = (if p.faultLatch then .faulted else .cooling) ∧ (h.door d).eng.pendingTarget = none
        ∧ (h.door d).eng.drive = false ∧ (h.door d).eng.target = x.eng.target ∧ (h.door d).eng.deferral = .none
        ∧ (h.door d).eng.owed = (if p.faultLatch then none else x.eng.owed)
        ∧ (h.door d).sup = ⟨0, 0⟩ ∧ (h.door d).charge = ⟨0, .none, 0, 0⟩ ∧ (h.door d).mon.watch = none
        ∧ (let k := targetSet s.env d z.posture z.params z.owed h
          t = { k with branches := t.branches, doors := t.doors } ∧ (∀ j, j ≠ d → t.door j = k.door j)
          ∧ (x.eng.state ≠ .absent → x.mon.enable = p.assigns .position →
            t.door d = { k.door d with drop := (t.door d).drop })))
    ∧ (x.eng.pendingTarget = none ∨ ¬ (compares ∧ (overFault ∨ underFault)) ∨ x.eng.state = .faulted →
      ∃ g, exec (.replyWindowEnd b (.record r :: rest)) s = .next (settled { s with seg := g })
      ∧ ((g.door d).mon.watch = (if compares ∧ (overFault ∨ underFault) ∧ x.eng.state ≠ .faulted then none else x.mon.watch))
      ∧ (¬ compares → (g.door d).sup = x.sup ∧ (g.door d).eng.live.overcurrent = x.eng.live.overcurrent
          ∧ (g.door d).eng.live.openCircuit = x.eng.live.openCircuit)
      ∧ (compares → ¬ overFault → ¬ underFault → (g.door d).sup = ⟨over', under'⟩ ∧ (g.door d).eng.state = x.eng.state
          ∧ (g.door d).eng.drive = x.eng.drive ∧ (g.door d).charge = x.charge
          ∧ (g.door d).eng.live.overcurrent = (x.eng.live.overcurrent && decide (p.overLimit - p.hysteresis < i))
          ∧ (g.door d).eng.live.openCircuit = (x.eng.live.openCircuit
              && decide (x.eng.state = .driving ∨ i < p.underLimit + p.hysteresis)))
      ∧ (compares → overFault ∨ underFault →
          (g.door d).sup = ⟨0, 0⟩ ∧ (g.door d).eng.drive = false ∧ (g.door d).charge = ⟨0, .none, 0, 0⟩
          ∧ (overFault → (g.door d).eng.live.overcurrent = true ∧ (g.door d).eng.sticky.overcurrent = true
              ∧ (g.door d).eng.live.openCircuit = x.eng.live.openCircuit)
          ∧ (underFault → (g.door d).eng.live.openCircuit = true ∧ (g.door d).eng.sticky.openCircuit = true)
          ∧ (g.door d).eng.target = x.eng.target
          ∧ (x.eng.state = .faulted → (g.door d).eng.state = .faulted)
          ∧ (x.eng.state ≠ .faulted → (g.door d).eng.deferral = .none
            ∧ (p.faultLatch = true → (g.door d).eng.state = .faulted ∧ (g.door d).eng.owed = none)
            ∧ (p.faultLatch = false → (g.door d).eng.state = .cooling ∧ (g.door d).eng.timer = ⟨30, 0, true⟩
                ∧ (g.door d).eng.owed = x.eng.owed)))) := by
  intro y d x p i on compares over' under' overFault underFault hposition hexit hstill hshown
  have hp : changedInput x.inputs.position (namedInputs p (replyOf r)).position = none := changedInput_same hposition.symm
  have hx : changedInput x.inputs.exitRequest (namedInputs p (replyOf r)).exitRequest ≠ some true := by
    have hnone : changedInput x.inputs.exitRequest (namedInputs p (replyOf r)).exitRequest = none := changedInput_same hexit.symm
    rw [hnone]
    exact nofun
  have told := replyTold_attended (e := s.env) (d := d) (g := s.seg) (r := replyOf r) hp hx
  have hpulse := replyTold_pulse (e := s.env) (d := d) (g := s.seg) (r := replyOf r) hp hx
  let goes (g : Segment) : Prop := exec (.replyWindowEnd b (.record r :: rest)) s = .next (settled { s with seg := g })
  have hgoes : goes (left s.env b k (afterCurrent s.env d (replyOf r)
      (supervise s.env d y.sentApply y.sentLock i (replyTold s.env d (replyOf r) s.seg)))) := by
    show exec _ s = _
    rw [ha.leaves (rest := rest), heard_current]
  generalize replyTold s.env d (replyOf r) s.seg = t at told hpulse hgoes
  have hreplied : (s.seg.putDoor d (x.replied p (replyOf r))).door d = x.replied p (replyOf r) := door_putDoor_same ..
  have huntold : Untold s.env d (x.replied p (replyOf r)) t := {
    attended := told.door.trans (congrArg Door.attended hreplied)
    fitted := ha.fitted
    present := ha.present
    seen := ha.seen
    unqueued := by
      rw [Unqueued, told.queue]
      exact ha.unqueued
    still := hstill
    unshown := by
      have heng := (told.of_attended attends_engaged)
      refine Unshown.heeded heng ?_
      unfold Unshown
      rw [hreplied]
      exact fun hs q ht hq => hshown hs q ht hq }
  have hon : (t.door d).levelOn t.fire.latch p = on := by
    rw [told.fire]
    exact huntold.read (fun z => z.levelOn s.seg.fire.latch p) fun _ => rfl
  have hcompares : compared s.env d y.sentApply y.sentLock t = true ↔ compares := by
    rw [compared_iff, hon]
  have hover : (x.replied p (replyOf r)).overFault p i ↔ overFault := by
    unfold Door.overFault
    rw [overCount_eq]
    exact Iff.rfl
  have hunder : ¬ overFault ∧ (x.replied p (replyOf r)).underFault p i ↔ underFault := Iff.rfl
  refine ⟨fun hc hf z hz hpul hs => ?_, fun hz => ?_⟩
  · obtain ⟨h, k', w, hstate, hpend, hdrive, htarget, hdeferral, howed, hsup, hcharge, hwatch, hset, hafter, hdrop⟩ :=
      huntold.replaced (r := replyOf r) (hpulse.trans hpul) (hcompares.mpr hc)
        (hf.imp hover.mpr fun hu => (hunder.mpr hu).2) hs hz
    rw [hafter, left_eq] at hgoes
    refine ⟨_, h, hgoes, hstate, hpend, hdrive, htarget, hdeferral, howed, hsup, hcharge, hwatch, ?_⟩
    show (_ : Prop) ∧ _
    rw [← hset]
    refine ⟨rfl, fun j hj => door_putDoor_ne _ _ _ _ hj, fun _ hm => ?_⟩
    show (k'.putDoor d w).door d = { k'.door d with drop := ((k'.putDoor d w).door d).drop }
    rw [door_putDoor_same]
    exact hdrop hm
  · refine ⟨_, hgoes, ?_⟩
    rw [left_door]
    exact huntold.comes hcompares hover hunder (overCount_eq ..) rfl hz

end Sys2Proof.Machine

namespace Sys2Proof
open Machine

/-- Settles O59: COOLING_EXPIRY takes the door by its retry count, a compared reply by the counts of its drive current, and a change of a
door by the level it leaves. -/
theorem coolingEnds : Obligations.CoolingEnds := by
  refine ⟨fun d s hp hu => ?_, fun b k r rest s => current_heard b k r rest s, fun e d f g => upd_eq e d f g⟩
  obtain ⟨helse, htoward, hstrike⟩ := cooling_ends d s hp hu
  exact ⟨helse, fun hs hr => cooling_goes hp hu hs hr, htoward, hstrike, fun hs hr => cooling_faults hp hs hr⟩

end Sys2Proof
end

section
/-! REPLY_WINDOW_END at a door that stands in the queue in a state other than AWAIT_GRANT (R58, R68, R87):
no invariant of the queue stands among the hypotheses, and the FOUND notice grants such a door after its enable has been evaluated. -/

namespace Sys2Proof.Machine

/-! ## Settling does not hide a run -/

/-- A run is active, or one has left its summary. -/
def Sequencer.hasRun (q : Sequencer) : Prop := q.run ≠ none ∨ q.summary ≠ none

theorem completeRun_hasRun (e : Env) (r : Run) (g : Segment) : (completeRun e r g).seqr.hasRun := by
  refine .inr ?_
  unfold completeRun
  dsimp only
  split <;> exact nofun

theorem runDue_hasRun (e : Env) (n : Nat) {g : Segment} (h : g.seqr.hasRun) : (runDue e n g).seqr.hasRun := by
  induction n generalizing g with
  | zero => exact h
  | succ n ih =>
    unfold runDue
    split
    · exact h
    · next r hr =>
      split
      · obtain ⟨r', hr', -⟩ := (beginStep_sameRun e _ g).runs r hr
        exact ih (.inl (by rw [hr']; exact nofun))
      · split
        · exact ih (completeRun_hasRun e r g)
        · exact h

/-- A segment that settles to one that has had no run is that one. -/
theorem eq_of_settle_eq {e : Env} {g t : Segment} (h : settle e g = settle e t) (ht : ¬ t.seqr.hasRun) : g = t := by
  have rests {k : Segment} (hk : ¬ k.seqr.hasRun) : settle e k = k :=
    settle_of_no_run e k (by_contra fun hr => hk (.inl hr))
  rw [rests ht] at h
  have hg : ¬ g.seqr.hasRun := fun hg => ht (h ▸ runDue_hasRun e 64 hg)
  exact (rests hg).symm.trans h

theorem seg_of_settled_eq {s : State} {g t : Segment} (h : settled { s with seg := g } = settled { s with seg := t })
    (ht : ¬ t.seqr.hasRun) : g = t := eq_of_settle_eq (e := s.env) (congrArg State.seg h) ht

/-! ## The counterexample -/

/-- Door 3, OUT_OF_SERVICE, with a LOST drop at its seventh good reply. -/
def awayDoor : Door := { Door.initial .default with
  eng := { (Door.initial .default).eng with state := .outOfService }
  drop := { (Door.initial .default).drop with lost := true, goodCount := 7, firstReply := true } }

/-- A running controller with door 3 fitted, its profile with POSITION on terminal 1, in the slot of its drop; and door 3 in the queue. -/
def misqueued : State := { State.reset with
  power := .running
  work := { State.reset.work with
    profile := State.reset.work.profile.set 0 ⟨positioned, false⟩
    door := State.reset.work.door.set 3 ⟨⟨true, 0, 0, 0, .secured⟩, false⟩ }
  seg := { (State.reset.seg.putDoor 3 awayDoor).putBranch 0 { Branch.initial with visiting := some 3 } with
    learning := false, queue := [⟨3, 0⟩] } }

/-- The reply of drop 3. -/
def found : BranchRecord := replyRecord ⟨3, 0, false, 0, 0, 0⟩

theorem misqueued_good : GoodReply 0 3 found misqueued := by
  refine ⟨rfl, ?_, ?_, ?_, ?_, ?_⟩ <;> decide +kernel

/-- The FOUND notice grants the queue's head, after the enable has been evaluated for a door OUT_OF_SERVICE. -/
theorem misqueued_granted :
    let t := replyEnd misqueued.env 0 [.record found] misqueued.seg
    t.seqr.run = none ∧ t.seqr.summary = none ∧ (t.door 3).mon.enable = false ∧ (t.door 3).eng.state = .driving := by
  decide +kernel

end Sys2Proof.Machine

namespace Sys2Proof
open Machine

/-- What O45 states of the enable after a reply that is taken. -/
theorem enable_stated (hall : Obligations.ReplyWindow) {b : BranchNo} {k : DropNo} {r : BranchRecord} {rest : List Reception} {s : State}
    (h : GoodReply b k r s) (hs : (s.seg.door (doorAt b k)).drop.leaving ≠ .lastVisit)
    (hg : 7 ≤ (s.seg.door (doorAt b k)).drop.goodCount) :
    ∃ g, exec (.replyWindowEnd b (.record r :: rest)) s = .next (settled { s with seg := g })
      ∧ (g.door (doorAt b k)).mon.enable = (s.env.fitted (doorAt b k) && (g.door (doorAt b k)).eng.state != .absent
        && (g.door (doorAt b k)).eng.state != .outOfService && (s.env.profile (doorAt b k)).assigns .position) := by
  obtain ⟨-, -, htaken⟩ := hall b (.record r :: rest) s h.running
  obtain ⟨g, hgoes, -, -, -, -, -, -, -, -, -, -, henable, -⟩ := htaken k r rest rfl h hs (.inr hg)
  exact ⟨g, hgoes, henable⟩

/-- Refutes O45: where the queue holds a door OUT_OF_SERVICE, a state that QueueOk excludes, its FOUND reply evaluates the enable, OFF, and
then has the door granted, into DRIVING, where the enable is stated to be ON. -/
theorem not_replyWindow : ¬ Obligations.ReplyWindow := by
  intro hall
  have stays : (misqueued.seg.door (doorAt 0 3)).drop.leaving ≠ .lastVisit := by decide +kernel
  have eighth : 7 ≤ (misqueued.seg.door (doorAt 0 3)).drop.goodCount := by decide +kernel
  obtain ⟨g, hgoes, henable⟩ := enable_stated hall (rest := []) misqueued_good stays eighth
  obtain ⟨hrun, hsummary, hoff, hdriving⟩ := misqueued_granted
  obtain rfl : g = replyEnd misqueued.env 0 [.record found] misqueued.seg :=
    seg_of_settled_eq (Host.Outcome.next.inj (hgoes.symm.trans (exec_replyWindowEnd rfl _))) fun hr => hr.elim (fun h => h hrun) fun h => h hsummary
  have hdoor : doorAt 0 3 = 3 := by decide
  rw [hdoor, hoff, hdriving] at henable
  exact absurd henable (by decide +kernel)

end Sys2Proof
end
